-- ==== Sys2Proof/Word.lean ====
section
/-!
DEFINITION. Words and names of the Delso 4216 (00_scope.md, "The numbers"; chapter 1.1).
-/

namespace Sys2Proof

/-- A register, a link word or one halfword of a value. -/
abbrev Halfword := BitVec 16

/-- A node ID, 0 to 15. -/
abbrev NodeId := BitVec 4

/-- A mask of nodes: bit n stands for node n (00_scope.md, "Node masks"). -/
abbrev NodeMask := BitVec 16

/-- A variable number: home node ID in bits 11–8, index at the home in bits 7–0 (R1). -/
abbrev VarNum := BitVec 12

/-- The tag of a command. -/
abbrev Tag := BitVec 8

/-- A variable's value: halfwords h0 to h7 (R2). -/
abbrev Value := Vector Halfword 8

/-- The position of a copy entry, 0 to 31 (R23). -/
abbrev EntryIx := Fin 32

/-- The number of a tracker slot, 0 to 3 (R114). -/
abbrev SlotIx := Fin 4

/-- The number of a hold record, 0 to 3 (R137). -/
abbrev HoldIx := Fin 4

end Sys2Proof
end

