-- ==== Sys2Proof/Syntax.lean ====
section
/-!
DEFINITION. The commands of the block: one constructor of `Instr` per row of spec/opcode_table.json.
-/

namespace Sys2Proof

/-- The five statistics counters (R176). -/
inductive Counter where
  | retry
  | clear
  | reclaim
  | discard
  | proto
  deriving DecidableEq, Repr

/-- Levels of the five response lines of a response word (R57). -/
structure RespLines where
  haveLine  : Bool
  modLine   : Bool
  retryLine : Bool
  homeLine  : Bool
  denyLine  : Bool
  deriving DecidableEq, Repr

/-- What the other participants do after an empty request word (R79): one of them opens another word at once,
none has opened one yet, or none is left driving LBUSY and it falls. -/
inductive AfterEmpty where
  | opens
  | stalls
  | lbusyFalls
  deriving DecidableEq, Repr

/-- The commands. Operands named after a register are the halfwords the host stages or writes there, whole: which of
their bits count is the meaning's business (R95, R197). Operands of link events are the levels this node observes. -/
inductive Instr where
  /-- LOAD (R103): the host stages CMD (code 1) and CVAR and writes SUBMIT. -/
  | load (tag : Tag) (cvar : Halfword)
  /-- STORE (R104): CMD (code 2), CVAR, CARG0 and STAGE0–7 are staged, SUBMIT is written. -/
  | store (tag : Tag) (cvar carg0 : Halfword) (payload : Value)
  /-- SWAP (R105): CMD (code 3), CVAR, CARG0, CARG1 and STAGE0–7 are staged, SUBMIT is written. -/
  | swap (tag : Tag) (cvar carg0 carg1 : Halfword) (payload : Value)
  /-- RELEASE (R106): CMD (code 4) and CVAR are staged, SUBMIT is written. -/
  | release (tag : Tag) (cvar : Halfword)
  /-- HOLD (R107): CMD (code 5), CVAR and CARG0 are staged, SUBMIT is written. -/
  | hold (tag : Tag) (cvar carg0 : Halfword)
  /-- UNHOLD (R108): CMD (code 6) and CVAR are staged, SUBMIT is written. -/
  | unhold (tag : Tag) (cvar : Halfword)
  /-- GUARD (R109): CMD (code 7), CVAR and CARG0 are staged, SUBMIT is written. -/
  | guard (tag : Tag) (cvar carg0 : Halfword)
  /-- NOTICE (R110): CMD (code 8), CARG0, CARG1 and STAGE0–7 are staged, SUBMIT is written. -/
  | notice (tag : Tag) (carg0 carg1 : Halfword) (payload : Value)
  /-- FLUSH (R111): CMD (code 9) is staged, SUBMIT is written. -/
  | flush (tag : Tag)
  /-- JOIN (R112): CMD (code 10) is staged, SUBMIT is written. -/
  | join (tag : Tag)
  /-- LEAVE (R113): CMD (code 11) is staged, SUBMIT is written. -/
  | leave (tag : Tag)
  /-- A host write to CQPOP (R169). -/
  | cqpop
  /-- A host write to NQPOP (R162). -/
  | nqpop
  /-- A host write of `word` to CONTROL with SOFTRESET written as 1 (R194). -/
  | softreset (word : Halfword)
  /-- A host write of `word` to CONTROL with LINKCLEAR written as 1 (R90). -/
  | linkclear (word : Halfword)
  /-- A host write to CONTROL that writes NPAUSE as `on` and the enables as they stand (R163). -/
  | npause (on : Bool)
  /-- A host write to CONTROL that writes CQE as `on` and the other fields as they stand (R175). -/
  | cqe (on : Bool)
  /-- A host write to CONTROL that writes NQE as `on` and the other fields as they stand (R175). -/
  | nqe (on : Bool)
  /-- A host write to CONTROL that writes ATTE as `on` and the other fields as they stand (R175). -/
  | atte (on : Bool)
  /-- A host write of `word` to CAUSE (R200). -/
  | causeClear (word : Halfword)
  /-- A host write to a counter register (R177). -/
  | counterClear (which : Counter)
  /-- A host write of `word` to the register at byte offset `offset` (R196, R197). -/
  | registerWrite (offset : BitVec 7) (word : Halfword)
  /-- The POR input is asserted (R195). -/
  | por
  /-- The POR input is released with the ID straps at `straps` (R195). -/
  | porRelease (straps : NodeId)
  /-- LBUSY is observed asserted on an idle link; `wordOpens` says whether another participant changes VALID in the
  same event (R75, R77). -/
  | arbitrationPhaseOpen (wordOpens : Bool)
  /-- A request word completes with the levels `ld`; `next` says what the others do after an empty word (R78, R79). -/
  | requestWord (ld : Halfword) (next : AfterEmpty)
  /-- H0 is taken (R49). -/
  | h0Taken (ld : Halfword)
  /-- H1 is taken (R54). -/
  | h1Taken (ld : Halfword)
  /-- The open header or data word completes; `ld` is read by the sender of a header word (R74, R185). -/
  | wordComplete (ld : Halfword)
  /-- The requester opens the response word of a NOTICE (R153). -/
  | noticeResponseOpen
  /-- The response word completes (R75). -/
  | responseWord (present : NodeMask) (lines : RespLines)
  /-- A data word is taken (R64). -/
  | dataWord (ld : Halfword)
  /-- LBUSY is observed released after the tenure's last word (R65). -/
  | tenureEnd
  /-- LCLR is observed asserted by another node (R91). -/
  | linkClear
  /-- LCLR is observed released (R90). -/
  | linkClearRelease
  /-- LBUSY is observed to fall before its time (R83). -/
  | earlyLbusyFall
  /-- This node's handshake wait expires (R88). -/
  | handshakeTimeout
  /-- This node's NOTICE response wait expires (R87). -/
  | noticeWaitExpiry
  /-- The timer of hold record `record` runs out (R141). -/
  | holdExpiry (record : HoldIx)
  /-- The back-off of slot `slot` expires (R129). -/
  | backoffExpiry (slot : SlotIx)
  /-- A LEAVE waiting for the end of a tenure or phase takes its final step (R192). -/
  | leaveFinalStep
  /-- The host stages CMD with a code of 0 or 12 to 15 and writes SUBMIT (R96). -/
  | badCodeSubmit (code : BitVec 4) (tag : Tag)
  deriving DecidableEq, Repr

end Sys2Proof
end

