-- ==== Sys2Proof/Config.lean ====
section
/-!
DEFINITION. The numbers fixed for the part (00_scope.md, "The numbers") and the model's own bounds. The spec leaves
no value open after which the part goes on, so no opaque constant stands here.
-/

namespace Sys2Proof.Config

/-- Version value in IDENT (R198). -/
def version : BitVec 8 := 0x12#8

/-- Records of the command queue (R99). -/
def queueCapacity : Nat := 8

/-- Credits of the completion path (R170). -/
def credits : Nat := 16

/-- Records of the inbound notice queue (R150). -/
def inboundCapacity : Nat := 16

/-- Largest value of a slot's tenures count (R114). -/
def tenuresLimit : Nat := 31

/-- Handshake timeout after POR, µs (R89). -/
def porHandshake : BitVec 8 := 50#8

/-- Retry limit after POR (R136). -/
def porRetryLimit : BitVec 5 := 15#5

/-- Back-off unit after POR, µs (R136). -/
def porBackoffUnit : BitVec 8 := 8#8

/-- Notice wait limit after POR, ms (R89). -/
def porNoticeWait : BitVec 8 := 10#8

/-- Length of an LCLR pulse, µs (R90). -/
def pulseMicros : Nat := 2

/-- Microseconds in one tick of hold time (R140). -/
def tickMicros : Nat := 100

/-- The straps as `State.reset` finds them. DESIGN CHOICE (log entry 8, unsafe): the spec fixes none; unused straps
are tied to ground (chapter 11.10). -/
def resetStraps : NodeId := 0#4

/-- Bound on the plans and starts of one event, for structural recursion. DESIGN CHOICE (log entry 14, safe): an
event starts at most 8 queued records and plans each busy slot a bounded number of times, well below this. -/
def settleBound : Nat := 64

end Sys2Proof.Config
end

