-- ==== Sys2Proof/Machine/State.lean ====
section
/-!
DEFINITION. The state of one Delso 4216 as plain data, and its value right after power-on reset.
-/

namespace Sys2Proof.Machine

/-- No command stops the part: protocol errors are counted (R71), link errors end in link clear (R88), and a refused
submit writes its result (R96). There is therefore no fault to raise; claims lose nothing by it (safe). -/
inductive Fault
  deriving DecidableEq, Repr

/-- Refusals of the model itself. -/
inductive Refusal where
  /-- Raised by `exec`'s arm of a command that has no meaning yet; safe: nothing can be proved of that command. -/
  | notModelled (mnemonic : String)
  deriving DecidableEq, Repr

/-! ## Participation, register storage -/

/-- States of the participation machine (R179). -/
inductive Participation where
  | offline
  | joining
  | online
  | draining
  deriving DecidableEq, Repr

/-- What SUBMIT reads back (R96). -/
inductive SubmitResult where
  | accepted
  | full
  | badCode
  | badArg
  | wrongState
  deriving DecidableEq, Repr

/-- The staging registers CMD, CVAR, CARG0, CARG1 and STAGE0–7 (R95). -/
structure Staging where
  cmd   : Halfword
  cvar  : Halfword
  carg0 : Halfword
  carg1 : Halfword
  stage : Value
  deriving DecidableEq, Repr

/-- The four timing fields as written, 0 included (R201). -/
structure Timing where
  handshake   : BitVec 8
  retryLimit  : BitVec 5
  backoffUnit : BitVec 8
  noticeWait  : BitVec 8
  deriving DecidableEq, Repr

/-- The fields of CONTROL that are kept (R199). -/
structure Control where
  npause : Bool
  cqe    : Bool
  nqe    : Bool
  atte   : Bool
  deriving DecidableEq, Repr

/-! ## Home store and copy table -/

/-- Guard of a home record (R5). -/
inductive Guard where
  | openAccess
  | homeOnly
  | privateAccess
  deriving DecidableEq, Repr

/-- State of a home record; LENT alone names a lender (R3). -/
inductive HomeState where
  | quiet
  | shared
  | lent (lender : NodeId)
  deriving DecidableEq, Repr

/-- A home record (chapter 1.2). Its index is its key in the store; bound is read from the tenure in progress (R6). -/
structure HomeRecord where
  value : Value
  state : HomeState
  guard : Guard
  deriving DecidableEq, Repr

/-- Eight zero halfwords. -/
def Value.zero : Value := Vector.replicate 8 0#16

/-- A home record after POR (R22). -/
def HomeRecord.blank : HomeRecord := ⟨Value.zero, .quiet, .openAccess⟩

/-- The home store: records by index in canonical form (`homeWf`), an unlisted index being blank; and the capture
buffer (R12), the words in order of arrival. -/
structure HomeUnit where
  records : List (Nat × HomeRecord)
  capture : List Halfword
  deriving DecidableEq, Repr

/-- States of a copy entry (R24). -/
inductive CopyState where
  | none
  | copy
  | owned
  | dirty
  deriving DecidableEq, Repr

/-- A copy entry (chapter 2.1). Bound is read from the tenure in progress, held from the hold table (R25). -/
structure CopyEntry where
  state      : CopyState
  tag        : Option VarNum
  value      : Value
  age        : Nat
  reservedBy : Option SlotIx
  deriving DecidableEq, Repr

/-- The copy table and the receive buffer (R33). -/
structure CopyUnit where
  entries : Vector CopyEntry 32
  receive : List Halfword
  deriving DecidableEq, Repr

/-! ## Commands, the queue and the tracker -/

/-- The codes 1 to 11 (R95). -/
inductive Code where
  | load
  | store
  | swap
  | release
  | hold
  | unhold
  | guard
  | notice
  | flush
  | join
  | leave
  deriving DecidableEq, Repr

/-- A command's code with the operands R98 lists for it. -/
inductive Body where
  | load (v : VarNum)
  | store (v : VarNum) (mask : BitVec 8) (payload : Value)
  | swap (v : VarNum) (compare : BitVec 32) (payload : Value)
  | release (v : VarNum)
  | hold (v : VarNum) (duration : BitVec 8)
  | unhold (v : VarNum)
  | guard (v : VarNum) (level : Guard)
  | notice (listeners : NodeMask) (payload : List Halfword)
  | flush
  | join
  | leave
  deriving DecidableEq, Repr

/-- A command queue record (R98); `seq` is its place in the order of admission (log entry 13). -/
structure Command where
  tag  : Tag
  seq  : Nat
  body : Body
  deriving DecidableEq, Repr

/-- The command port: staging registers, last result, command queue (head first) and the next admission number. -/
structure Port where
  staging : Staging
  result  : SubmitResult
  queue   : List Command
  nextSeq : Nat
  deriving DecidableEq, Repr

/-- The defined tenure kinds (R47); `giveBack` is RETURN. -/
inductive Kind where
  | read
  | own
  | claim
  | writeback
  | giveBack
  | purge
  | notice
  | join
  deriving DecidableEq, Repr

/-- A planned tenure (R125): its kind, its H1 word and, for a NOTICE, its payload. The flags follow from these and,
for a JOIN, from the cold flag at the win (R180). -/
structure Frame where
  kind    : Kind
  h1      : Halfword
  payload : List Halfword
  deriving DecidableEq, Repr

/-- What a slot in PLAN waits for (R117), and a LEAVE's wait for its final step (R192). -/
inductive Waiting where
  | binding
  | reservation
  | holds
  | tenureEnd
  deriving DecidableEq, Repr

/-- Phases of a slot (R115). -/
inductive SlotPhase where
  | free
  | plan
  | send
  | link
  | backoff
  deriving DecidableEq, Repr

/-- A tracker slot (R114), with the stranded list of a FLUSH or LEAVE (R188). -/
structure Slot where
  phase        : SlotPhase
  command      : Option Command
  unsuccessful : Nat
  tenures      : Nat
  entry        : Option EntryIx
  victim       : Option EntryIx
  frame        : Option Frame
  backoff      : Nat
  waiting      : Option Waiting
  stranded     : List EntryIx
  deriving DecidableEq, Repr

/-- A FREE slot keeps only its number and phase (R114). -/
def Slot.idle : Slot := ⟨.free, none, 0, 0, none, none, none, 0, none, []⟩

/-- The request tracker: four slots and the send pointer (R126). -/
structure Tracker where
  slots   : Vector Slot 4
  pointer : SlotIx
  deriving DecidableEq, Repr

/-! ## Holds, notices, completions -/

/-- An active hold record (R137): ticks remaining, and whole microseconds run of the current tick (R140). -/
structure HoldRecord where
  var       : VarNum
  tag       : Tag
  remaining : Nat
  micros    : Nat
  deriving DecidableEq, Repr

/-- An inbound notice record (R150); its length is the length of its payload. -/
structure NoticeRecord where
  sender  : NodeId
  payload : List Halfword
  deriving DecidableEq, Repr

/-- The notice unit: inbound queue (head first), the reservation, the receive buffer (R150, R156). -/
structure NoticeUnit where
  inbound  : List NoticeRecord
  reserved : Bool
  buffer   : List Halfword
  deriving DecidableEq, Repr

/-- The fifteen completion statuses (R166). -/
inductive Status where
  | ok
  | mismatch
  | denied
  | noHome
  | retryExhausted
  | linkTimeout
  | noticeTimeout
  | holdExpired
  | late
  | held
  | noRoom
  | holdFull
  | duplicateId
  | lost
  | cancelled
  deriving DecidableEq, Repr

/-- The variable or listener mask field of a completion record (R165). -/
inductive Subject where
  | absent
  | var (v : VarNum)
  | listeners (mask : NodeMask)
  deriving DecidableEq, Repr

/-- A completion record (R165). -/
structure Completion where
  tag       : Tag
  code      : Code
  subject   : Subject
  status    : Status
  attempts  : Nat
  value     : Option Value
  delivered : Option NodeMask
  deriving DecidableEq, Repr

/-- The latched CAUSE bits (R174). -/
structure Latched where
  linkErr : Bool
  reclaim : Bool
  discard : Bool
  roster  : Bool
  deriving DecidableEq, Repr

/-- The statistics counters, 16 bits each (R176). -/
structure Counters where
  retry   : BitVec 16
  clear   : BitVec 16
  reclaim : BitVec 16
  discard : BitVec 16
  proto   : BitVec 16
  deriving DecidableEq, Repr

/-- The completion unit: queue (head first), free credits, latched causes, counters (chapter 9). -/
structure CompletionUnit where
  queue    : List Completion
  free     : Nat
  latched  : Latched
  counters : Counters
  deriving DecidableEq, Repr

/-! ## The link unit -/

/-- Phases of the link unit (R81). -/
inductive LinkPhase where
  | idle
  | arbitrate
  | header
  | response
  | data
  | close
  | clear
  deriving DecidableEq, Repr

/-- The waits of R86 and the NOTICE response wait of R87. -/
inductive WaitKind where
  | wordCompletion
  | nextWord
  | tenureEnd
  | nextRequest
  | firstRequest
  | noticeResponse
  deriving DecidableEq, Repr

/-- A wait in progress and the microseconds left of the limit it started with (R89). -/
structure Wait where
  kind      : WaitKind
  remaining : Nat
  deriving DecidableEq, Repr

/-- This node's TAKEN contribution (R72, R73): at VALID's level (the word taken, opened, or not this node's to take),
withheld from an open word, or left by POR at the level it last had. -/
inductive TakenPin where
  | follows
  | withheld
  | frozen (level : Bool)
  deriving DecidableEq, Repr

/-- What goes on on the link without this node, as a non-participant or in POR (R46, R73, R92; the model's own, log entry
11): nothing, an arbitration phase, the tenure of its winner, or either of these after LBUSY fell early, until its clear. -/
inductive Outside where
  | nothing
  | phase
  | tenure
  | lost
  deriving DecidableEq, Repr

/-- Outcomes resolved from the response word (R58 steps 2 to 5); an abort ends the tenure at once instead. -/
inductive TenureOutcome where
  | retried
  | noHome
  | denied
  | committed
  deriving DecidableEq, Repr

/-- What this node knows of the tenure in progress: the header as taken or driven, the bound variable (R55), its own
answers (R54), whether a NOTICE addresses it (R151), the latched response word and what follows from it (R58, R59). -/
structure Tenure where
  h0         : Halfword
  h1         : Option Halfword
  bound      : Option VarNum
  answers    : RespLines
  addressed  : Bool
  present    : NodeMask
  lines      : RespLines
  outcome    : Option TenureOutcome
  dataLength : Nat
  deriving DecidableEq, Repr

/-- The link unit (chapter 4). `valid` is the level of VALID and `lclr` that of LCLR as this node last drove or observed
them (R72, R90; log entries 10, 16). -/
structure LinkUnit where
  phase     : LinkPhase
  outside   : Outside
  inhibit   : Bool
  roster    : NodeMask
  bidding   : Bool
  opener    : Bool
  wordOpen  : Bool
  valid     : Bool
  wordIndex : Nat
  taken     : TakenPin
  sender    : Option SlotIx
  tenure    : Option Tenure
  wait      : Option Wait
  pulse     : Nat
  lclr      : Bool
  deriving DecidableEq, Repr

/-! ## The state -/

/-- One Delso 4216 and the queue of commands that are waiting for it. -/
structure State where
  nodeId        : NodeId
  por           : Bool
  participation : Participation
  cold          : Bool
  port          : Port
  timing        : Timing
  control       : Control
  home          : HomeUnit
  copy          : CopyUnit
  tracker       : Tracker
  holds         : Vector (Option HoldRecord) 4
  notices       : NoticeUnit
  completion    : CompletionUnit
  link          : LinkUnit
  pending       : List Instr
  deriving DecidableEq, Repr

/-! ## Setters, one per field -/

def State.setNodeId (s : State) (x : NodeId) : State := { s with nodeId := x }
def State.setPor (s : State) (x : Bool) : State := { s with por := x }
def State.setParticipation (s : State) (x : Participation) : State := { s with participation := x }
def State.setCold (s : State) (x : Bool) : State := { s with cold := x }
def State.setPort (s : State) (x : Port) : State := { s with port := x }
def State.setTiming (s : State) (x : Timing) : State := { s with timing := x }
def State.setControl (s : State) (x : Control) : State := { s with control := x }
def State.setHome (s : State) (x : HomeUnit) : State := { s with home := x }
def State.setCopy (s : State) (x : CopyUnit) : State := { s with copy := x }
def State.setTracker (s : State) (x : Tracker) : State := { s with tracker := x }
def State.setHolds (s : State) (x : Vector (Option HoldRecord) 4) : State := { s with holds := x }
def State.setNotices (s : State) (x : NoticeUnit) : State := { s with notices := x }
def State.setCompletion (s : State) (x : CompletionUnit) : State := { s with completion := x }
def State.setLink (s : State) (x : LinkUnit) : State := { s with link := x }
def State.setPending (s : State) (x : List Instr) : State := { s with pending := x }

/-! ## Reset values of the blocks -/

/-- Staging registers after POR (R95). -/
def Staging.zero : Staging := ⟨0, 0, 0, 0, Value.zero⟩

/-- Timing after POR (R89, R136). -/
def Timing.por : Timing :=
  ⟨Config.porHandshake, Config.porRetryLimit, Config.porBackoffUnit, Config.porNoticeWait⟩

/-- The copy table after either reset (R44). The value of a NONE entry is not meaningful (log entry 15). -/
def CopyUnit.empty : CopyUnit :=
  ⟨Vector.ofFn fun i => ⟨.none, none, Value.zero, i.val, none⟩, []⟩

/-- The tracker after either reset (R136). -/
def Tracker.empty : Tracker := ⟨Vector.replicate 4 Slot.idle, 0⟩

/-- The hold table after either reset (R149). -/
def emptyHolds : Vector (Option HoldRecord) 4 := Vector.replicate 4 none

/-- The notice unit after either reset (R164). -/
def NoticeUnit.empty : NoticeUnit := ⟨[], false, []⟩

/-- No response line asserted. -/
def quietLines : RespLines := ⟨false, false, false, false, false⟩

/-- No latched cause (R178). -/
def Latched.clear : Latched := ⟨false, false, false, false⟩

/-- The link unit after either reset, nothing in progress on the link (R94). -/
def LinkUnit.reset : LinkUnit :=
  { phase := .idle, outside := .nothing, inhibit := false, roster := 0#16, bidding := false, opener := false, wordOpen := false,
    valid := false, wordIndex := 0, taken := .follows, sender := none, tenure := none, wait := none, pulse := 0,
    lclr := false }

/-- Every block at its POR value, the ID straps sampled as `straps` (R195). -/
def State.afterPor (straps : NodeId) (waiting : List Instr) : State where
  nodeId := straps
  por := false
  participation := .offline
  cold := true
  port := ⟨Staging.zero, .accepted, [], 0⟩
  timing := Timing.por
  control := ⟨false, false, false, false⟩
  home := ⟨[], []⟩
  copy := CopyUnit.empty
  tracker := Tracker.empty
  holds := emptyHolds
  notices := NoticeUnit.empty
  completion := ⟨[], Config.credits, Latched.clear, ⟨0, 0, 0, 0, 0⟩⟩
  link := LinkUnit.reset
  pending := waiting

/-- The machine right after power-on reset: POR released (R195), no command waiting. -/
def State.reset : State := State.afterPor Config.resetStraps []

end Sys2Proof.Machine
end

