-- ==== Sys2Proof/Machine/Flags.lean ====
section
/-!
DEFINITION. Cause bits, the interrupt output and the statistics counters (chapter 9.4, 9.5).
-/

namespace Sys2Proof.Machine

/-- An increment that would pass 65535 leaves the counter at 65535 (R177). -/
def satAdd (c : BitVec 16) (n : Nat) : BitVec 16 := BitVec.ofNat 16 (min 65535 (c.toNat + n))

/-- CQ: the completion queue holds at least one record (R173). -/
def State.cq (s : State) : Bool := !s.completion.queue.isEmpty

/-- NQ: the inbound notice queue holds at least one record (R173). -/
def State.nq (s : State) : Bool := !s.notices.inbound.isEmpty

/-- At least one latched bit is set (R174). -/
def Latched.any (l : Latched) : Bool := l.linkErr || l.reclaim || l.discard || l.roster

/-- IRQ is asserted while an enabled cause is pending (R175). While POR is asserted it keeps the level of the content kept
until the release, from which it is deasserted (R178; DESIGN CHOICE, log entry 33). -/
def State.irq (s : State) : Bool :=
  (s.cq && s.control.cqe) || (s.nq && s.control.nqe) || (s.completion.latched.any && s.control.atte)

/-- The counter's value. -/
def Counters.get (c : Counters) : Counter → BitVec 16
  | .retry => c.retry
  | .clear => c.clear
  | .reclaim => c.reclaim
  | .discard => c.discard
  | .proto => c.proto

/-- The counters with one of them changed. -/
def Counters.set (c : Counters) (x : BitVec 16) : Counter → Counters
  | .retry => { c with retry := x }
  | .clear => { c with clear := x }
  | .reclaim => { c with reclaim := x }
  | .discard => { c with discard := x }
  | .proto => { c with proto := x }

/-- Raise a counter by `n`, saturating (R176, R177). -/
def raiseCounter (which : Counter) (n : Nat) (s : State) : State :=
  s.setCompletion { s.completion with
    counters := s.completion.counters.set (satAdd (s.completion.counters.get which) n) which }

/-- Set the latched bits that are set in `l` (R174). -/
def latch (l : Latched) (s : State) : State :=
  s.setCompletion { s.completion with latched :=
    { linkErr := s.completion.latched.linkErr || l.linkErr
      reclaim := s.completion.latched.reclaim || l.reclaim
      discard := s.completion.latched.discard || l.discard
      roster := s.completion.latched.roster || l.roster } }

/-- A protocol error raises CNT-PROTO and sets LINKERR (R71). -/
def countProtocolError (s : State) : State :=
  latch ⟨true, false, false, false⟩ (raiseCounter .proto 1 s)

/-- An observed link clear raises CNT-CLEAR and sets LINKERR (R91). -/
def countLinkClear (s : State) : State :=
  latch ⟨true, false, false, false⟩ (raiseCounter .clear 1 s)

/-- `n` home records reclaimed in one event: CNT-RECLAIM rises by `n`, RECLAIM is set if `n` is not 0 (R13, R18). -/
def countReclaims (n : Nat) (s : State) : State :=
  latch ⟨false, n != 0, false, false⟩ (raiseCounter .reclaim n s)

/-- `n` OWNED or DIRTY entries discarded in one event: CNT-DISCARD rises by `n`, DISCARD is set if `n` is not 0
(R32, R192). -/
def countDiscards (n : Nat) (s : State) : State :=
  latch ⟨false, false, n != 0, false⟩ (raiseCounter .discard n s)

/-- A host write to CAUSE clears each latched bit written as 1: bits 11 to 8 are ROSTER, DISCARD, RECLAIM, LINKERR
(R200, chapter 11.2). -/
def clearCauses (word : Halfword) (s : State) : State :=
  s.setCompletion { s.completion with latched :=
    { linkErr := s.completion.latched.linkErr && !word.getLsbD 8
      reclaim := s.completion.latched.reclaim && !word.getLsbD 9
      discard := s.completion.latched.discard && !word.getLsbD 10
      roster := s.completion.latched.roster && !word.getLsbD 11 } }

/-- A host write to a counter register sets that counter to 0 (R177). -/
def zeroCounter (which : Counter) (s : State) : State :=
  s.setCompletion { s.completion with counters := s.completion.counters.set 0 which }

end Sys2Proof.Machine
end

