-- ==== Sys2Proof/Machine/Ops.lean ====
section
/-!
DEFINITION. The named operations over values, home records, copy entries, slots, holds and the completion queue.
-/

namespace Sys2Proof.Machine

/-! ## Variable numbers, masks, values -/

/-- The home node of a variable: bits 11–8 of its number (R1). -/
def homeOf (v : VarNum) : NodeId := v.extractLsb' 8 4

/-- The index of a variable at its home: bits 7–0 (R1). -/
def indexOf (v : VarNum) : Nat := (v.extractLsb' 0 8).toNat

/-- The variable number names one of this node's own home records (R1). -/
def State.ownsVar (s : State) (v : VarNum) : Bool := homeOf v == s.nodeId

/-- The mask holding one node's bit. -/
def nodeBit (n : NodeId) : NodeMask := 1#16 <<< n.toNat

/-- Node `n`'s bit in a mask. -/
def inMask (m : NodeMask) (n : NodeId) : Bool := m.getLsbD n.toNat

/-- Word 0 of a value: h0 is its low half, h1 its high half (00_scope.md, "Values"). -/
def word0 (x : Value) : BitVec 32 := x[1] ++ x[0]

/-- The halfwords whose mask bits are set take the payload's halfwords, the others stay (R104). -/
def mergeMasked (mask : BitVec 8) (payload old : Value) : Value :=
  Vector.ofFn fun i => if mask.getLsbD i.val then payload[i] else old[i]

/-- A buffer of received words as a value, h0 first (R2). -/
def valueOfWords (ws : List Halfword) : Value := Vector.ofFn fun i => ws.getD i.val 0#16

/-! ## The home store -/

/-- What an unlisted index reads as: the POR record (R22). -/
def homeRead : List (Nat × HomeRecord) → Nat → HomeRecord
  | [], _ => HomeRecord.blank
  | (k, r) :: rest, i => if k = i then r else homeRead rest i

/-- Write one home record; writing the POR record removes the listing, so that the form stays canonical. -/
def homeWrite : List (Nat × HomeRecord) → Nat → HomeRecord → List (Nat × HomeRecord)
  | [], i, r => if r = HomeRecord.blank then [] else [(i, r)]
  | (k, q) :: rest, i, r =>
    if k < i then (k, q) :: homeWrite rest i r
    else if k = i then (if r = HomeRecord.blank then rest else (i, r) :: rest)
    else (if r = HomeRecord.blank then (k, q) :: rest else (i, r) :: (k, q) :: rest)

/-- The indices rise strictly from `lo`, stay below 256, and no record listed is the POR record. -/
def homeWfFrom : Nat → List (Nat × HomeRecord) → Bool
  | _, [] => true
  | lo, (k, r) :: rest => lo ≤ k && k < 256 && r != HomeRecord.blank && homeWfFrom (k + 1) rest

/-- The canonical form of the home store. -/
def homeWf (l : List (Nat × HomeRecord)) : Bool := homeWfFrom 0 l

/-- The home record of a variable homed here. -/
def State.record (s : State) (v : VarNum) : HomeRecord := homeRead s.home.records (indexOf v)

/-- Write the home record of a variable homed here. -/
def writeRecord (v : VarNum) (r : HomeRecord) (s : State) : State :=
  s.setHome { s.home with records := homeWrite s.home.records (indexOf v) r }

/-! ## Binding -/

/-- The variable bound at this node by the tenure in progress (R55). -/
def State.boundVar (s : State) : Option VarNum :=
  match s.link.tenure with
  | some t => t.bound
  | none => none

/-! ## The hold table -/

/-- The active hold record `r` names the variable. -/
def holdNames (s : State) (v : VarNum) (r : HoldIx) : Bool :=
  match s.holds[r] with
  | some h => h.var == v
  | none => false

/-- The number of the active hold record that names a variable. -/
def State.holdOf (s : State) (v : VarNum) : Option HoldIx := (List.finRange 4).find? (holdNames s v)

/-- A variable is held while an active hold record names it (R138). -/
def State.held (s : State) (v : VarNum) : Bool := (s.holdOf v).isSome

/-- The lowest-numbered free hold record. -/
def State.freeHold (s : State) : Option HoldIx := (List.finRange 4).find? fun r => (s.holds[r]).isNone

/-- At least one hold record is active. -/
def State.anyHold (s : State) : Bool := (List.finRange 4).any fun r => (s.holds[r]).isSome

/-! ## The copy table -/

/-- Write one copy entry. -/
def writeEntry (i : EntryIx) (e : CopyEntry) (s : State) : State :=
  s.setCopy { s.copy with entries := s.copy.entries.set i e }

/-- The entry whose tag is the variable, reserved NONE entries included; tags are unique (R23). -/
def State.entryOf (s : State) (v : VarNum) : Option EntryIx :=
  (List.finRange 32).find? fun i => s.copy.entries[i].tag == some v

/-- Promotion to rank 0: ranks below the entry's own rise by one, ranks above it stay (R27). -/
def promote (i : EntryIx) (s : State) : State :=
  s.setCopy { s.copy with entries := Vector.ofFn fun j : EntryIx =>
    if j = i then { s.copy.entries[j] with age := 0 }
    else if s.copy.entries[j].age < s.copy.entries[i].age then
      { s.copy.entries[j] with age := s.copy.entries[j].age + 1 }
    else s.copy.entries[j] }

/-! ## Commands and slots -/

/-- The variable a command names; FLUSH, JOIN, LEAVE and NOTICE name none (R100). -/
def Body.var? : Body → Option VarNum
  | .load v => some v
  | .store v _ _ => some v
  | .swap v _ _ => some v
  | .release v => some v
  | .hold v _ => some v
  | .unhold v => some v
  | .guard v _ => some v
  | .notice _ _ => none
  | .flush => none
  | .join => none
  | .leave => none

/-- A command's code. -/
def Body.code : Body → Code
  | .load _ => .load
  | .store _ _ _ => .store
  | .swap _ _ _ => .swap
  | .release _ => .release
  | .hold _ _ => .hold
  | .unhold _ => .unhold
  | .guard _ _ => .guard
  | .notice _ _ => .notice
  | .flush => .flush
  | .join => .join
  | .leave => .leave

/-- The number of a code (R95). -/
def Code.number : Code → BitVec 4
  | .load => 1
  | .store => 2
  | .swap => 3
  | .release => 4
  | .hold => 5
  | .unhold => 6
  | .guard => 7
  | .notice => 8
  | .flush => 9
  | .join => 10
  | .leave => 11

/-- A command takes 2 credits if it is a HOLD and 1 otherwise (R97). -/
def Body.credits : Body → Nat
  | .hold _ _ => 2
  | _ => 1

/-- FLUSH, JOIN and LEAVE are barriers (R102). -/
def Body.isBarrier : Body → Bool
  | .flush | .join | .leave => true
  | _ => false

/-- FLUSH and LEAVE work through the copy table (R187, R191). -/
def Body.drains : Body → Bool
  | .flush | .leave => true
  | _ => false

/-- The completion's variable or listener mask field (R165). -/
def Body.subject : Body → Subject
  | .notice m _ => .listeners m
  | b => match b.var? with
    | some v => .var v
    | none => .absent

/-- Write one slot. -/
def writeSlot (k : SlotIx) (x : Slot) (s : State) : State :=
  s.setTracker { s.tracker with slots := s.tracker.slots.set k x }

/-- The body of the command a slot carries. -/
def State.slotBody (s : State) (k : SlotIx) : Option Body := (s.tracker.slots[k].command).map (·.body)

/-- The variable named by the command a slot carries. -/
def State.slotVar (s : State) (k : SlotIx) : Option VarNum := (s.slotBody k).bind Body.var?

/-- The commands of the busy slots (R100). -/
def State.busyCommands (s : State) : List Command :=
  (List.finRange 4).filterMap fun k => s.tracker.slots[k].command

/-- The node has a frame ready while at least one slot is in SEND (R125). -/
def State.frameReady (s : State) : Bool :=
  (List.finRange 4).any fun k => s.tracker.slots[k].phase == .send

/-- Return a slot to PLAN, to plan at once: no frame, nothing waited for (R116, R122). -/
def replan (k : SlotIx) (s : State) : State :=
  writeSlot k { s.tracker.slots[k] with phase := .plan, frame := none, waiting := none } s

/-- Leave a slot in PLAN, recording what it waits for (R117). -/
def waitFor (k : SlotIx) (w : Waiting) (s : State) : State :=
  writeSlot k { s.tracker.slots[k] with phase := .plan, frame := none, waiting := some w } s

/-- Form a slot's frame and enter SEND (R117, R125). -/
def sendFrame (k : SlotIx) (f : Frame) (s : State) : State :=
  writeSlot k { s.tracker.slots[k] with phase := .send, frame := some f, waiting := none } s

/-- Record the entry a slot's plan uses (R114). -/
def useEntry (k : SlotIx) (i : EntryIx) (s : State) : State :=
  writeSlot k { s.tracker.slots[k] with entry := some i } s

/-- The frame of a tenure of a variable kind. -/
def varFrame (kind : Kind) (v : VarNum) : Frame := ⟨kind, v.setWidth 16, []⟩

/-! ## Entries that become NONE, and reservations -/

/-- An entry becomes NONE. Unreserved, it loses its tag. Reserved as victim, it is retagged with its slot's variable
and takes the fetch form (R23, R26). Rank and counters do not change. -/
def vacate (i : EntryIx) (s : State) : State :=
  let e := s.copy.entries[i]
  match e.reservedBy with
  | none => writeEntry i { e with state := .none, tag := none } s
  | some k =>
    writeSlot k { s.tracker.slots[k] with entry := some i, victim := none }
      (writeEntry i { e with state := .none, tag := s.slotVar k } s)

/-- Release the reservations a slot holds: a fetch-form entry becomes untagged, a victim keeps its state and tag
(R37). -/
def releaseReservations (k : SlotIx) (s : State) : State :=
  s.setCopy { s.copy with entries := Vector.ofFn fun i : EntryIx =>
    let e := s.copy.entries[i]
    if e.reservedBy = some k then
      (if e.state = .none then { e with reservedBy := none, tag := none } else { e with reservedBy := none })
    else e }

/-! ## Completions and credits -/

/-- Post one completion record at the tail (R167). -/
def post (c : Completion) (s : State) : State :=
  s.setCompletion { s.completion with queue := s.completion.queue ++ [c] }

/-- Give credits back to the free count (R170). -/
def freeCredits (n : Nat) (s : State) : State :=
  s.setCompletion { s.completion with free := s.completion.free + n }

/-- What a command's application leaves for its completion. -/
structure CmdResult where
  status : Status
  value  : Option Value
  deriving DecidableEq, Repr

/-- Credits that return to the free count when a command completes: a HOLD's second credit unless its status is OK
(R107, R170). -/
def creditsReturned (b : Body) (status : Status) : Nat :=
  match b with
  | .hold _ _ => if status = .ok then 0 else 1
  | _ => 0

/-- The completion record of a slot's command (R132). -/
def slotRecord (c : Command) (tenures : Nat) (r : CmdResult) (delivered : Option NodeMask) : Completion :=
  ⟨c.tag, c.body.code, c.body.subject, r.status, tenures, r.value, delivered⟩

/-- A slot's command ends: its record is posted, its credits move, its reservation is released and the slot becomes
FREE (R132). -/
def complete (k : SlotIx) (r : CmdResult) (delivered : Option NodeMask) (s : State) : State :=
  match s.tracker.slots[k].command with
  | none => writeSlot k Slot.idle s
  | some c =>
    writeSlot k Slot.idle
      (releaseReservations k
        (freeCredits (creditsReturned c.body r.status)
          (post (slotRecord c s.tracker.slots[k].tenures r delivered) s)))

/-- A command that ends without having been applied (R128, R130, R131). A JOIN takes the node OFFLINE (R186), a LEAVE
takes it back ONLINE (R193). -/
def endCommand (k : SlotIx) (status : Status) (s : State) : State :=
  let s' := complete k ⟨status, none⟩ none s
  match s.slotBody k with
  | some .join => s'.setParticipation .offline
  | some .leave => s'.setParticipation .online
  | _ => s'

/-! ## Holds: entry and removal -/

/-- Hold entry at the application of a HOLD: HELD if a record names the variable, HOLD-FULL if all four are active,
otherwise the lowest-numbered free record becomes active (R139). -/
def enterHold (v : VarNum) (tag : Tag) (duration : BitVec 8) (s : State) : State × CmdResult :=
  if s.held v then (s, ⟨.held, none⟩)
  else match s.freeHold with
    | none => (s, ⟨.holdFull, none⟩)
    | some r => (s.setHolds (s.holds.set r (some ⟨v, tag, duration.toNat, 0⟩)), ⟨.ok, none⟩)

/-- Every slot waiting on holds plans again (R148). -/
def wakeHoldWaiters (s : State) : State :=
  s.setTracker { s.tracker with slots := Vector.ofFn fun k : SlotIx =>
    if s.tracker.slots[k].waiting = some .holds then { s.tracker.slots[k] with waiting := none }
    else s.tracker.slots[k] }

/-- Remove a hold record and report the removal to the tracker (R148). -/
def removeHold (r : HoldIx) (s : State) : State :=
  wakeHoldWaiters (s.setHolds (s.holds.set r none))

/-- A hold ends by itself: its record is removed and one completion is posted in its reserved credit (R141, R144). -/
def endHold (r : HoldIx) (status : Status) (s : State) : State :=
  match s.holds[r] with
  | none => s
  | some h => removeHold r (post ⟨h.tag, .hold, .var h.var, status, 0, none, none⟩ s)

/-! ## Application of a command to a value -/

/-- LOAD, STORE and SWAP on a value (R103 to R105): the new value, whether it was written, and the result. -/
def applyData (b : Body) (x : Value) : Option (Value × Bool × CmdResult) :=
  match b with
  | .load _ => some (x, false, ⟨.ok, some x⟩)
  | .store _ mask payload => some (mergeMasked mask payload x, true, ⟨.ok, none⟩)
  | .swap _ compare payload =>
    if word0 x = compare then some (payload, true, ⟨.ok, none⟩) else some (x, false, ⟨.mismatch, some x⟩)
  | _ => none

/-- A command applied to a home record (R19, R20, R21). -/
def applyHome (c : Command) (v : VarNum) (s : State) : State × Option CmdResult :=
  match c.body with
  | .hold _ duration =>
    let (s', r) := enterHold v c.tag duration s
    (s', some r)
  | .guard _ level => (writeRecord v { s.record v with guard := level } s, some ⟨.ok, none⟩)
  | b => match applyData b (s.record v).value with
    | some (x, written, r) =>
      (if written then writeRecord v { s.record v with value := x } s else s, some r)
    | none => (s, none)

/-- A command applied to a copy entry, which is then promoted (R35, R39). -/
def applyCopy (c : Command) (v : VarNum) (i : EntryIx) (s : State) : State × Option CmdResult :=
  match c.body with
  | .hold _ duration =>
    let (s', r) := enterHold v c.tag duration s
    (promote i s', some r)
  | b => match applyData b s.copy.entries[i].value with
    | some (x, written, r) =>
      (promote i (writeEntry i { s.copy.entries[i] with
        value := x
        state := if written then .dirty else s.copy.entries[i].state } s), some r)
    | none => (s, none)

end Sys2Proof.Machine
end

