-- ==== Sys2Proof/Machine/Header.lean ====
section
/-!
DEFINITION. The words of a tenure, the answers to them, the outcome and what follows from it (chapters 1.3, 2.2, 3).
-/

namespace Sys2Proof.Machine

/-! ## H0 and H1 -/

/-- The code of a kind (R47). -/
def Kind.number : Kind → BitVec 4
  | .read => 1
  | .own => 2
  | .claim => 3
  | .writeback => 4
  | .giveBack => 5
  | .purge => 6
  | .notice => 7
  | .join => 8

/-- The kind in bits 15–12 of H0; codes 0 and 9 to 15 are undefined (R49). -/
def kindOf (h0 : Halfword) : Option Kind :=
  match (h0.extractLsb' 12 4).toNat with
  | 1 => some .read
  | 2 => some .own
  | 3 => some .claim
  | 4 => some .writeback
  | 5 => some .giveBack
  | 6 => some .purge
  | 7 => some .notice
  | 8 => some .join
  | _ => none

/-- The source in bits 11–8 of H0 (R50). -/
def sourceOf (h0 : Halfword) : NodeId := h0.extractLsb' 8 4

/-- The attempt number in bits 7–3 of H0 (R51). -/
def attemptOf (h0 : Halfword) : BitVec 5 := h0.extractLsb' 3 5

/-- The flags in bits 2–0 of H0 (R52). -/
def flagsOf (h0 : Halfword) : BitVec 3 := h0.extractLsb' 0 3

/-- The cold flag of a JOIN: bit 0 of H0 (R52). -/
def coldOf (h0 : Halfword) : Bool := h0.getLsbD 0

/-- The length of a NOTICE: its flags plus one (R52). -/
def noticeLength (h0 : Halfword) : Nat := (flagsOf h0).toNat + 1

/-- The variable kinds: their H1 names a variable, and only they bind it (R47). -/
def Kind.isVar : Kind → Bool
  | .notice | .join => false
  | _ => true

/-- The variable number in bits 11–0 of H1; bits 15–12 are ignored (R53). -/
def h1Var (h1 : Halfword) : VarNum := h1.extractLsb' 0 12

/-- The variable a header names: none for NOTICE, JOIN and undefined kinds (R53). -/
def namedVar (h0 h1 : Halfword) : Option VarNum :=
  match kindOf h0 with
  | some k => if k.isVar then some (h1Var h1) else none
  | none => none

/-- H0 as packed: kind, source, attempt number, flags (chapter 3.2). -/
def packH0 (kind : Kind) (source : NodeId) (attempt : BitVec 5) (flags : BitVec 3) : Halfword :=
  kind.number ++ source ++ attempt ++ flags

/-- The flags of a frame at the win: the cold flag for a JOIN, the length less one for a NOTICE, zero otherwise
(R52, R180). -/
def frameFlags (f : Frame) (cold : Bool) : BitVec 3 :=
  match f.kind with
  | .join => if cold then 1#3 else 0#3
  | .notice => BitVec.ofNat 3 (f.payload.length - 1)
  | _ => 0#3

/-- H0 formed at the win from a slot's frame and its unsuccessful count (R48, R51, R127). -/
def formH0 (nodeId : NodeId) (cold : Bool) (f : Frame) (unsuccessful : Nat) : Halfword :=
  packH0 f.kind nodeId (BitVec.ofNat 5 unsuccessful) (frameFlags f cold)

/-! ## Answers -/

/-- A full participant is ONLINE or DRAINING (R46). -/
def State.full (s : State) : Bool := s.participation == .online || s.participation == .draining

/-- The guard refuses a kind asked by another node (R5, R8). -/
def guardDenies (g : Guard) (k : Kind) : Bool :=
  match g, k with
  | .privateAccess, .read => true
  | .privateAccess, .own => true
  | .privateAccess, .claim => true
  | .homeOnly, .own => true
  | .homeOnly, .claim => true
  | _, _ => false

/-- READ, OWN and CLAIM, the kinds a hold turns away (R138). -/
def Kind.isRequest : Kind → Bool
  | .read | .own | .claim => true
  | _ => false

/-- The record is LENT. -/
def HomeState.isLent : HomeState → Bool
  | .lent _ => true
  | _ => false

/-- The home's answers to a tenure of a variable kind, `peer` when its source is another node (R7 to R10). -/
def homeAnswers (k : Kind) (peer held : Bool) (r : HomeRecord) : RespLines where
  homeLine := true
  denyLine := peer && guardDenies r.guard k
  retryLine := peer && ((k.isRequest && held) || (k == .claim && r.state.isLent))
  haveLine := peer && k == .read && r.guard == .homeOnly
  modLine := false

/-- A holder's answers from the entry as it stands when H1 is taken (R28). -/
def copyAnswers (k : Kind) (held : Bool) (e : CopyEntry) : RespLines where
  haveLine := e.state != .none
  modLine := e.state == .dirty
  retryLine := e.state != .none && held && k.isRequest
  homeLine := false
  denyLine := false

/-- The answers a participant fixes at H1, the home's from the home record, others' from the copy entry; `asRequester`
for the node's own tenure, in which it does not answer as a holder (R7, R28, R54). -/
def answersTo (s : State) (asRequester : Bool) (h0 h1 : Halfword) : RespLines :=
  match kindOf h0, namedVar h0 h1 with
  | some k, some v =>
    if s.full then
      (if s.ownsVar v then homeAnswers k (sourceOf h0 != s.nodeId) (s.held v) (s.record v)
       else if asRequester then quietLines
       else match s.entryOf v with
         | some i => copyAnswers k (s.held v) s.copy.entries[i]
         | none => quietLines)
    else quietLines
  | _, _ => quietLines

/-- The home counts a protocol error as it answers a CLAIM from another node on a LENT record (R9, R71). -/
def claimOnLent (s : State) (h0 h1 : Halfword) : Bool :=
  match kindOf h0, namedVar h0 h1 with
  | some .claim, some v => s.full && s.ownsVar v && sourceOf h0 != s.nodeId && (s.record v).state.isLent
  | _, _ => false

/-- A NOTICE addresses this node when its bit is in the listener mask, it is ONLINE or DRAINING, and it is not the
requester (R151). -/
def noticeAddresses (s : State) (h0 h1 : Halfword) : Bool :=
  kindOf h0 == some .notice && inMask h1 s.nodeId && s.full

/-! ## The response word -/

/-- Lines combine wired-OR (R72). -/
def orLines (a b : RespLines) : RespLines :=
  ⟨a.haveLine || b.haveLine, a.modLine || b.modLine, a.retryLine || b.retryLine, a.homeLine || b.homeLine,
   a.denyLine || b.denyLine⟩

/-- Steps 2 to 5 of outcome resolution (R58). -/
def resolve (h0 : Halfword) (lines : RespLines) : TenureOutcome :=
  if lines.retryLine then .retried
  else if (kindOf h0).any Kind.isVar && !lines.homeLine then .noHome
  else if lines.denyLine then .denied
  else .committed

/-- The supplier of a READ or OWN is the requester: the home sends the tenure and no MOD is asserted (R62). -/
def supplierIsRequester (h0 h1 : Halfword) (lines : RespLines) : Bool :=
  !lines.modLine && homeOf (h1Var h1) == sourceOf h0

/-- Number of data words of a COMMITTED tenure (R62). -/
def dataWords (h0 h1 : Halfword) (lines : RespLines) : Nat :=
  match kindOf h0 with
  | some .read => if supplierIsRequester h0 h1 lines then 0 else 8
  | some .own => if supplierIsRequester h0 h1 lines then 0 else 8
  | some .writeback => 8
  | some .notice => noticeLength h0
  | _ => 0

/-- The number of data words of a tenure with its outcome: none unless COMMITTED (R61). -/
def dataLengthFor (o : TenureOutcome) (h0 h1 : Halfword) (lines : RespLines) : Nat :=
  if o = .committed then dataWords h0 h1 lines else 0

/-- A READ from another node is granted OWNED when the response word carries neither HAVE nor MOD (R10). -/
def grantsOwned (lines : RespLines) : Bool := !lines.haveLine && !lines.modLine

end Sys2Proof.Machine
end

