-- ==== Sys2Proof/Machine/CopyTable.lean ====
section
/-!
DEFINITION. Victim choice, eviction and the drops of the copy table (chapters 2.5, 2.6, 10.3).
-/

namespace Sys2Proof.Machine

/-- The entry is OWNED or DIRTY. -/
def CopyEntry.exclusive (e : CopyEntry) : Bool := e.state == .owned || e.state == .dirty

/-- The entry is bound: its tag is the variable of the tenure in progress (R25). -/
def State.entryBound (s : State) (i : EntryIx) : Bool :=
  (s.copy.entries[i].tag).isSome && s.copy.entries[i].tag == s.boundVar

/-- A victim that has become COPY is bound by the tenure in progress, so its silent drop waits (R25, R40). -/
def State.dropBound (s : State) (j : EntryIx) : Bool := !(s.copy.entries[j]).exclusive && s.entryBound j

/-- Another busy slot of this node carries a command naming the variable (R121). -/
def State.otherSlotNames (s : State) (k : SlotIx) (v : VarNum) : Bool :=
  (List.finRange 4).any fun j => j != k && s.slotVar j == some v

/-- Another slot's FLUSH or LEAVE is giving the entry back (R121, R187). -/
def State.otherSlotDrains (s : State) (k : SlotIx) (i : EntryIx) : Bool :=
  (List.finRange 4).any fun j =>
    j != k && (s.slotBody j).any Body.drains && s.tracker.slots[j].entry == some i

/-- Step 1 of victim choice: the lowest-index entry that is NONE and unreserved (R41). -/
def State.freeEntry (s : State) : Option EntryIx :=
  (List.finRange 32).find? fun i =>
    s.copy.entries[i].state == .none && (s.copy.entries[i].reservedBy).isNone

/-- Entries eligible in step 2 of victim choice for a slot (R41, R121). -/
def State.victimEligible (s : State) (k : SlotIx) (i : EntryIx) : Bool :=
  match s.copy.entries[i].tag with
  | none => false
  | some v =>
    s.copy.entries[i].state != .none && (s.copy.entries[i].reservedBy).isNone && !s.held v
      && !s.entryBound i && !s.otherSlotNames k v && !s.otherSlotDrains k i
      && inMask s.link.roster (homeOf v)

/-- The older of the best entry so far and the next one. -/
def olderOf (s : State) (best : Option EntryIx) (i : EntryIx) : Option EntryIx :=
  match best with
  | none => some i
  | some j => if s.copy.entries[j].age < s.copy.entries[i].age then some i else some j

/-- Step 2 of victim choice: the eligible entry of highest rank (R41). -/
def State.oldestVictim (s : State) (k : SlotIx) : Option EntryIx :=
  ((List.finRange 32).filter (s.victimEligible k)).foldl (olderOf s) none

/-- Reserve a NONE entry in fetch form for a slot's variable (R26). -/
def reserveFetch (k : SlotIx) (i : EntryIx) (v : VarNum) (s : State) : State :=
  writeSlot k { s.tracker.slots[k] with entry := some i, victim := none }
    (writeEntry i { s.copy.entries[i] with tag := some v, reservedBy := some k } s)

/-- Reserve an entry as a slot's victim; it keeps its state and tag (R26). -/
def reserveVictim (k : SlotIx) (i : EntryIx) (s : State) : State :=
  writeSlot k { s.tracker.slots[k] with victim := some i }
    (writeEntry i { s.copy.entries[i] with reservedBy := some k } s)

/-- The kind that fetches a variable homed elsewhere: READ for a LOAD, OWN for STORE, SWAP and HOLD (R119). -/
def fetchKind : Body → Kind
  | .load _ => .read
  | _ => .own

/-- The kind that gives an entry back: WRITEBACK if DIRTY, RETURN otherwise (R42, R119). -/
def giveBackKind (e : CopyEntry) : Kind := if e.state = .dirty then .writeback else .giveBack

/-- Evict a slot's victim: a COPY is dropped silently and the slot goes on to its READ or OWN, an OWNED or DIRTY
victim is given back by RETURN or WRITEBACK (R42). -/
def planEvict (k : SlotIx) (b : Body) (v : VarNum) (j : EntryIx) (s : State) : State :=
  let e := s.copy.entries[j]
  match e.exclusive, e.tag with
  | true, some w => sendFrame k (varFrame (giveBackKind e) w) s
  | _, _ => sendFrame k (varFrame (fetchKind b) v) (vacate j s)

/-- A slot allocates an entry (R121): a NONE entry, else the oldest eligible victim, else NO-ROOM (R41). -/
def allocate (k : SlotIx) (b : Body) (v : VarNum) (s : State) : State :=
  match s.freeEntry with
  | some i => sendFrame k (varFrame (fetchKind b) v) (reserveFetch k i v s)
  | none =>
    match s.oldestVictim k with
    | some j => planEvict k b v j (reserveVictim k j s)
    | none => complete k ⟨.noRoom, none⟩ none s

/-- Step 1 of a FLUSH or LEAVE plan: every COPY entry that is not bound is dropped silently (R187). No slot holds a
reservation then, and the drop leaves a reserved entry alone. -/
def dropCopies (s : State) : State :=
  s.setCopy { s.copy with entries := Vector.ofFn fun i : EntryIx =>
    let e := s.copy.entries[i]
    if e.state = .copy ∧ e.reservedBy = none ∧ s.entryBound i = false then
      { e with state := .none, tag := none }
    else e }

/-- A COPY entry is bound, so step 1 of R187 must wait for it. -/
def State.copyBound (s : State) : Bool :=
  (List.finRange 32).any fun i => s.copy.entries[i].state == .copy && s.entryBound i

/-- Step 3 of R187: the lowest-index OWNED or DIRTY entry, not held, not on the stranded list. -/
def State.giveBackEntry (s : State) (stranded : List EntryIx) : Option EntryIx :=
  (List.finRange 32).find? fun i =>
    s.copy.entries[i].exclusive && (s.copy.entries[i].tag).any (fun v => !s.held v) && !stranded.contains i

/-- The entries a LEAVE's final step discards: those on the stranded list still OWNED or DIRTY (R192). -/
def State.strandedLeft (s : State) (stranded : List EntryIx) : List EntryIx :=
  (List.finRange 32).filter fun i => stranded.contains i && s.copy.entries[i].exclusive

/-- The copy table after step 1 of R192: the stranded entries discarded, a COPY dropped silently. -/
def discardStranded (stranded : List EntryIx) (s : State) : State :=
  s.setCopy { s.copy with entries := Vector.ofFn fun i : EntryIx =>
    let e := s.copy.entries[i]
    if (stranded.contains i = true ∧ e.exclusive = true) ∨ e.state = .copy then
      { e with state := .none, tag := none, reservedBy := none }
    else e }

end Sys2Proof.Machine
end

