-- ==== Sys2Proof/Machine/Operands.lean ====
section
/-!
DEFINITION. The command port: the operands each code reads from the staging registers, the checks of a submit in
their order, and admission (chapter 5.1).
-/

namespace Sys2Proof.Machine

/-! ## The staged command -/

/-- The code field of CMD, bits 11–8 (R95). -/
def stagedCode (st : Staging) : BitVec 4 := st.cmd.extractLsb' 8 4

/-- The tag field of CMD, bits 7–0 (R95). -/
def stagedTag (st : Staging) : Tag := st.cmd.extractLsb' 0 8

/-- CVAR bits 11–0; bits 15–12 are ignored (R95). -/
def stagedVar (st : Staging) : VarNum := st.cvar.extractLsb' 0 12

/-- CARG0 bits 7–0: a STORE's mask or a HOLD's duration (R95). -/
def stagedByte (st : Staging) : BitVec 8 := st.carg0.extractLsb' 0 8

/-- CARG1 bits 3–0: a NOTICE's length (R95). -/
def stagedLength (st : Staging) : Nat := (st.carg1.extractLsb' 0 4).toNat

/-- CARG0 bits 1–0: a GUARD's level; 3 names none (R95, R96). -/
def stagedLevel (st : Staging) : Option Guard :=
  match (st.carg0.extractLsb' 0 2).toNat with
  | 0 => some .openAccess
  | 1 => some .homeOnly
  | 2 => some .privateAccess
  | _ => none

/-- The command formed from the staging registers, with the checks of steps 1 and 2 of R96: BAD-CODE first, then
BAD-ARG. -/
def formBody (nodeId : NodeId) (st : Staging) : Except SubmitResult Body :=
  match (stagedCode st).toNat with
  | 1 => .ok (.load (stagedVar st))
  | 2 => if stagedByte st = 0#8 then .error .badArg
         else .ok (.store (stagedVar st) (stagedByte st) st.stage)
  | 3 => .ok (.swap (stagedVar st) (st.carg1 ++ st.carg0) st.stage)
  | 4 => .ok (.release (stagedVar st))
  | 5 => if stagedByte st = 0#8 then .error .badArg else .ok (.hold (stagedVar st) (stagedByte st))
  | 6 => .ok (.unhold (stagedVar st))
  | 7 => if homeOf (stagedVar st) = nodeId then
           (match stagedLevel st with
            | some g => .ok (.guard (stagedVar st) g)
            | none => .error .badArg)
         else .error .badArg
  | 8 => if st.carg0 = 0#16 ∨ inMask st.carg0 nodeId = true ∨ stagedLength st = 0 ∨ 8 < stagedLength st then
           .error .badArg
         else .ok (.notice st.carg0 (st.stage.toList.take (stagedLength st)))
  | 9 => .ok .flush
  | 10 => .ok .join
  | 11 => .ok .leave
  | _ => .error .badCode

/-- The participation states that admit a command (R96 step 3). -/
def stateAdmits (p : Participation) (b : Body) : Bool :=
  match p, b with
  | .offline, .join => true
  | .offline, _ => false
  | .joining, _ => false
  | .online, .join => false
  | .online, _ => true
  | .draining, .unhold _ => true
  | .draining, _ => false

/-- Room in the queue and credits for the command (R96 step 4). -/
def hasRoom (s : State) (b : Body) : Bool :=
  s.port.queue.length < Config.queueCapacity && b.credits ≤ s.completion.free

/-- The checks of R96 in their order: the body to admit, or the result that refuses it. -/
def checkSubmit (s : State) : Except SubmitResult Body :=
  match formBody s.nodeId s.port.staging with
  | .error r => .error r
  | .ok b =>
    if stateAdmits s.participation b then
      (if hasRoom s b then .ok b else .error .full)
    else .error .wrongState

/-- Admission: the credits are taken, the record joins the queue's tail, SUBMIT reads ACCEPTED (R97, R98). -/
def enqueue (b : Body) (s : State) : State :=
  (s.setCompletion { s.completion with free := s.completion.free - b.credits }).setPort
    { s.port with
      result := .accepted
      queue := s.port.queue ++ [⟨stagedTag s.port.staging, s.port.nextSeq, b⟩]
      nextSeq := s.port.nextSeq + 1 }

/-! ## Staging by the submit rows -/

/-- CMD as staged for a code and tag. -/
def cmdWord (code : BitVec 4) (tag : Tag) : Halfword := 0#4 ++ code ++ tag

/-- Write the staging registers. -/
def setStaging (f : Staging → Staging) (s : State) : State :=
  s.setPort { s.port with staging := f s.port.staging }

end Sys2Proof.Machine
end

