-- ==== Sys2Proof/Machine/Tracker.lean ====
section
/-!
DEFINITION. The request tracker: start eligibility, plans, and the round of plans and starts that ends each event
(chapters 5.3, 6, 10.3, 10.4).
-/

namespace Sys2Proof.Machine

/-- This node is a participant of an arbitration phase or tenure in progress (R73, R81). -/
def State.inTenure (s : State) : Bool := s.link.phase != .idle && s.link.phase != .clear

/-! ## Starting queued commands -/

/-- The start conditions of R100 for a record, given the records queued before it. -/
def eligible (busy earlier : List Command) (c : Command) : Bool :=
  (match c.body.var? with
   | some v => !busy.any (fun d => d.body.var? == some v) && !earlier.any (fun d => d.body.var? == some v)
   | none => true)
  && (match c.body with
      | .unhold _ => true
      | _ => !earlier.any (·.body.isBarrier) && !busy.any (·.body.isBarrier))
  && (match c.body with
      | .flush | .join | .leave | .notice _ _ => earlier.isEmpty && !busy.any (fun d => d.seq < c.seq)
      | _ => true)

/-- The earliest eligible record, and the queue without it (R99, R101). -/
def takeEligible (busy : List Command) : List Command → List Command → Option (Command × List Command)
  | _, [] => none
  | earlier, c :: rest =>
    if eligible busy earlier c then some (c, earlier ++ rest) else takeEligible busy (earlier ++ [c]) rest

/-- The lowest-numbered FREE slot (R101). -/
def State.freeSlot (s : State) : Option SlotIx :=
  (List.finRange 4).find? fun k => s.tracker.slots[k].phase == .free

/-- What a start does to the participation machine: a JOIN enters JOINING and clears inhibit, a LEAVE enters DRAINING
(R181, R191). -/
def startParticipation (b : Body) (s : State) : State :=
  match b with
  | .join => (s.setParticipation .joining).setLink { s.link with inhibit := false }
  | .leave => s.setParticipation .draining
  | _ => s

/-- A slot takes a record: the record leaves the queue and the slot goes to PLAN (R101). -/
def startSlot (k : SlotIx) (c : Command) (queue : List Command) (s : State) : State :=
  startParticipation c.body
    (writeSlot k { Slot.idle with phase := .plan, command := some c } (s.setPort { s.port with queue := queue }))

/-- One start, if a slot is FREE and a record is eligible (R101). -/
def startNext (s : State) : Option State :=
  match s.freeSlot with
  | none => none
  | some k =>
    match takeEligible s.busyCommands [] s.port.queue with
    | none => none
    | some (c, rest) => some (startSlot k c rest s)

/-! ## Plans -/

/-- The tenure a command on an own variable needs, or none where it runs locally (R20, R21, R118). -/
def homeTenure (b : Body) (st : HomeState) : Option Kind :=
  match b, st with
  | _, .quiet => none
  | .load _, .shared => none
  | .load _, .lent _ => some .read
  | .guard _ .openAccess, _ => none
  | .guard _ .homeOnly, .shared => none
  | .guard _ .homeOnly, .lent _ => some .own
  | .guard _ .privateAccess, .shared => some .purge
  | .guard _ .privateAccess, .lent _ => some .own
  | _, .shared => some .purge
  | _, .lent _ => some .own

/-- Complete a slot with what its command's application left, if it was applied. -/
def completeApplied (k : SlotIx) (p : State × Option CmdResult) : State :=
  match p.2 with
  | some r => complete k r none p.1
  | none => p.1

/-- The plan of LOAD, STORE, SWAP, HOLD or GUARD on an own variable (R118). -/
def planHome (k : SlotIx) (c : Command) (v : VarNum) (s : State) : State :=
  match homeTenure c.body (s.record v).state with
  | none => completeApplied k (applyHome c v s)
  | some kind => sendFrame k (varFrame kind v) s

/-- The entry is reserved by a slot other than `k`. -/
def reservedByOther (e : CopyEntry) (k : SlotIx) : Bool := e.reservedBy.isSome && e.reservedBy != some k

/-- The plan of LOAD, STORE, SWAP or HOLD on a variable homed elsewhere (R119). -/
def planCopy (k : SlotIx) (c : Command) (v : VarNum) (s : State) : State :=
  match s.entryOf v with
  | some i =>
    if reservedByOther s.copy.entries[i] k then waitFor k .reservation s
    else match s.copy.entries[i].state, c.body with
      | .none, _ => sendFrame k (varFrame (fetchKind c.body) v) (useEntry k i s)
      | .copy, .load _ => completeApplied k (applyCopy c v i (useEntry k i s))
      | .copy, _ => sendFrame k (varFrame .claim v) (useEntry k i s)
      | _, _ => completeApplied k (applyCopy c v i (useEntry k i s))
  | none =>
    match s.tracker.slots[k].victim with
    | some j => if s.dropBound j then waitFor k .binding s else planEvict k c.body v j s
    | none => allocate k c.body v s

/-- The plan of a RELEASE, the first row of R106 that applies. -/
def planRelease (k : SlotIx) (v : VarNum) (s : State) : State :=
  if s.held v then complete k ⟨.held, none⟩ none s
  else if s.ownsVar v then complete k ⟨.ok, none⟩ none s
  else match s.entryOf v with
    | none => complete k ⟨.ok, none⟩ none s
    | some i =>
      if reservedByOther s.copy.entries[i] k then waitFor k .reservation s
      else match s.copy.entries[i].state with
        | .none => complete k ⟨.ok, none⟩ none s
        | .copy => complete k ⟨.ok, none⟩ none (vacate i s)
        | _ => sendFrame k (varFrame (giveBackKind s.copy.entries[i]) v) (useEntry k i s)

/-- Cancel every queued record in queue order: each posts CANCELLED with attempts 0, and a HOLD's second credit
returns (R113). -/
def cancelQueue (s : State) : State :=
  s.port.queue.foldl
    (fun s c => freeCredits (c.body.credits - 1) (post (slotRecord c 0 ⟨.cancelled, none⟩ none) s))
    (s.setPort { s.port with queue := [] })

/-- A LEAVE's final step, within one event (R192). -/
def leaveFinal (k : SlotIx) (s : State) : State :=
  let stranded := s.tracker.slots[k].stranded
  cancelQueue
    (complete k ⟨.ok, none⟩ none
      ((countDiscards (s.strandedLeft stranded).length (discardStranded stranded s)).setParticipation .offline))

/-- Step 5 of R187: a FLUSH ends OK, or NO-HOME with entries stranded (R190); a LEAVE takes its final step, at once
when no tenure or phase is in progress here (R192). -/
def barrierEnd (k : SlotIx) (b : Body) (s : State) : State :=
  match b with
  | .leave => if s.inTenure then waitFor k .tenureEnd s else leaveFinal k s
  | _ => complete k ⟨if s.tracker.slots[k].stranded.isEmpty then .ok else .noHome, none⟩ none s

/-- Steps 2 to 5 of a FLUSH or LEAVE plan, the copies dropped (R187). -/
def drainStep (k : SlotIx) (b : Body) (s : State) : State :=
  match s.copyBound, s.giveBackEntry s.tracker.slots[k].stranded with
  | true, _ => waitFor k .binding s
  | false, some i =>
    if s.entryBound i then waitFor k .binding s
    else match s.copy.entries[i].tag with
      | some v => sendFrame k (varFrame (giveBackKind s.copy.entries[i]) v) (useEntry k i s)
      | none => barrierEnd k b s
  | false, none => if s.anyHold then waitFor k .holds s else barrierEnd k b s

/-- A slot forgets its give-back, and indices of entries no longer OWNED or DIRTY leave its stranded list (R188). -/
def pruneStranded (k : SlotIx) (s : State) : State :=
  writeSlot k { s.tracker.slots[k] with
    entry := none
    stranded := s.tracker.slots[k].stranded.filter fun i => s.copy.entries[i].exclusive } s

/-- The plan of a FLUSH or LEAVE (R187). -/
def planDrain (k : SlotIx) (b : Body) (s : State) : State := drainStep k b (pruneStranded k (dropCopies s))

/-- A FLUSH or LEAVE in PLAN that waits for nothing plans; any other slot is left as it is. -/
def planWoken (j : SlotIx) (s : State) : State :=
  match s.tracker.slots[j].phase, s.tracker.slots[j].waiting, s.slotBody j with
  | .plan, none, some .flush => planDrain j .flush s
  | .plan, none, some .leave => planDrain j .leave s
  | _, _, _ => s

/-- The FLUSH or LEAVE that an UNHOLD in slot `k` has woken plans in its turn, before `k`, if its slot is the lower: records
that one event's plan posts stand in rising slot order (R132, R167). A LEAVE's CANCELLED records are part of its turn
(DESIGN CHOICE, log entry 34). -/
def planWokenBelow (k : SlotIx) (s : State) : State :=
  (List.finRange 4).foldl (fun s j => if j < k then planWoken j s else s) s

/-- The plan of an UNHOLD: the record is removed and its reserved credit freed, or the UNHOLD is LATE (R108, R142). Where
the removal lets a FLUSH or LEAVE end in the same event, the lower slot's record is posted first (R132). -/
def planUnhold (k : SlotIx) (v : VarNum) (s : State) : State :=
  match s.holdOf v with
  | some r => complete k ⟨.ok, none⟩ none (planWokenBelow k (freeCredits 1 (removeHold r s)))
  | none => complete k ⟨.late, none⟩ none s

/-- A slot forgets a recorded entry that no longer carries the tag of its variable: no plan uses it (R114). -/
def forgetEntry (k : SlotIx) (v : VarNum) (s : State) : State :=
  writeSlot k { s.tracker.slots[k] with
    entry := s.tracker.slots[k].entry.filter fun i => s.copy.entries[i].tag == some v } s

/-- The plan of a command that names a variable: it waits while the variable is bound (R117, R119), a RELEASE of an own
variable too (DEDUCED, log entry 19). A plan on a copy entry first forgets an entry recorded before that is no longer its
variable's (R114). -/
def planVar (k : SlotIx) (c : Command) (v : VarNum) (s : State) : State :=
  if s.boundVar = some v then waitFor k .binding (forgetEntry k v s)
  else match c.body with
    | .release _ => planRelease k v (forgetEntry k v s)
    | .guard _ _ => planHome k c v s
    | _ => if s.ownsVar v then planHome k c v s else planCopy k c v (forgetEntry k v s)

/-- One plan of a slot (R116, R118 to R120). -/
def planSlot (k : SlotIx) (s : State) : State :=
  match s.tracker.slots[k].command with
  | none => writeSlot k Slot.idle s
  | some c =>
    match c.body with
    | .unhold v => planUnhold k v s
    | .notice listeners payload => sendFrame k ⟨.notice, listeners, payload⟩ s
    | .join => sendFrame k ⟨.join, 0#16, []⟩ s
    | .flush => planDrain k .flush s
    | .leave => planDrain k .leave s
    | .load v => planVar k c v s
    | .store v _ _ => planVar k c v s
    | .swap v _ _ => planVar k c v s
    | .release v => planVar k c v s
    | .hold v _ => planVar k c v s
    | .guard v _ => planVar k c v s

/-! ## The round of plans and starts -/

/-- What a waiting slot waits for has ended (R117). The end of holds is reported by `wakeHoldWaiters`, the end of a
tenure to a waiting LEAVE by its final step. -/
def waitEnded (s : State) (k : SlotIx) : Waiting → Bool
  | .binding =>
    match s.slotVar k with
    | some v => s.boundVar != some v && !(s.tracker.slots[k].victim).any s.dropBound
    | none => s.boundVar.isNone
  | .reservation =>
    match (s.slotVar k).bind s.entryOf with
    | some i => !reservedByOther s.copy.entries[i] k
    | none => true
  | .holds => false
  | .tenureEnd => false

/-- A slot is to plan: it is in PLAN and waits for nothing, or for something that has ended (R116). -/
def State.due (s : State) (k : SlotIx) : Bool :=
  s.tracker.slots[k].phase == .plan &&
    (match s.tracker.slots[k].waiting with
     | none => true
     | some w => waitEnded s k w)

/-- The lowest-numbered slot that is to plan (R116). -/
def State.nextDue (s : State) : Option SlotIx := (List.finRange 4).find? s.due

/-- Busy slots plan one at a time in rising slot number; then the queue is considered, and each slot started plans as
it starts (R101, R116). The bound is never reached (log entry 14). -/
def settleFor : Nat → State → State
  | 0, s => s
  | n + 1, s =>
    match s.nextDue with
    | some k => settleFor n (planSlot k s)
    | none =>
      match startNext s with
      | some s' => settleFor n s'
      | none => s

/-- The plans and starts that end an event. -/
def settle (s : State) : State := settleFor Config.settleBound s

/-- One submit event (R95 to R97, R101). -/
def submit (s : State) : State :=
  match checkSubmit s with
  | .error r => s.setPort { s.port with result := r }
  | .ok b => settle (enqueue b s)

end Sys2Proof.Machine
end

