-- ==== Sys2Proof/Machine/Commit.lean ====
section
/-!
DEFINITION. What a committed tenure changes at this node: home records, copy entries, holds, the notice queue and
participation (chapters 1.5, 2.3, 2.4, 7.3, 8.4, 10.2).
-/

namespace Sys2Proof.Machine

/-! ## The home store -/

/-- Lender-absent reclaim: a LENT record whose lender's bit is clear in the present mask becomes QUIET and is counted
(R13). -/
def reclaimAbsent (v : VarNum) (present : NodeMask) (s : State) : State :=
  match (s.record v).state with
  | .lent l =>
    if inMask present l then s
    else countReclaims 1 (writeRecord v { s.record v with state := .quiet } s)
  | _ => s

/-- The captured words, if any, become the record's value (R12); those of a WRITEBACK that the record, after any
reclaim, does not name the source of are discarded (R16). -/
def storeCapture (k : Kind) (source : NodeId) (v : VarNum) (s : State) : State :=
  if s.home.capture.isEmpty ∨ (k = .writeback ∧ (s.record v).state ≠ .lent source) then s
  else writeRecord v { s.record v with value := valueOfWords s.home.capture } s

/-- The state a home record takes at the commit of a kind from `source`, `peer` when that is another node; none where
the commit is a protocol error (R14 to R17). A LENT record met by a CLAIM or by the home's own PURGE stays as it is: no
such commit arises (R9, R122). A QUIET or SHARED record met by a CLAIM whose source is the home itself, which R15 has no
row for, stays too (DEDUCED, log entry 22). -/
def homeStateAfter (k : Kind) (source : NodeId) (peer : Bool) (lines : RespLines) (st : HomeState) :
    Option HomeState :=
  match k, peer, st with
  | .read, true, _ => some (if grantsOwned lines then .lent source else .shared)
  | .read, false, .lent _ => some .shared
  | .own, true, _ => some (.lent source)
  | .own, false, _ => some .quiet
  | .claim, true, .quiet => some (.lent source)
  | .claim, true, .shared => some (.lent source)
  | .writeback, _, .lent l => if l = source then some .quiet else none
  | .writeback, _, _ => none
  | .giveBack, _, .lent l => if l = source then some .quiet else none
  | .giveBack, _, _ => none
  | .purge, false, .quiet => some .quiet
  | .purge, false, .shared => some .quiet
  | .purge, true, _ => none
  | _, _, st => some st

/-- The state change of the kind at the home, or the protocol error counted in its place (R14 to R17, R71). -/
def changeRecord (k : Kind) (v : VarNum) (source : NodeId) (lines : RespLines) (s : State) : State :=
  match homeStateAfter k source (source != s.nodeId) lines (s.record v).state with
  | some st => writeRecord v { s.record v with state := st } s
  | none => countProtocolError s

/-- The home's work at the commit of a variable kind, in its order: reclaim, captured value, state change; then, in
its own tenure, the command of the slot that sent it (R13 to R19). -/
def commitHome (t : Tenure) (k : Kind) (v : VarNum) (s : State) : State × Option CmdResult :=
  let s1 := changeRecord k v (sourceOf t.h0) t.lines 
    (storeCapture k (sourceOf t.h0) v (reclaimAbsent v t.present s))
  match s.link.sender with
  | none => (s1, none)
  | some slot =>
    match s1.tracker.slots[slot].command with
    | none => (s1, none)
    | some c => applyHome c v s1

/-- At the commit of a JOIN by `joiner` every record lent to it becomes QUIET and is counted (R18). -/
def reclaimLoans (joiner : NodeId) (s : State) : State :=
  let hit := fun r : HomeRecord => r.state == .lent joiner
  countReclaims (s.home.records.countP fun p => hit p.2)
    (s.setHome { s.home with
      records := (s.home.records.map (fun p => if hit p.2 then (p.1, { p.2 with state := .quiet }) else p)).filter
        (fun p => p.2 != HomeRecord.blank) })

/-! ## The copy table as holder -/

/-- A holder's entry at the commit of another node's READ: OWNED and DIRTY become COPY (R30). -/
def demoteToCopy (i : EntryIx) (s : State) : State :=
  if s.copy.entries[i].exclusive then writeEntry i { s.copy.entries[i] with state := .copy } s else s

/-- The holder's change at the commit of another node's tenure (R30, R31). -/
def commitHolder (t : Tenure) (k : Kind) (v : VarNum) (s : State) : State :=
  match s.entryOf v with
  | none => s
  | some i =>
    if s.copy.entries[i].state = .none then s
    else match k with
      | .read => demoteToCopy i s
      | .own => vacate i s
      | .claim => vacate i s
      | .purge =>
        if sourceOf t.h0 = homeOf v ∧ s.copy.entries[i].state = .copy then vacate i s else s
      | _ => s

/-! ## The copy table as requester -/

/-- The fetched entry takes its grant and the received words, and its reservation is cleared (R33). -/
def grantEntry (i : EntryIx) (st : CopyState) (s : State) : State :=
  writeEntry i { s.copy.entries[i] with
    state := st, value := valueOfWords s.copy.receive, reservedBy := none } s

/-- The requester's change at the commit of its own tenure, with the command applied to the acquired entry (R33 to
R36). -/
def commitRequester (slot : SlotIx) (t : Tenure) (k : Kind) (v : VarNum) (s : State) : State × Option CmdResult :=
  match s.tracker.slots[slot].command with
  | none => (s, none)
  | some c =>
    match k, s.tracker.slots[slot].entry, s.entryOf v with
    | .read, some i, _ => applyCopy c v i (grantEntry i (if grantsOwned t.lines then .owned else .copy) s)
    | .own, some i, _ => applyCopy c v i (grantEntry i .owned s)
    | .claim, _, some i => applyCopy c v i (writeEntry i { s.copy.entries[i] with state := .owned } s)
    | .writeback, _, some i => (vacate i s, none)
    | .giveBack, _, some i => (vacate i s, none)
    | _, _, _ => (s, none)

/-! ## JOIN and NOTICE -/

/-- The entry is homed at the joiner and not NONE (R32). -/
def joinerEntry (s : State) (joiner : NodeId) (i : EntryIx) : Bool :=
  s.copy.entries[i].state != .none && (s.copy.entries[i].tag).any (fun v => homeOf v == joiner)

/-- The entries a cold JOIN discards: OWNED or DIRTY, homed at the joiner (R32). -/
def coldDiscards (s : State) (joiner : NodeId) : List EntryIx :=
  (List.finRange 32).filter fun i => joinerEntry s joiner i && s.copy.entries[i].exclusive

/-- A hold whose entry is among those discarded ends LOST (R144). -/
def loseHold (tags : List (Option VarNum)) (s : State) (r : HoldIx) : State :=
  match s.holds[r] with
  | some h => if tags.contains (some h.var) then endHold r .lost s else s
  | none => s

/-- The copy table and hold unit at a cold JOIN's commit: every entry homed at the joiner becomes NONE, OWNED and
DIRTY ones are counted, and then the holds lost with them end in rising record number (R32, R38, R144). -/
def coldJoin (joiner : NodeId) (s : State) : State :=
  let lost := coldDiscards s joiner
  let tags := lost.map fun i => s.copy.entries[i].tag
  let gone := (List.finRange 32).filter (joinerEntry s joiner)
  let s1 := countDiscards lost.length (gone.foldl (fun s i => vacate i s) s)
  (List.finRange 4).foldl (loseHold tags) s1

/-- The commit of a JOIN: the joiner goes ONLINE and clears its cold flag; every other participant reclaims its loans
to the joiner and, if ONLINE or DRAINING and the JOIN is cold, drops what it holds of the joiner's variables (R18,
R32, R183). -/
def commitJoin (t : Tenure) (s : State) : State :=
  match s.link.sender with
  | some _ => (s.setParticipation .online).setCold false
  | none =>
    let s1 := reclaimLoans (sourceOf t.h0) s
    if coldOf t.h0 ∧ s.full = true then coldJoin (sourceOf t.h0) s1 else s1

/-- The commit of a NOTICE: an addressed node appends the received message into its reserved place (R157). -/
def commitNotice (t : Tenure) (s : State) : State :=
  if t.addressed then
    s.setNotices { s.notices with
      inbound := s.notices.inbound ++ [⟨sourceOf t.h0, s.notices.buffer⟩]
      reserved := false }
  else s

/-! ## The commit -/

/-- The commit of a variable kind; JOINING nodes commit nothing for these (R46, R182). -/
def commitVar (t : Tenure) (k : Kind) (v : VarNum) (s : State) : State × Option CmdResult :=
  if s.full then
    (if s.ownsVar v then commitHome t k v s
     else match s.link.sender with
       | some slot => commitRequester slot t k v s
       | none => (commitHolder t k v s, none))
  else (s, none)

/-- Everything this node changes at the end of a COMMITTED tenure (R66, R67); an undefined kind changes nothing
(R70). The result is that of the sending slot's command, where it was applied. -/
def commitTenure (t : Tenure) (s : State) : State × Option CmdResult :=
  match kindOf t.h0, t.h1 with
  | some .notice, _ => (commitNotice t s, none)
  | some .join, _ => (commitJoin t s, none)
  | some k, some h1 => commitVar t k (h1Var h1) s
  | _, _ => (s, none)

/-! ## Re-planning -/

/-- What a slot in SEND or PLAN depends on: its own home record, or the entry tagged with its variable, and the entry
or victim it has recorded. Age ranks do not count (R122). -/
def dependencies (x : Slot) (s : State) : Option HomeRecord × List CopyEntry :=
  let v := (x.command.map (·.body)).bind Body.var?
  (v.bind fun v => if s.ownsVar v then some (s.record v) else none,
   ((List.finRange 32).filter fun i =>
      ((s.copy.entries[i].tag).isSome && s.copy.entries[i].tag == v) || x.entry == some i || x.victim == some i).map
     fun i => { s.copy.entries[i] with age := 0 })

/-- Every slot in SEND or PLAN whose dependencies differ from those in `before` plans again (R122). -/
def replanChanged (before s : State) : State :=
  s.setTracker { s.tracker with slots := Vector.ofFn fun k : SlotIx =>
    let x := before.tracker.slots[k]
    if (x.phase = .send ∨ x.phase = .plan) ∧ dependencies x before ≠ dependencies x s then
      { s.tracker.slots[k] with phase := .plan, frame := none, waiting := none }
    else s.tracker.slots[k] }

end Sys2Proof.Machine
end

