-- ==== Sys2Proof/Machine/Link.lean ====
section
/-!
DEFINITION. The link unit: waits, words and phases, holdoff, the delivery of outcomes to slots, the end of a tenure
and link clear (chapters 4, 6.4, 8.3).
-/

namespace Sys2Proof.Machine

/-! ## Waits -/

/-- A timing field as its mechanism reads it: 0 is taken as 1 (R201). -/
def fieldValue {w : Nat} (x : BitVec w) : Nat := max 1 x.toNat

/-- The handshake timeout, µs (R86, R89). -/
def handshakeMicros (t : Timing) : Nat := fieldValue t.handshake

/-- The notice wait limit, µs (R87, R89). -/
def noticeMicros (t : Timing) : Nat := fieldValue t.noticeWait * 1000

/-- The limit of a NOTICE response wait: the requester's is the notice wait limit, every other participant's adds the
handshake timeout (R87). -/
def noticeResponseLimit (requester : Bool) (t : Timing) : Nat :=
  if requester then noticeMicros t else noticeMicros t + handshakeMicros t

/-- A handshake wait starts with the timeout that stands now (R86, R89). -/
def handshakeWait (kind : WaitKind) (s : State) : Option Wait := some ⟨kind, handshakeMicros s.timing⟩

/-! ## Words this node sends -/

/-- The words this node drives in the data phase, or none where it takes them: a requester's WRITEBACK or NOTICE, the
value of the MOD asserter's entry, or the home's record (R11, R29, R36, R62, R63). -/
def State.dataSource (s : State) : Option (List Halfword) :=
  match s.link.tenure with
  | none => none
  | some t =>
    match kindOf t.h0, namedVar t.h0 (t.h1.getD 0#16), s.link.sender with
    | some .writeback, some v, some _ => (s.entryOf v).map fun i => s.copy.entries[i].value.toList
    | some .notice, _, some k => some ((s.tracker.slots[k].frame).elim [] (·.payload))
    | some .read, some v, none | some .own, some v, none =>
      if t.lines.modLine then
        (if t.answers.modLine then (s.entryOf v).map fun i => s.copy.entries[i].value.toList else none)
      else if t.answers.homeLine then some (s.record v).value.toList
      else none
    | _, _, _ => none

/-! ## Arbitration -/

/-- A request word opens: a participant with a frame ready drives LBUSY and changes VALID, and bids if its inhibit
flag is clear (R75, R78). -/
def openRequestWord (s : State) : State :=
  s.setLink { s.link with
    wordOpen := true
    valid := !s.link.valid
    opener := s.frameReady
    bidding := s.frameReady && !s.link.inhibit
    wait := handshakeWait .wordCompletion s }

/-- The lowest set bit of a request word names the winner (R78). -/
def lowestBid (ld : Halfword) : Option NodeId :=
  ((List.finRange 16).find? fun i => ld.getLsbD i.val).map fun i => BitVec.ofNat 4 i.val

/-- The slots as the send pointer rotates over them (R126). -/
def rotation (p : SlotIx) : List SlotIx := [p, p + 1, p + 2, p + 3]

/-- The slot whose frame is sent at a win: the first in SEND from the pointer on (R126). -/
def State.sendChoice (s : State) : Option SlotIx :=
  (rotation s.tracker.pointer).find? fun k => s.tracker.slots[k].phase == .send

/-- An unanswered tenure with its header. -/
def newTenure (h0 : Halfword) (h1 : Option Halfword) : Tenure :=
  ⟨h0, h1, none, quietLines, false, 0#16, quietLines, none, 0⟩

/-- The node wins with slot `k`'s frame: inhibit is set, the pointer moves on, the slot enters LINK with its tenures
count raised, the header is formed and H0 opened (R48, R78, R80, R126, R127). -/
def winWith (k : SlotIx) (f : Frame) (s : State) : State :=
  let x := s.tracker.slots[k]
  (s.setTracker
    { slots := s.tracker.slots.set k { x with phase := .link, tenures := min Config.tenuresLimit (x.tenures + 1) }
      pointer := k + 1 }).setLink
    { s.link with
      phase := .header
      inhibit := true
      bidding := false
      wordOpen := true
      valid := !s.link.valid
      wordIndex := 0
      sender := some k
      tenure := some (newTenure (formH0 s.nodeId s.cold f x.unsuccessful) (some f.h1))
      wait := handshakeWait .wordCompletion s }

/-- Another node wins: this node awaits H0 (R78). -/
def loseArbitration (s : State) : State :=
  s.setLink { s.link with
    phase := .header
    bidding := false
    wordOpen := false
    wordIndex := 0
    sender := none
    tenure := none
    wait := handshakeWait .nextWord s }

/-- The phase ends without a tenure (R79). -/
def phaseEnd (s : State) : State :=
  s.setLink { s.link with phase := .idle, bidding := false, wordOpen := false, wait := none }

/-- An empty request word completes: every participant clears its inhibit flag, and another word opens, is awaited, or
LBUSY falls (R79). -/
def emptyWord (next : AfterEmpty) (s : State) : State :=
  let s1 := s.setLink { s.link with inhibit := false, bidding := false, wordOpen := false }
  if s1.frameReady then openRequestWord s1
  else match next with
    | .opens => openRequestWord s1
    | .stalls => s1.setLink { s1.link with wait := handshakeWait .nextRequest s1 }
    | .lbusyFalls => phaseEnd s1

/-- This node's own bid as driven on LD (R78). -/
def State.bidWord (s : State) : Halfword := if s.link.bidding then nodeBit s.nodeId else 0#16

/-- A request word completes with the levels `ld`, this node's own bid among them (R78, R79). -/
def completeRequest (ld : Halfword) (next : AfterEmpty) (s : State) : State :=
  match lowestBid (ld ||| s.bidWord) with
  | none => emptyWord next s
  | some n =>
    if n = s.nodeId ∧ s.link.bidding = true then
      (match s.sendChoice with
       | none => loseArbitration s
       | some k => match s.tracker.slots[k].frame with
         | none => loseArbitration s
         | some f => winWith k f s)
    else loseArbitration s

/-! ## Header -/

/-- H0 is taken; an undefined kind counts a protocol error (R49, R70). -/
def takeH0 (ld : Halfword) (s : State) : State :=
  let s1 := s.setLink { s.link with
    wordOpen := true
    valid := !s.link.valid
    tenure := some (newTenure ld none)
    wait := handshakeWait .wordCompletion s }
  if (kindOf ld).isNone then countProtocolError s1 else s1

/-- The tenure with its H1: the variable bound and the answers fixed from the state as it stands (R54, R55, R151). -/
def withH1 (s : State) (asRequester : Bool) (t : Tenure) (h1 : Halfword) : Tenure :=
  { t with
    h1 := some h1
    bound := namedVar t.h0 h1
    answers := answersTo s asRequester t.h0 h1
    addressed := !asRequester && noticeAddresses s t.h0 h1 }

/-- H1 is taken (R54); the home counts a protocol error as it answers a CLAIM on a LENT record (R9). -/
def takeH1 (ld : Halfword) (t : Tenure) (s : State) : State :=
  let s1 := s.setLink { s.link with
    wordOpen := true
    valid := !s.link.valid
    tenure := some (withH1 s false t ld)
    wait := handshakeWait .wordCompletion s }
  if claimOnLent s t.h0 ld then countProtocolError s1 else s1

/-- The requester drives H1 and from then binds its variable (R54, R55). -/
def driveH1 (t : Tenure) (s : State) : State :=
  s.setLink { s.link with
    wordOpen := true
    valid := !s.link.valid
    wordIndex := 1
    tenure := some (withH1 s true t (t.h1.getD 0#16))
    wait := handshakeWait .wordCompletion s }

/-- H0 completes at a participant that took it: H1 is awaited (R86). -/
def awaitH1 (s : State) : State :=
  s.setLink { s.link with wordOpen := false, wordIndex := 1, wait := handshakeWait .nextWord s }

/-- H1 completes: the requester opens the response word with its part of it in place, a NOTICE's as a step of its own,
and every other participant awaits its opening (R56, R57, R75, R86, R153). -/
def openResponse (t : Tenure) (s : State) : State :=
  let opens := s.link.sender.isSome && kindOf t.h0 != some .notice
  s.setLink { s.link with
    phase := .response
    wordIndex := 0
    wordOpen := opens
    valid := s.link.valid != opens
    wait :=
      if opens then handshakeWait .wordCompletion s
      else if s.link.sender.isSome then none else handshakeWait .nextWord s }

/-- A participant observes the response word opened: it drives its part of the word, takes it, and awaits the completion
(R75, R86; log entry 32). -/
def seeResponse (s : State) : State :=
  s.setLink { s.link with wordOpen := true, valid := !s.link.valid, wait := handshakeWait .wordCompletion s }

/-! ## The response word of a NOTICE -/

/-- Room of the inbound queue: 16 less the records, less 1 while a reservation is held (R150). -/
def State.room (s : State) : Nat :=
  Config.inboundCapacity - s.notices.inbound.length - (if s.notices.reserved then 1 else 0)

/-- The node is holding off the response word of a NOTICE (R76). -/
def State.holdingOff (s : State) : Bool := s.link.taken == .withheld

/-- A holding node reserves a place if it has none and there is room, and takes the word once it holds a reservation
and NPAUSE is clear (R154). -/
def tryTake (s : State) : State :=
  if s.holdingOff then
    let s1 := if s.notices.reserved = false ∧ 0 < s.room then
        s.setNotices { s.notices with reserved := true } else s
    if s1.notices.reserved = true ∧ s1.control.npause = false then
      s1.setLink { s1.link with taken := .follows }
    else s1
  else s

/-- The requester opens the NOTICE response word: the response waits start; an addressed node reserves a place if it
has room and takes the word, or holds off (R87, R153). -/
def openNoticeResponse (t : Tenure) (s : State) : State :=
  tryTake (s.setLink { s.link with
    wordOpen := true
    valid := !s.link.valid
    taken := if t.addressed then .withheld else .follows
    wait := some ⟨.noticeResponse, noticeResponseLimit s.link.sender.isSome s.timing⟩ })

/-! ## Response, data, close -/

/-- This node's present bit, driven when it is ONLINE or DRAINING (R56). -/
def State.presentBit (s : State) : NodeMask := if s.full then nodeBit s.nodeId else 0#16

/-- The roster becomes the present mask, and ROSTER is set when it changes (R84). -/
def updateRoster (present : NodeMask) (s : State) : State :=
  latch ⟨false, false, false, s.link.roster != present⟩ (s.setLink { s.link with roster := present })

/-- The tenure's last word has completed: the requester releases LBUSY, every other participant awaits its fall (R82,
R86). -/
def closeTenure (s : State) : State :=
  s.setLink { s.link with
    phase := .close
    wordOpen := false
    wait := if s.link.sender.isSome then none else handshakeWait .tenureEnd s }

/-- Data word `i` is next: this node opens it if it sends the words, awaits it otherwise; past the last word the
tenure closes (R61, R74, R82). -/
def nextData (i length : Nat) (s : State) : State :=
  if i < length then
    s.setLink { s.link with
      phase := .data
      wordIndex := i
      wordOpen := s.dataSource.isSome
      valid := s.link.valid != s.dataSource.isSome
      wait := if s.dataSource.isSome then handshakeWait .wordCompletion s else handshakeWait .nextWord s }
  else closeTenure s

/-- The latched response word and what every node derives from it (R58, R59). -/
def latchResponse (t : Tenure) (present : NodeMask) (lines : RespLines) : Tenure :=
  { t with
    present := present
    lines := lines
    outcome := some (resolve t.h0 lines)
    dataLength := dataLengthFor (resolve t.h0 lines) t.h0 (t.h1.getD 0#16) lines }

/-- The capture condition of R12: MOD supplied and the lender present, or a WRITEBACK from the lender, on a LENT
record. -/
def captures (t : Tenure) (s : State) (v : VarNum) : Bool :=
  match kindOf t.h0, (s.record v).state with
  | some .read, .lent l => t.lines.modLine && inMask t.present l
  | some .own, .lent l => t.lines.modLine && inMask t.present l
  | some .writeback, .lent l => l == sourceOf t.h0
  | _, _ => false

/-- A data word is taken into the capture buffer, the receive buffer or the notice buffer, or discarded (R12, R33,
R64, R156). -/
def keepDataWord (t : Tenure) (ld : Halfword) (s : State) : State :=
  match namedVar t.h0 (t.h1.getD 0#16) with
  | some v =>
    if s.ownsVar v then
      (if captures t s v then s.setHome { s.home with capture := s.home.capture ++ [ld] } else s)
    else if s.link.sender.isSome then s.setCopy { s.copy with receive := s.copy.receive ++ [ld] }
    else s
  | none =>
    if t.addressed then s.setNotices { s.notices with buffer := s.notices.buffer ++ [ld] } else s

/-- A data word is taken (R64, R74). -/
def takeData (t : Tenure) (ld : Halfword) (s : State) : State :=
  (keepDataWord t ld s).setLink
    { s.link with wordOpen := true, valid := !s.link.valid, wait := handshakeWait .wordCompletion s }

/-! ## Outcomes delivered to the sending slot -/

/-- What the sending slot receives at the end of its tenure, or at its abort with the abort's cause (R69, R93). -/
inductive Delivery where
  | committed (applied : Option CmdResult) (delivered : Option NodeMask)
  | retried
  | noHome
  | denied
  /-- Another node's clear, this node's host LINKCLEAR, or a header mismatch outside a JOIN. -/
  | cleared
  | handshakeExpired
  | noticeExpired
  | duplicateId
  deriving DecidableEq, Repr

/-- An unsuccessful attempt: the count and CNT-RETRY rise, and the slot backs off or ends RETRY-EXHAUSTED (R128,
R129). -/
def failAttempt (k : SlotIx) (s : State) : State :=
  let n := s.tracker.slots[k].unsuccessful + 1
  let s1 := raiseCounter .retry 1 (writeSlot k { s.tracker.slots[k] with unsuccessful := n } s)
  if fieldValue s.timing.retryLimit ≤ n then endCommand k .retryExhausted s1
  else writeSlot k { s1.tracker.slots[k] with
    phase := .backoff, frame := none, waiting := none, backoff := n * fieldValue s.timing.backoffUnit } s1

/-- A COMMITTED end: a command that was applied, or whose tenure was its whole work, completes; an eviction or a
barrier's give-back goes on (R127). -/
def deliverCommit (k : SlotIx) (applied : Option CmdResult) (delivered : Option NodeMask) (s : State) : State :=
  match applied, s.slotBody k with
  | some r, _ => complete k r none s
  | none, some (.release _) => complete k ⟨.ok, none⟩ none s
  | none, some (.notice _ _) => complete k ⟨.ok, none⟩ delivered s
  | none, some .join => complete k ⟨.ok, none⟩ none s
  | none, _ => replan k s

/-- A NO-HOME end: an eviction's slot, its victim released, chooses again, a barrier's entry is stranded, any other
command ends NO-HOME (R43, R123, R130, R188). -/
def deliverNoHome (k : SlotIx) (s : State) : State :=
  let x := s.tracker.slots[k]
  match x.victim, s.slotBody k with
  | some _, _ => replan k (writeSlot k { x with victim := none } s)
  | none, some b =>
    if b.drains then replan k (writeSlot k { x with stranded := x.stranded ++ x.entry.toList } s)
    else endCommand k .noHome s
  | none, none => endCommand k .noHome s

/-- The sending slot acts on its tenure's outcome (R127 to R131). -/
def deliver (k : SlotIx) (d : Delivery) (s : State) : State :=
  match d with
  | .committed r m => deliverCommit k r m s
  | .retried => failAttempt k s
  | .noHome => deliverNoHome k s
  | .denied => endCommand k .denied s
  | .cleared => failAttempt k s
  | .handshakeExpired => endCommand k .linkTimeout s
  | .noticeExpired => endCommand k .noticeTimeout s
  | .duplicateId => endCommand k .duplicateId s

/-- The outcome ends the sending slot's command, or the reservation of its victim (R37, R43, R128, R130, R131). A commit
has already changed the reservations it ends. -/
def endsReservation (k : SlotIx) (d : Delivery) (s : State) : Bool :=
  match d with
  | .committed _ _ => false
  | .retried | .cleared => fieldValue s.timing.retryLimit ≤ s.tracker.slots[k].unsuccessful + 1
  | .noHome => s.tracker.slots[k].victim.isSome || !(s.slotBody k).any Body.drains
  | .denied | .handshakeExpired | .noticeExpired | .duplicateId => true

/-- The sending slot's reservation as its outcome leaves it, before any slot plans (R37, R131; log entry 14). -/
def releaseEnded (k : SlotIx) (d : Delivery) (s : State) : State :=
  if endsReservation k d s then releaseReservations k s else s

/-- The slots numbered below `k` that are to plan do so, lowest first (R116). The bound is never reached (log entry
14). -/
def plansBelow (k : SlotIx) : Nat → State → State
  | 0, s => s
  | n + 1, s =>
    match (List.finRange 4).find? fun j => decide (j < k) && s.due j with
    | some j => plansBelow k n (planSlot j s)
    | none => s

/-- The slots take their turns in rising slot number, the sender acting on its outcome in its own turn; then the queue is
considered (R116, R132, R101). -/
def slotTurns (sender : Option SlotIx) (d : Delivery) (s : State) : State :=
  match sender with
  | none => settle s
  | some k => settle (deliver k d (plansBelow k Config.settleBound (releaseEnded k d s)))

/-! ## The end of a tenure -/

/-- The link unit back in IDLE, the variable unbound (R65, R82). -/
def linkIdle (s : State) : State :=
  s.setLink { s.link with
    phase := .idle, bidding := false, wordOpen := false, wordIndex := 0, taken := .follows, sender := none,
    tenure := none, wait := none }

/-- Receive, capture and notice buffers emptied, a room reservation freed (R69, R158). -/
def dropBuffers (s : State) : State :=
  ((s.setHome { s.home with capture := [] }).setCopy { s.copy with receive := [] }).setNotices
    { s.notices with reserved := false, buffer := [] }

/-- What the sender receives for each outcome (R68, R127). -/
def deliveryOf (t : Tenure) (applied : Option CmdResult) : Delivery :=
  match t.outcome with
  | some .committed => .committed applied (some (t.h1.getD 0#16 &&& t.present))
  | some .retried => .retried
  | some .noHome => .noHome
  | some .denied => .denied
  | none => .cleared

/-- The changes a tenure's end makes before the slots act: the commit if the outcome is COMMITTED, then unbinding, and
the re-plans the commit calls for (R65 to R68, R122). -/
def endState (t : Tenure) (s : State) : State × Option CmdResult :=
  if t.outcome = some .committed then
    let (s1, r) := commitTenure t s
    (linkIdle (dropBuffers (replanChanged s s1)), r)
  else (linkIdle (dropBuffers s), none)

/-- The end of a tenure (R65). -/
def endTenure (t : Tenure) (s : State) : State :=
  let (s1, r) := endState t s
  slotTurns s.link.sender (deliveryOf t r) s1

/-! ## Link clear -/

/-- This node is a participant at a link clear: of the phase or tenure in progress, or, on an idle link, by being
ONLINE, DRAINING or JOINING with no phase outside it (R91, R92). While LCLR is asserted another assertion belongs to the
same clear, and a node that became JOINING under it takes no part in it (R90, R92). -/
def State.observesClear (s : State) : Bool :=
  s.inTenure || (s.link.phase == .idle && s.link.outside == .nothing && s.participation != .offline && !s.link.lclr)

/-- The link unit in CLEAR: everything released, VALID and TAKEN at rest, the inhibit flag cleared (R81, R91). -/
def clearLink (s : State) : State :=
  s.setLink { s.link with
    phase := .clear, outside := .nothing, inhibit := false, bidding := false, wordOpen := false, valid := false,
    wordIndex := 0, taken := .follows, sender := none, tenure := none, wait := none, lclr := true }

/-- LCLR is asserted on a link this node takes no part in: VALID is at rest and TAKEN follows it (R73, R91). -/
def hearClear (s : State) : State :=
  s.setLink { s.link with outside := .nothing, wordOpen := false, valid := false, taken := .follows, lclr := true }

/-- A node outside the tenure neither counts the clear nor changes its inhibit flag (R92). At an OFFLINE node's own
LINKCLEAR, of which it observes nothing (R90), its VALID goes to rest and a TAKEN contribution that POR froze follows it
again, as at another node's clear (DESIGN CHOICE, log entry 35). -/
def clearOutside (s : State) : State := (hearClear s).setLink { (hearClear s).link with phase := .clear }

/-- A link clear at this node, the sending slot receiving `d` (R69, R91 to R93). -/
def abortLink (d : Delivery) (s : State) : State :=
  if s.observesClear then slotTurns s.link.sender d (dropBuffers (countLinkClear (clearLink s)))
  else clearOutside s

/-- A phase or tenure goes on without this node, and the link is not idle at it. After an early fall of LBUSY it is idle
once no word is open (R72, R73). -/
def State.shutOut (s : State) : Bool :=
  match s.link.outside with
  | .nothing => false
  | .phase | .tenure => true
  | .lost => s.link.wordOpen

/-- The level of this node's TAKEN contribution (R72, R73). -/
def State.pinTaken (s : State) : Bool :=
  match s.link.taken with
  | .follows => s.link.valid
  | .withheld => !s.link.valid
  | .frozen level => level

/-- This node drives LCLR for 2 µs (R90). -/
def drivePulse (s : State) : State := s.setLink { s.link with pulse := Config.pulseMicros }

/-- This node pulses LCLR and takes the clear's effects as any participant does (R88, R90). -/
def pulseAndAbort (d : Delivery) (s : State) : State := abortLink d (drivePulse s)

/-- The requester's delivery at a header mismatch (R185). -/
def mismatchDelivery (s : State) : Delivery :=
  match s.link.sender with
  | some k => if s.slotBody k = some .join then .duplicateId else .cleared
  | none => .cleared

/-- A JOIN finds its own bit in its response word (R184). -/
def duplicateSeen (t : Tenure) (present : NodeMask) (s : State) : Bool :=
  s.link.sender.isSome && kindOf t.h0 == some .join && inMask present s.nodeId

/-- The response word completes (R75): it is latched, the roster is written, and the outcome resolved; a joiner that
finds its own bit pulses link clear (R58, R84, R184). Its opening is seen with it where it was not seen before (log entry
32). -/
def completeResponse (t : Tenure) (present : NodeMask) (lines : RespLines) (s : State) : State :=
  let mask := present ||| s.presentBit
  let t1 := latchResponse t mask (orLines lines t.answers)
  let s1 := updateRoster mask s
  let s2 := s1.setLink
    { s1.link with tenure := some t1, wordOpen := false, valid := s1.link.valid == s1.link.wordOpen }
  if duplicateSeen t mask s then pulseAndAbort .duplicateId s2 else nextData 0 t1.dataLength s2

/-- A header or data word completes (R74). The requester compares each header word it drove with the levels on LD, its
own among them (R185). -/
def completeWord (ld : Halfword) (t : Tenure) (s : State) : State :=
  match s.link.phase, s.link.wordIndex with
  | .header, 0 =>
    if s.link.sender.isSome then
      (if ld ||| t.h0 = t.h0 then driveH1 t s else pulseAndAbort (mismatchDelivery s) s)
    else awaitH1 s
  | .header, _ =>
    if s.link.sender.isSome ∧ ld ||| t.h1.getD 0#16 ≠ t.h1.getD 0#16 then
      pulseAndAbort (mismatchDelivery s) s
    else openResponse t s
  | .data, i => nextData (i + 1) t.dataLength s
  | _, _ => s

end Sys2Proof.Machine
end

