-- ==== Sys2Proof/Machine/Resets.lean ====
section
/-!
DEFINITION. Soft reset and power-on reset (chapter 10.5).
-/

namespace Sys2Proof.Machine

/-- The clear a soft reset pulses and observes if the node is a participant of a phase or tenure in progress (R194
step 1). The slots receive nothing: the reset swallows the outcome (R136). -/
def softResetClear (s : State) : State := if s.inTenure then countLinkClear (clearLink (drivePulse s)) else s

/-- The link unit after a soft reset (R94): reset values, while the lines stay what they are. This node's pulse runs on,
LCLR and VALID keep their levels, and a phase this node is outside of goes on, its word open or not. The unit is IDLE
even while LCLR is asserted (log entry 16). -/
def softResetLink (s : State) : LinkUnit :=
  { LinkUnit.reset with
    outside := s.link.outside
    wordOpen := s.link.outside != .nothing && s.link.wordOpen
    valid := s.link.valid
    pulse := s.link.pulse
    lclr := s.link.lclr }

/-- The blocks at their soft-reset values and the node OFFLINE (R194 steps 2 and 3). Home records, cold flag, timing,
control, counters, staging and SUBMIT are kept. -/
def softResetBlocks (s : State) : State :=
  { s with
    participation := .offline
    port := { s.port with queue := [] }
    home := { s.home with capture := [] }
    copy := CopyUnit.empty
    tracker := Tracker.empty
    holds := emptyHolds
    notices := NoticeUnit.empty
    completion := ⟨[], Config.credits, Latched.clear, s.completion.counters⟩
    link := softResetLink s }

/-- A soft reset (R194). -/
def softReset (s : State) : State := softResetBlocks (softResetClear s)

/-- What goes on without this node once it is cut off: the phase or tenure it was a participant of, or what did before
(R73). -/
def State.cutOff (s : State) : Outside :=
  match s.link.phase with
  | .arbitrate => .phase
  | .header | .response | .data | .close => .tenure
  | .idle | .clear => s.link.outside

/-- POR asserted: the node drives no line of the link and takes no word; as a participant it leaves its TAKEN contribution
at its last level (R73, R195). A word open on the link stays open there, and the levels of VALID and LCLR are seen as
before (log entry 20). -/
def assertPor (s : State) : State :=
  (s.setPor true).setLink { s.link with
    phase := .idle
    outside := s.cutOff
    bidding := false
    sender := none
    tenure := none
    wait := none
    pulse := 0
    taken := if s.inTenure then .frozen s.pinTaken else s.link.taken }

/-- POR released: the straps are sampled, the cold flag is set, every block holds its POR values and the node is
OFFLINE. Its TAKEN contribution stays as POR left it, and what it sees of the lines goes on (R73, R195; log entry 20). -/
def releasePor (straps : NodeId) (s : State) : State :=
  let link := (assertPor s).link
  (State.afterPor straps s.pending).setLink
    { LinkUnit.reset with
      outside := link.outside
      wordOpen := link.outside != .nothing && link.wordOpen
      valid := link.valid
      taken := link.taken
      lclr := link.lclr }

/-- A node that takes no part and observes the link idle lets its TAKEN contribution follow VALID (R73); `outside` tells
whether the next phase opens in the same event. -/
def releaseTaken (outside : Outside) (s : State) : State :=
  s.setLink { s.link with outside := outside, wordOpen := false, taken := .follows }

end Sys2Proof.Machine
end

