-- ==== Sys2Proof/Machine/Window.lean ====
section
/-!
DEFINITION. The register window: what a read shows and what a write does (chapter 11).
-/

namespace Sys2Proof.Machine

/-! ## Register contents -/

/-- The number of a status (R166). -/
def Status.number : Status → BitVec 4
  | .ok => 1
  | .mismatch => 2
  | .denied => 3
  | .noHome => 4
  | .retryExhausted => 5
  | .linkTimeout => 6
  | .noticeTimeout => 7
  | .holdExpired => 8
  | .late => 9
  | .held => 10
  | .noRoom => 11
  | .holdFull => 12
  | .duplicateId => 13
  | .lost => 14
  | .cancelled => 15

/-- The number of a participation state (chapter 11.2). -/
def Participation.number : Participation → BitVec 2
  | .offline => 0
  | .joining => 1
  | .online => 2
  | .draining => 3

/-- The number of a SUBMIT result (chapter 11.2). -/
def SubmitResult.number : SubmitResult → Halfword
  | .accepted => 0
  | .full => 1
  | .badCode => 2
  | .badArg => 3
  | .wrongState => 4

/-- One bit of a register. -/
def flagBit (b : Bool) : BitVec 1 := if b then 1#1 else 0#1

/-- Busy slots, 0 to 4 (R114). -/
def State.busySlots (s : State) : Nat := (List.finRange 4).countP fun k => s.tracker.slots[k].phase != .free

/-- A FLUSH or LEAVE has started and not completed (R179). -/
def State.draining (s : State) : Bool := (List.finRange 4).any fun k => (s.slotBody k).any Body.drains

/-- IDENT (R198). -/
def regIdent (s : State) : Halfword := Config.version ++ 0#4 ++ s.nodeId

/-- STATE (R198). -/
def regState (s : State) : Halfword :=
  0#8 ++ flagBit s.draining ++ BitVec.ofNat 3 s.busySlots ++ 0#1 ++ flagBit s.cold ++ s.participation.number

/-- CONTROL (R199). -/
def regControl (s : State) : Halfword :=
  0#5 ++ flagBit s.control.atte ++ flagBit s.control.nqe ++ flagBit s.control.cqe ++ 0#3 ++ flagBit s.control.npause
    ++ 0#4

/-- CAUSE (R200). -/
def regCause (s : State) : Halfword :=
  let l := s.completion.latched
  0#4 ++ flagBit l.roster ++ flagBit l.discard ++ flagBit l.reclaim ++ flagBit l.linkErr ++ 0#6 ++ flagBit s.nq
    ++ flagBit s.cq

/-- TIMING1 (R201). -/
def regTiming1 (s : State) : Halfword := 0#3 ++ s.timing.retryLimit ++ s.timing.handshake

/-- TIMING2 (R201). -/
def regTiming2 (s : State) : Halfword := s.timing.noticeWait ++ s.timing.backoffUnit

/-- CREDITS (R172, R198). -/
def regCredits (s : State) : Halfword :=
  0#4 ++ BitVec.ofNat 4 s.port.queue.length ++ 0#3 ++ BitVec.ofNat 5 s.completion.free

/-- CQHEAD (R203). -/
def regCqHead (s : State) : Halfword :=
  match s.completion.queue with
  | [] => 0#16
  | c :: _ => c.status.number ++ c.code.number ++ c.tag

/-- CQVAR (R203). -/
def regCqVar (s : State) : Halfword :=
  match s.completion.queue with
  | [] => 0#16
  | c :: _ => match c.subject with
    | .absent => 0#16
    | .var v => v.setWidth 16
    | .listeners m => m

/-- CQINFO (R203). -/
def regCqInfo (s : State) : Halfword :=
  match s.completion.queue with
  | [] => 0#16
  | c :: rest =>
    BitVec.ofNat 5 (rest.length + 1) ++ 0#2 ++ flagBit c.value.isSome ++ 0#3 ++ BitVec.ofNat 5 c.attempts

/-- CQMASK (R203). -/
def regCqMask (s : State) : Halfword :=
  match s.completion.queue with
  | [] => 0#16
  | c :: _ => c.delivered.getD 0#16

/-- CQVALk (R203). -/
def regCqVal (s : State) (k : Fin 8) : Halfword :=
  match s.completion.queue with
  | [] => 0#16
  | c :: _ => (c.value).elim 0#16 fun x => x[k]

/-- NQHEAD (R204). -/
def regNqHead (s : State) : Halfword :=
  match s.notices.inbound with
  | [] => 0#16
  | n :: rest => 0#3 ++ BitVec.ofNat 5 (rest.length + 1) ++ BitVec.ofNat 4 n.payload.length ++ n.sender

/-- NQDATAk (R204). -/
def regNqData (s : State) (k : Nat) : Halfword :=
  match s.notices.inbound with
  | [] => 0#16
  | n :: _ => n.payload.getD k 0#16

/-- The byte offset of the halfword register an access selects: no address line carries bit 0 (R196). -/
def registerOffset (offset : BitVec 7) : Nat := offset.toNat / 2 * 2

/-- The content of the register at a byte offset (chapter 11.1); an unmapped offset and a pop register read 0 (R197). -/
def readRegister (s : State) (offset : Nat) : Halfword :=
  match offset with
  | 0x00 => regIdent s
  | 0x02 => regState s
  | 0x04 => s.link.roster
  | 0x06 => regControl s
  | 0x08 => regCause s
  | 0x0A => regTiming1 s
  | 0x0C => regTiming2 s
  | 0x0E => regCredits s
  | 0x10 => s.port.staging.cmd
  | 0x12 => s.port.staging.cvar
  | 0x14 => s.port.staging.carg0
  | 0x16 => s.port.staging.carg1
  | 0x18 => s.port.staging.stage[0]
  | 0x1A => s.port.staging.stage[1]
  | 0x1C => s.port.staging.stage[2]
  | 0x1E => s.port.staging.stage[3]
  | 0x20 => s.port.staging.stage[4]
  | 0x22 => s.port.staging.stage[5]
  | 0x24 => s.port.staging.stage[6]
  | 0x26 => s.port.staging.stage[7]
  | 0x28 => s.port.result.number
  | 0x30 => regCqHead s
  | 0x32 => regCqVar s
  | 0x34 => regCqInfo s
  | 0x36 => regCqMask s
  | 0x38 => regCqVal s 0
  | 0x3A => regCqVal s 1
  | 0x3C => regCqVal s 2
  | 0x3E => regCqVal s 3
  | 0x40 => regCqVal s 4
  | 0x42 => regCqVal s 5
  | 0x44 => regCqVal s 6
  | 0x46 => regCqVal s 7
  | 0x50 => regNqHead s
  | 0x52 => regNqData s 0
  | 0x54 => regNqData s 1
  | 0x56 => regNqData s 2
  | 0x58 => regNqData s 3
  | 0x5A => regNqData s 4
  | 0x5C => regNqData s 5
  | 0x5E => regNqData s 6
  | 0x60 => regNqData s 7
  | 0x70 => s.completion.counters.retry
  | 0x72 => s.completion.counters.clear
  | 0x74 => s.completion.counters.reclaim
  | 0x76 => s.completion.counters.discard
  | 0x78 => s.completion.counters.proto
  | _ => 0#16

/-- What a host read strobe puts on the data lines; nothing is driven while POR is asserted (R196, R197). Reading
changes nothing. -/
def State.hostRead (s : State) (offset : BitVec 7) : Option Halfword :=
  if s.por then none else some (readRegister s (registerOffset offset))

/-! ## Writes -/

/-- Pop the completion queue: the head leaves and its credit returns; ignored while empty (R169). -/
def popCompletion (s : State) : State :=
  match s.completion.queue with
  | [] => s
  | _ :: rest => s.setCompletion { s.completion with queue := rest, free := s.completion.free + 1 }

/-- Pop the inbound notice queue: the head leaves; a node holding off may reserve and take (R154, R162). -/
def popNotice (s : State) : State :=
  match s.notices.inbound with
  | [] => s
  | _ :: rest => tryTake (s.setNotices { s.notices with inbound := rest })

/-- The kept fields of CONTROL as a word writes them (chapter 11.2). -/
def controlOf (word : Halfword) : Control :=
  ⟨word.getLsbD 4, word.getLsbD 8, word.getLsbD 9, word.getLsbD 10⟩

/-- The host's own pulse: it aborts what the link carries, as another node's clear (R90, R93). -/
def hostPulse (s : State) : State := pulseAndAbort .cleared s

/-- A host write to CONTROL: SOFTRESET first, then the fields, which may end a holdoff, then LINKCLEAR's pulse (R199). -/
def writeControl (word : Halfword) (s : State) : State :=
  let s1 := if word.getLsbD 0 then softReset s else s
  let s2 := tryTake (s1.setControl (controlOf word))
  if word.getLsbD 1 then hostPulse s2 else s2

/-- CONTROL as firmware writes it back with one field changed: SOFTRESET and LINKCLEAR read 0 (R199). -/
def controlWith (c : Control) : Halfword :=
  0#5 ++ flagBit c.atte ++ flagBit c.nqe ++ flagBit c.cqe ++ 0#3 ++ flagBit c.npause ++ 0#4

/-- A write to TIMING1; bits 15–13 are not kept (R197, R201). -/
def writeTiming1 (word : Halfword) (s : State) : State :=
  s.setTiming { s.timing with handshake := word.extractLsb' 0 8, retryLimit := word.extractLsb' 8 5 }

/-- A write to TIMING2 (R201). -/
def writeTiming2 (word : Halfword) (s : State) : State :=
  s.setTiming { s.timing with backoffUnit := word.extractLsb' 0 8, noticeWait := word.extractLsb' 8 8 }

/-- A write to STAGEk. -/
def writeStage (k : Fin 8) (word : Halfword) (s : State) : State :=
  setStaging (fun st => { st with stage := st.stage.set k word }) s

/-- A host write to the register at a byte offset, by its access class (R197). Read-only registers and unmapped
offsets ignore it. -/
def writeRegister (offset : Nat) (word : Halfword) (s : State) : State :=
  match offset with
  | 0x06 => writeControl word s
  | 0x08 => clearCauses word s
  | 0x0A => writeTiming1 word s
  | 0x0C => writeTiming2 word s
  | 0x10 => setStaging (fun st => { st with cmd := word }) s
  | 0x12 => setStaging (fun st => { st with cvar := word }) s
  | 0x14 => setStaging (fun st => { st with carg0 := word }) s
  | 0x16 => setStaging (fun st => { st with carg1 := word }) s
  | 0x18 => writeStage 0 word s
  | 0x1A => writeStage 1 word s
  | 0x1C => writeStage 2 word s
  | 0x1E => writeStage 3 word s
  | 0x20 => writeStage 4 word s
  | 0x22 => writeStage 5 word s
  | 0x24 => writeStage 6 word s
  | 0x26 => writeStage 7 word s
  | 0x28 => submit s
  | 0x48 => popCompletion s
  | 0x62 => popNotice s
  | 0x70 => zeroCounter .retry s
  | 0x72 => zeroCounter .clear s
  | 0x74 => zeroCounter .reclaim s
  | 0x76 => zeroCounter .discard s
  | 0x78 => zeroCounter .proto s
  | _ => s

/-- A host write takes effect within the write; while POR is asserted it is ignored (R196, R197). -/
def hostWrite (f : State → State) (s : State) : State := if s.por then s else f s

end Sys2Proof.Machine
end

