-- ==== Sys2Proof/Machine/HostCommands.lean ====
section
/-!
DEFINITION. The meanings of the submit rows: the host stages the registers the code uses and writes SUBMIT (R95; log
entry 4). Registers the code does not use keep what the host left there.
-/

namespace Sys2Proof.Machine

/-- Stage and submit, unless POR is asserted (R95, R197). -/
def stageAndSubmit (f : Staging → Staging) (s : State) : Host.Outcome State Fault Refusal :=
  .next (hostWrite (fun s => submit (setStaging f s)) s)

/-- LOAD (R103). -/
def execLoad (tag : Tag) (cvar : Halfword) (s : State) : Host.Outcome State Fault Refusal :=
  stageAndSubmit (fun st => { st with cmd := cmdWord 1 tag, cvar := cvar }) s

/-- STORE (R104). -/
def execStore (tag : Tag) (cvar carg0 : Halfword) (payload : Value) (s : State) :
    Host.Outcome State Fault Refusal :=
  stageAndSubmit (fun st => { st with cmd := cmdWord 2 tag, cvar := cvar, carg0 := carg0, stage := payload }) s

/-- SWAP (R105). -/
def execSwap (tag : Tag) (cvar carg0 carg1 : Halfword) (payload : Value) (s : State) :
    Host.Outcome State Fault Refusal :=
  stageAndSubmit (fun _ => ⟨cmdWord 3 tag, cvar, carg0, carg1, payload⟩) s

/-- RELEASE (R106). -/
def execRelease (tag : Tag) (cvar : Halfword) (s : State) : Host.Outcome State Fault Refusal :=
  stageAndSubmit (fun st => { st with cmd := cmdWord 4 tag, cvar := cvar }) s

/-- HOLD (R107). -/
def execHold (tag : Tag) (cvar carg0 : Halfword) (s : State) : Host.Outcome State Fault Refusal :=
  stageAndSubmit (fun st => { st with cmd := cmdWord 5 tag, cvar := cvar, carg0 := carg0 }) s

/-- UNHOLD (R108). -/
def execUnhold (tag : Tag) (cvar : Halfword) (s : State) : Host.Outcome State Fault Refusal :=
  stageAndSubmit (fun st => { st with cmd := cmdWord 6 tag, cvar := cvar }) s

/-- GUARD (R109). -/
def execGuard (tag : Tag) (cvar carg0 : Halfword) (s : State) : Host.Outcome State Fault Refusal :=
  stageAndSubmit (fun st => { st with cmd := cmdWord 7 tag, cvar := cvar, carg0 := carg0 }) s

/-- NOTICE (R110). -/
def execNotice (tag : Tag) (carg0 carg1 : Halfword) (payload : Value) (s : State) :
    Host.Outcome State Fault Refusal :=
  stageAndSubmit (fun st => { st with cmd := cmdWord 8 tag, carg0 := carg0, carg1 := carg1, stage := payload }) s

/-- FLUSH (R111). -/
def execFlush (tag : Tag) (s : State) : Host.Outcome State Fault Refusal :=
  stageAndSubmit (fun st => { st with cmd := cmdWord 9 tag }) s

/-- JOIN (R112). -/
def execJoin (tag : Tag) (s : State) : Host.Outcome State Fault Refusal :=
  stageAndSubmit (fun st => { st with cmd := cmdWord 10 tag }) s

/-- LEAVE (R113). -/
def execLeave (tag : Tag) (s : State) : Host.Outcome State Fault Refusal :=
  stageAndSubmit (fun st => { st with cmd := cmdWord 11 tag }) s

/-- BAD_CODE_SUBMIT (R96): a staged code of 0 or 12 to 15 is refused by the first check. -/
def execBadCodeSubmit (code : BitVec 4) (tag : Tag) (s : State) : Host.Outcome State Fault Refusal :=
  stageAndSubmit (fun st => { st with cmd := cmdWord code tag }) s

end Sys2Proof.Machine
end

