-- ==== Sys2Proof/Machine/RegisterCommands.lean ====
section
/-!
DEFINITION. The meanings of the other host writes (chapter 11).
-/

namespace Sys2Proof.Machine

/-- CQPOP (R169). -/
def execCqpop (s : State) : Host.Outcome State Fault Refusal := .next (hostWrite popCompletion s)

/-- NQPOP (R162). -/
def execNqpop (s : State) : Host.Outcome State Fault Refusal := .next (hostWrite popNotice s)

/-- SOFTRESET: a write of `word` to CONTROL with SOFTRESET as 1 (R194, R199). -/
def execSoftreset (word : Halfword) (s : State) : Host.Outcome State Fault Refusal :=
  .next (hostWrite (writeControl (word ||| 1#16)) s)

/-- LINKCLEAR: a write of `word` to CONTROL with LINKCLEAR as 1 (R90, R199). -/
def execLinkclear (word : Halfword) (s : State) : Host.Outcome State Fault Refusal :=
  .next (hostWrite (writeControl (word ||| 2#16)) s)

/-- NPAUSE: CONTROL written back with NPAUSE as `on` (R163, R199). -/
def execNpause (on : Bool) (s : State) : Host.Outcome State Fault Refusal :=
  .next (hostWrite (writeControl (controlWith { s.control with npause := on })) s)

/-- CQE: CONTROL written back with CQE as `on` (R175, R199). -/
def execCqe (on : Bool) (s : State) : Host.Outcome State Fault Refusal :=
  .next (hostWrite (writeControl (controlWith { s.control with cqe := on })) s)

/-- NQE: CONTROL written back with NQE as `on` (R175, R199). -/
def execNqe (on : Bool) (s : State) : Host.Outcome State Fault Refusal :=
  .next (hostWrite (writeControl (controlWith { s.control with nqe := on })) s)

/-- ATTE: CONTROL written back with ATTE as `on` (R175, R199). -/
def execAtte (on : Bool) (s : State) : Host.Outcome State Fault Refusal :=
  .next (hostWrite (writeControl (controlWith { s.control with atte := on })) s)

/-- CAUSE_CLEAR (R200). -/
def execCauseClear (word : Halfword) (s : State) : Host.Outcome State Fault Refusal :=
  .next (hostWrite (clearCauses word) s)

/-- COUNTER_CLEAR (R177). -/
def execCounterClear (which : Counter) (s : State) : Host.Outcome State Fault Refusal :=
  .next (hostWrite (zeroCounter which) s)

/-- REGISTER_WRITE: a write to any register of the window (R196, R197; log entry 6). -/
def execRegisterWrite (offset : BitVec 7) (word : Halfword) (s : State) : Host.Outcome State Fault Refusal :=
  .next (hostWrite (writeRegister (registerOffset offset) word) s)

/-- POR (R195). -/
def execPor (s : State) : Host.Outcome State Fault Refusal := .next (assertPor s)

/-- POR_RELEASE (R195). -/
def execPorRelease (straps : NodeId) (s : State) : Host.Outcome State Fault Refusal :=
  .next (releasePor straps s)

end Sys2Proof.Machine
end

