-- ==== Sys2Proof/Machine/LinkEvents.lean ====
section
/-!
DEFINITION. The meanings of the link events. An event that cannot reach this node in the phase its link unit is in
changes nothing: the node takes no part in it (R46, R81; log entry 7).
-/

namespace Sys2Proof.Machine

/-- A link event at a node that is not in POR. -/
def linkEvent (f : State → State) (s : State) : State := if s.por then s else f s

/-! ## Words on a link this node takes no part in -/

/-- A phase or tenure goes on without this node: it follows the lines (R73, R81). -/
def State.follows (s : State) : Bool := s.link.outside != .nothing && s.link.phase == .idle

/-- VALID changes as a word opens, and this node's TAKEN contribution changes with it (R72, R73). -/
def followOpen (s : State) : State :=
  if s.follows && !s.link.wordOpen then s.setLink { s.link with wordOpen := true, valid := !s.link.valid } else s

/-- The word completes; VALID changes now if its opening was not seen before. Where LBUSY fell early the link is idle now,
and a TAKEN contribution that POR froze follows VALID again (R72, R73). -/
def followCompletion (s : State) : State :=
  if s.follows then s.setLink { s.link with
    wordOpen := false
    valid := s.link.valid == s.link.wordOpen
    taken := if s.link.outside = .lost then .follows else s.link.taken }
  else s

/-- A request word with a winner has completed: its tenure follows (R78, R83). -/
def followWin (s : State) : State :=
  if s.follows && s.link.outside == .phase then s.setLink { s.link with outside := .tenure } else s

/-- A request word completes: after an empty one another word opens, none does, or the phase ends (R79). -/
def followRequest (ld : Halfword) (next : AfterEmpty) (s : State) : State :=
  match decide (ld = 0), next with
  | true, .opens => followOpen (followCompletion s)
  | true, .lbusyFalls => if s.follows then releaseTaken .nothing (followCompletion s) else s
  | true, .stalls => followCompletion s
  | false, _ => followWin (followCompletion s)

/-- LBUSY falls early on a link this node takes no part in. Between the words of a phase without a winner the phase ends
(R79). Otherwise the phase or tenure is lost and a clear is to come (R83), but with no word open the link is idle at this
node and its TAKEN contribution follows VALID (R72, R73; log entry 11). -/
def followFall (s : State) : State :=
  if s.follows then
    (if s.link.outside = .phase ∧ s.link.wordOpen = false then releaseTaken .nothing s
     else s.setLink { s.link with
       outside := .lost
       taken := if s.link.wordOpen then s.link.taken else .follows })
  else s

/-- LBUSY observed asserted by a node that takes no part: the phase or tenure goes on outside it, and VALID changes where
a word opens in the same event (R73). -/
def standOutside (wordOpens : Bool) (s : State) : State :=
  let s1 := if s.shutOut then s else releaseTaken .phase s
  if wordOpens then followOpen s1 else s1

/-- An event of a word: `take` at a node that is not in POR, `follow` at one that is. -/
def wordEvent (take follow : State → State) (s : State) : State := if s.por then follow s else take s

/-! ## The events -/

/-- A slot whose LEAVE waits for its final step, once no phase or tenure is in progress here (R192). -/
def State.leaveDue (s : State) : Option SlotIx :=
  if s.inTenure then none
  else (List.finRange 4).find? fun k => s.tracker.slots[k].waiting == some .tenureEnd && s.slotBody k == some .leave

/-- The final step of a LEAVE that waited for it (R192). -/
def takeLeaveFinal (s : State) : State :=
  match s.leaveDue with
  | some k => settle (leaveFinal k s)
  | none => s

/-- A phase opens at an idle link unit: the node is a participant unless it is OFFLINE (R73, R77). -/
def openPhase (wordOpens : Bool) (s : State) : State :=
  if s.participation = .offline then standOutside wordOpens s
  else
    let s1 := s.setLink { s.link with phase := .arbitrate, outside := .nothing, wordOpen := false, taken := .follows }
    if wordOpens || s1.frameReady then openRequestWord s1
    else s1.setLink { s1.link with wait := handshakeWait .firstRequest s1 }

/-- LBUSY observed asserted: on an idle link a phase opens; in a phase whose next word has not opened, it opens now.
No phase opens while LCLR is asserted (R77). -/
def phaseOpens (wordOpens : Bool) (s : State) : State :=
  match s.link.phase with
  | .idle =>
    if s.link.lclr then s
    else if s.shutOut then standOutside wordOpens s
    else openPhase wordOpens (takeLeaveFinal s)
  | .arbitrate => if s.link.wordOpen = false ∧ wordOpens = true then openRequestWord s else s
  | _ => s

/-- ARBITRATION_PHASE_OPEN (R77). -/
def execArbitrationPhaseOpen (wordOpens : Bool) (s : State) : Host.Outcome State Fault Refusal :=
  .next (if s.por then (if s.link.lclr then s else standOutside wordOpens s) else phaseOpens wordOpens s)

/-- A request word completes at a participant of an arbitration phase. -/
def requestCompletes (ld : Halfword) (next : AfterEmpty) (s : State) : State :=
  if s.link.phase = .arbitrate ∧ s.link.wordOpen = true then completeRequest ld next s else followRequest ld next s

/-- REQUEST_WORD (R78). -/
def execRequestWord (ld : Halfword) (next : AfterEmpty) (s : State) : Host.Outcome State Fault Refusal :=
  .next (wordEvent (requestCompletes ld next) (followRequest ld next) s)

/-- This node awaits the header word of the given place, as a participant that is not the requester. -/
def State.awaitsHeader (s : State) (index : Nat) : Bool :=
  s.link.phase == .header && s.link.sender.isNone && !s.link.wordOpen && s.link.wordIndex == index

/-- H0 is taken where it is awaited. -/
def h0Arrives (ld : Halfword) (s : State) : State := if s.awaitsHeader 0 then takeH0 ld s else followOpen s

/-- H0_TAKEN (R49). -/
def execH0Taken (ld : Halfword) (s : State) : Host.Outcome State Fault Refusal :=
  .next (wordEvent (h0Arrives ld) followOpen s)

/-- H1 is taken where it is awaited. -/
def h1Arrives (ld : Halfword) (s : State) : State :=
  match s.awaitsHeader 1, s.link.tenure with
  | true, some t => takeH1 ld t s
  | _, _ => followOpen s

/-- H1_TAKEN (R54). -/
def execH1Taken (ld : Halfword) (s : State) : Host.Outcome State Fault Refusal :=
  .next (wordEvent (h1Arrives ld) followOpen s)

/-- An open header or data word completes. -/
def wordCompletes (ld : Halfword) (s : State) : State :=
  match s.link.wordOpen, s.link.tenure with
  | true, some t => completeWord ld t s
  | _, _ => followCompletion s

/-- WORD_COMPLETE (R74). -/
def execWordComplete (ld : Halfword) (s : State) : Host.Outcome State Fault Refusal :=
  .next (wordEvent (wordCompletes ld) followCompletion s)

/-- The response word opens: a NOTICE's by the table of R153, another kind's as this node observes it (log entry 32). -/
def noticeResponseOpens (s : State) : State :=
  match s.link.tenure with
  | some t =>
    if s.link.phase = .response ∧ s.link.wordOpen = false then
      (if kindOf t.h0 = some .notice then openNoticeResponse t s else seeResponse s)
    else s
  | none => followOpen s

/-- NOTICE_RESPONSE_OPEN (R153). -/
def execNoticeResponseOpen (s : State) : Host.Outcome State Fault Refusal :=
  .next (wordEvent noticeResponseOpens followOpen s)

/-- The response word completes; it cannot while this node withholds its take, nor, for a NOTICE, before its opening is
observed (R74, R76, R87). -/
def responseCompletes (present : NodeMask) (lines : RespLines) (s : State) : State :=
  match s.link.tenure with
  | some t =>
    if s.link.phase = .response ∧ s.holdingOff = false ∧ (s.link.wordOpen = true ∨ kindOf t.h0 ≠ some .notice) then
      completeResponse t present lines s
    else s
  | none => followCompletion s

/-- RESPONSE_WORD (R75). -/
def execResponseWord (present : NodeMask) (lines : RespLines) (s : State) : Host.Outcome State Fault Refusal :=
  .next (wordEvent (responseCompletes present lines) followCompletion s)

/-- A data word is taken where it is awaited. -/
def dataArrives (ld : Halfword) (s : State) : State :=
  match s.link.tenure with
  | some t =>
    if s.link.phase = .data ∧ s.link.wordOpen = false ∧ s.dataSource.isNone = true then takeData t ld s else s
  | none => followOpen s

/-- DATA_WORD (R64). -/
def execDataWord (ld : Halfword) (s : State) : Host.Outcome State Fault Refusal :=
  .next (wordEvent (dataArrives ld) followOpen s)

/-- LBUSY is observed released: a tenure whose last word has completed ends; outside a tenure the link is idle. -/
def lbusyReleased (s : State) : State :=
  match s.link.phase, s.link.tenure with
  | .close, some t => endTenure t s
  | .idle, _ => releaseTaken .nothing s
  | _, _ => s

/-- TENURE_END (R65). -/
def execTenureEnd (s : State) : Host.Outcome State Fault Refusal :=
  .next (if s.por then releaseTaken .nothing s else lbusyReleased s)

/-- LINK_CLEAR (R91): another node's pulse, taken before any cause of this node's own (R93). -/
def execLinkClear (s : State) : Host.Outcome State Fault Refusal :=
  .next (if s.por then hearClear s else abortLink .cleared s)

/-- LCLR is observed released: the link unit returns to IDLE (R81, R90). A release observed while this node's own pulse
has time left ends that pulse early: the event itself says that every assertion is over (DESIGN CHOICE, log entry 3). -/
def clearReleased (s : State) : State :=
  s.setLink { s.link with
    pulse := 0
    lclr := false
    phase := if s.link.phase = .clear then .idle else s.link.phase }

/-- LINK_CLEAR_RELEASE (R90). -/
def execLinkClearRelease (s : State) : Host.Outcome State Fault Refusal :=
  .next (clearReleased s)

/-- LBUSY is observed to fall: between the words of a phase without a winner the phase ends; while a request word is
open, or in a tenure before its last word has completed, the node pulses link clear. A node that drives LBUSY itself
observes no fall (R79, R83, R93); one that takes no part may find the link idle (R72, R73). -/
def lbusyFalls (s : State) : State :=
  match s.link.phase with
  | .arbitrate =>
    if s.frameReady then s
    else if s.link.wordOpen then pulseAndAbort .cleared s
    else phaseEnd s
  | .header => if s.link.sender.isSome then s else pulseAndAbort .cleared s
  | .response => if s.link.sender.isSome then s else pulseAndAbort .cleared s
  | .data => if s.link.sender.isSome then s else pulseAndAbort .cleared s
  | .idle => followFall s
  | .close | .clear => s

/-- EARLY_LBUSY_FALL (R83). -/
def execEarlyLbusyFall (s : State) : Host.Outcome State Fault Refusal := .next (wordEvent lbusyFalls followFall s)

/-- LEAVE_FINAL_STEP (R192). -/
def execLeaveFinalStep (s : State) : Host.Outcome State Fault Refusal := .next (linkEvent takeLeaveFinal s)

end Sys2Proof.Machine
end

