-- ==== Sys2Proof/Machine/TimerEvents.lean ====
section
/-!
DEFINITION. The meanings of the expiries, and the microsecond of the timebase that an idle step runs (R86 to R88, R129,
R140, R141; log entries 2 and 3).
-/

namespace Sys2Proof.Machine

/-! ## The expiries -/

/-- This node's handshake wait expires: it resolves ABORTED, pulses LCLR, and a requester's command ends LINK-TIMEOUT
(R88). -/
def handshakeExpires (s : State) : State :=
  match s.link.wait with
  | some w => if w.kind = .noticeResponse then s else pulseAndAbort .handshakeExpired s
  | none => s

/-- HANDSHAKE_TIMEOUT (R88). -/
def execHandshakeTimeout (s : State) : Host.Outcome State Fault Refusal := .next (linkEvent handshakeExpires s)

/-- This node's NOTICE response wait expires: it pulses LCLR, and a requester's NOTICE ends NOTICE-TIMEOUT (R87,
R88). -/
def noticeWaitExpires (s : State) : State :=
  match s.link.wait with
  | some w => if w.kind = .noticeResponse then pulseAndAbort .noticeExpired s else s
  | none => s

/-- NOTICE_WAIT_EXPIRY (R87). -/
def execNoticeWaitExpiry (s : State) : Host.Outcome State Fault Refusal := .next (linkEvent noticeWaitExpires s)

/-- A hold's timer runs out: HOLD-EXPIRED is posted in its reserved credit, then a waiting FLUSH or LEAVE plans (R141,
R148). -/
def holdExpires (r : HoldIx) (s : State) : State :=
  if (s.holds[r]).isSome then settle (endHold r .holdExpired s) else s

/-- HOLD_EXPIRY (R141). -/
def execHoldExpiry (r : HoldIx) (s : State) : Host.Outcome State Fault Refusal := .next (linkEvent (holdExpires r) s)

/-- A slot's back-off expires and it plans from the current state (R129). -/
def backoffExpires (k : SlotIx) (s : State) : State :=
  if s.tracker.slots[k].phase = .backoff then
    settle (replan k (writeSlot k { s.tracker.slots[k] with backoff := 0 } s))
  else s

/-- BACKOFF_EXPIRY (R129). -/
def execBackoffExpiry (k : SlotIx) (s : State) : Host.Outcome State Fault Refusal :=
  .next (linkEvent (backoffExpires k) s)

/-! ## One microsecond -/

/-- One microsecond of a hold's timer: remaining falls by one at each full 100 µs (R140). -/
def HoldRecord.tick (h : HoldRecord) : HoldRecord :=
  if h.micros + 1 < Config.tickMicros then { h with micros := h.micros + 1 }
  else { h with micros := 0, remaining := h.remaining - 1 }

/-- One microsecond of a slot's back-off (R129). -/
def Slot.tick (x : Slot) : Slot := if x.phase = .backoff then { x with backoff := x.backoff - 1 } else x

/-- Every timer runs one microsecond. -/
def runTimers (s : State) : State :=
  ((s.setHolds (Vector.ofFn fun r : HoldIx => (s.holds[r]).map HoldRecord.tick)).setTracker
    { s.tracker with slots := Vector.ofFn fun k : SlotIx => (s.tracker.slots[k]).tick }).setLink
    { s.link with
      wait := s.link.wait.map fun w => { w with remaining := w.remaining - 1 }
      pulse := s.link.pulse - 1 }

/-- A hold whose time has run out expires (R140). -/
def expireHold (s : State) (r : HoldIx) : State :=
  match s.holds[r] with
  | some h => if h.remaining = 0 then holdExpires r s else s
  | none => s

/-- A back-off whose time has run out expires (R129). -/
def expireBackoff (s : State) (k : SlotIx) : State :=
  if s.tracker.slots[k].backoff = 0 then backoffExpires k s else s

/-- A wait whose time has run out expires (R86, R87). -/
def expireWait (s : State) : State :=
  match s.link.wait with
  | some w => if w.remaining = 0 then noticeWaitExpires (handshakeExpires s) else s
  | none => s

/-- One microsecond of the timebase: every timer runs, then what has run out expires, holds first, then back-offs,
each in rising number, then the link wait. A LEAVE whose final step is due takes it first (R192). -/
def tick (s : State) : State :=
  expireWait ((List.finRange 4).foldl expireBackoff
    ((List.finRange 4).foldl expireHold (runTimers (takeLeaveFinal s))))

/-- The timebase of a node in POR runs nothing. -/
def idleStep (s : State) : State := if s.por then s else tick s

end Sys2Proof.Machine
end

