-- ==== Sys2Proof/Machine/Dispatch.lean ====
section
/-! DEFINITION. One arm per command: its meaning. -/

namespace Sys2Proof.Machine

def exec (i : Instr) (s : State) : Host.Outcome State Fault Refusal :=
  match i with
  | .load tag cvar => Sys2Proof.Machine.execLoad tag cvar s
  | .store tag cvar carg0 payload => Sys2Proof.Machine.execStore tag cvar carg0 payload s
  | .swap tag cvar carg0 carg1 payload => Sys2Proof.Machine.execSwap tag cvar carg0 carg1 payload s
  | .release tag cvar => Sys2Proof.Machine.execRelease tag cvar s
  | .hold tag cvar carg0 => Sys2Proof.Machine.execHold tag cvar carg0 s
  | .unhold tag cvar => Sys2Proof.Machine.execUnhold tag cvar s
  | .guard tag cvar carg0 => Sys2Proof.Machine.execGuard tag cvar carg0 s
  | .notice tag carg0 carg1 payload => Sys2Proof.Machine.execNotice tag carg0 carg1 payload s
  | .flush tag => Sys2Proof.Machine.execFlush tag s
  | .join tag => Sys2Proof.Machine.execJoin tag s
  | .leave tag => Sys2Proof.Machine.execLeave tag s
  | .cqpop => Sys2Proof.Machine.execCqpop s
  | .nqpop => Sys2Proof.Machine.execNqpop s
  | .softreset word => Sys2Proof.Machine.execSoftreset word s
  | .linkclear word => Sys2Proof.Machine.execLinkclear word s
  | .npause on => Sys2Proof.Machine.execNpause on s
  | .cqe on => Sys2Proof.Machine.execCqe on s
  | .nqe on => Sys2Proof.Machine.execNqe on s
  | .atte on => Sys2Proof.Machine.execAtte on s
  | .causeClear word => Sys2Proof.Machine.execCauseClear word s
  | .counterClear which => Sys2Proof.Machine.execCounterClear which s
  | .registerWrite offset word => Sys2Proof.Machine.execRegisterWrite offset word s
  | .por => Sys2Proof.Machine.execPor s
  | .porRelease straps => Sys2Proof.Machine.execPorRelease straps s
  | .arbitrationPhaseOpen wordOpens => Sys2Proof.Machine.execArbitrationPhaseOpen wordOpens s
  | .requestWord ld next => Sys2Proof.Machine.execRequestWord ld next s
  | .h0Taken ld => Sys2Proof.Machine.execH0Taken ld s
  | .h1Taken ld => Sys2Proof.Machine.execH1Taken ld s
  | .wordComplete ld => Sys2Proof.Machine.execWordComplete ld s
  | .noticeResponseOpen => Sys2Proof.Machine.execNoticeResponseOpen s
  | .responseWord present lines => Sys2Proof.Machine.execResponseWord present lines s
  | .dataWord ld => Sys2Proof.Machine.execDataWord ld s
  | .tenureEnd => Sys2Proof.Machine.execTenureEnd s
  | .linkClear => Sys2Proof.Machine.execLinkClear s
  | .linkClearRelease => Sys2Proof.Machine.execLinkClearRelease s
  | .earlyLbusyFall => Sys2Proof.Machine.execEarlyLbusyFall s
  | .handshakeTimeout => Sys2Proof.Machine.execHandshakeTimeout s
  | .noticeWaitExpiry => Sys2Proof.Machine.execNoticeWaitExpiry s
  | .holdExpiry record => Sys2Proof.Machine.execHoldExpiry record s
  | .backoffExpiry slot => Sys2Proof.Machine.execBackoffExpiry slot s
  | .leaveFinalStep => Sys2Proof.Machine.execLeaveFinalStep s
  | .badCodeSubmit code tag => Sys2Proof.Machine.execBadCodeSubmit code tag s

end Sys2Proof.Machine
end

