-- ==== Sys2Proof/Machine/Pins.lean ====
section
/-!
DEFINITION. The levels this node drives on its link lines, read from the state (R72; log entry 10). The TAKEN
contribution is `State.pinTaken` and the interrupt output `State.irq`.
-/

namespace Sys2Proof.Machine

/-- LD15–LD0: a bid, a header word, the present bit or a data word, while the word is open (R72, R74, R75). -/
def State.pinLd (s : State) : Halfword :=
  if s.por || !s.link.wordOpen then 0#16
  else match s.link.phase with
    | .arbitrate => s.bidWord
    | .header =>
      if s.link.sender.isSome then
        (s.link.tenure).elim 0#16 fun t => if s.link.wordIndex = 0 then t.h0 else t.h1.getD 0#16
      else 0#16
    | .response => s.presentBit
    | .data => (s.dataSource).elim 0#16 fun ws => ws.getD s.link.wordIndex 0#16
    | _ => 0#16

/-- This node drives VALID: the openers of a request word, the requester of a header or response word, the sender of a
data word (R72). -/
def State.drivesValid (s : State) : Bool :=
  !s.por && s.link.wordOpen &&
    match s.link.phase with
    | .arbitrate => s.link.opener
    | .header => s.link.sender.isSome
    | .response => s.link.sender.isSome
    | .data => s.dataSource.isSome
    | _ => false

/-- VALID, at the level this node drives, or none where it does not drive it (R72). -/
def State.pinValid (s : State) : Option Bool := if s.drivesValid then some s.link.valid else none

/-- LBUSY: in arbitration a participant with a frame ready, in a tenure the requester until its last word has
completed; on an idle link, LCLR deasserted, a frame ready asks for a phase (R72, R77, R82). -/
def State.pinLbusy (s : State) : Bool :=
  !s.por &&
    match s.link.phase with
    | .idle => s.frameReady && !s.shutOut && s.participation != .offline && !s.link.lclr
    | .arbitrate => s.frameReady
    | .header => s.link.sender.isSome
    | .response => s.link.sender.isSome
    | .data => s.link.sender.isSome
    | .close => false
    | .clear => false

/-- HAVE, MOD, RETRY, HOME, DENY: this node's answers while a response word is open (R57, R72). -/
def State.pinLines (s : State) : RespLines :=
  if s.por || !s.link.wordOpen || s.link.phase != .response then quietLines
  else (s.link.tenure).elim quietLines (·.answers)

/-- LCLR: asserted while this node's pulse runs (R90). -/
def State.pinLclr (s : State) : Bool := !s.por && s.link.pulse != 0

end Sys2Proof.Machine
end

