-- ==== Sys2Proof/Safety.lean ====
section
/-!
DEFINITION. What a safe state and a safe run are: the laws the spec says hold at every moment, in the terms the
statements use, and the resting states the per-command statements start from.
-/

namespace Sys2Proof.Machine

/-! ## The credit law (R170) -/

/-- Active hold records. -/
def State.activeHolds (s : State) : Nat := (List.finRange 4).countP fun r => (s.holds[r]).isSome

/-- Credits of the queued commands. -/
def State.queuedCredits (s : State) : Nat := (s.port.queue.map fun c => c.body.credits).sum

/-- Credits of the commands in slots. -/
def State.slotCredits (s : State) : Nat :=
  ((List.finRange 4).map fun k => (s.tracker.slots[k].command).elim 0 fun c => c.body.credits).sum

/-- Credits over their five places. -/
def State.creditSum (s : State) : Nat :=
  s.completion.free + s.queuedCredits + s.slotCredits + s.completion.queue.length + s.activeHolds

/-- A FREE slot carries no command (R114, R115). -/
def State.freeSlotsEmpty (s : State) : Prop :=
  ∀ k : SlotIx, s.tracker.slots[k].phase = .free → s.tracker.slots[k].command = none

/-- The law of the completion path, with what it needs of the slots to be kept (R170). -/
def State.creditLaw (s : State) : Prop := s.creditSum = Config.credits ∧ s.freeSlotsEmpty

/-! ## Copy table, home store, holds -/

/-- Every rank 0 to 31 is the age of some entry; 32 entries then carry each rank once (R27). -/
def State.agesRanked (s : State) : Prop := ∀ r : Fin 32, ∃ i : EntryIx, s.copy.entries[i].age = r.val

/-- The home store is in its canonical form. -/
abbrev State.homeCanonical (s : State) : Prop := homeWf s.home.records = true

/-- No home record is lent to this node itself (R3). -/
def State.noOwnLoan (s : State) : Prop := ∀ p ∈ s.home.records, p.2.state ≠ .lent s.nodeId

/-- The active hold records name distinct variables (R137). -/
def State.holdsDistinct (s : State) : Prop :=
  ∀ r q : HoldIx, ∀ h g : HoldRecord, s.holds[r] = some h → s.holds[q] = some g → h.var = g.var → r = q

/-- No two entries carry one tag (R23). -/
def State.tagsUnique (s : State) : Prop :=
  ∀ (i j : EntryIx) (v : VarNum), s.copy.entries[i].tag = some v → s.copy.entries[j].tag = some v → i = j

/-- No entry is tagged with a variable homed at this node (R23). -/
def State.tagsForeign (s : State) : Prop :=
  ∀ (i : EntryIx) (v : VarNum), s.copy.entries[i].tag = some v → homeOf v ≠ s.nodeId

/-- A slot holds at most one reservation (R26). -/
def State.oneReservation (s : State) : Prop :=
  ∀ (i j : EntryIx) (k : SlotIx), s.copy.entries[i].reservedBy = some k → s.copy.entries[j].reservedBy = some k → i = j

/-- A reserved entry carries the tag of its slot's variable, homed elsewhere, or is that slot's victim while no entry
carries that tag (R26). -/
def State.reservationsBacked (s : State) : Prop :=
  ∀ (i : EntryIx) (k : SlotIx), s.copy.entries[i].reservedBy = some k →
    ∃ v : VarNum, s.slotVar k = some v ∧ homeOf v ≠ s.nodeId ∧
      (s.copy.entries[i].tag = some v ∨
        (s.tracker.slots[k].victim = some i ∧ ∀ j : EntryIx, s.copy.entries[j].tag ≠ some v))

/-- No two slots carry commands naming one variable (R100). -/
def State.slotVarsDistinct (s : State) : Prop :=
  ∀ (j k : SlotIx) (v : VarNum), s.slotVar j = some v → s.slotVar k = some v → j = k

/-- The laws of the copy table's tags and reservations, with what they need of the slots to be kept (R23, R26). -/
def State.copyLaw (s : State) : Prop :=
  s.tagsUnique ∧ s.tagsForeign ∧ s.oneReservation ∧ s.reservationsBacked ∧ s.slotVarsDistinct ∧ s.freeSlotsEmpty

/-! ## Queues -/

/-- The command queue holds at most 8 records (R99). -/
def State.queueFits (s : State) : Prop := s.port.queue.length ≤ Config.queueCapacity

/-- This node has passed the point of a NOTICE tenure at which it must hold a reservation: it has taken the open
response word, or the outcome has been resolved. -/
def State.pastNoticeTake (s : State) (t : Tenure) : Prop :=
  t.outcome ≠ none ∨ (s.link.phase = .response ∧ s.link.wordOpen = true ∧ s.link.taken ≠ .withheld)

/-- No outcome is resolved during the header; only a NOTICE addresses a node; and an addressed node that has taken the
response word holds a reservation (R151, R153, R154). -/
def State.noticeReserved (s : State) : Prop :=
  ∀ t : Tenure, s.link.tenure = some t →
    (s.link.phase = .header → t.outcome = none) ∧
    (t.addressed = true → kindOf t.h0 = some .notice ∧ (s.pastNoticeTake t → s.notices.reserved = true))

/-- Records and reservation fit the inbound queue of 16 (R150), with what is needed to keep it so. -/
def State.noticeRoom (s : State) : Prop :=
  s.notices.inbound.length + (if s.notices.reserved then 1 else 0) ≤ Config.inboundCapacity
    ∧ s.noticeReserved ∧ (s.por = true → s.link.tenure = none)

/-! ## Safety -/

/-- A safe state: the laws above hold together. -/
def State.safe (s : State) : Prop :=
  s.creditLaw ∧ s.agesRanked ∧ s.homeCanonical ∧ s.noOwnLoan ∧ s.holdsDistinct ∧ s.copyLaw ∧ s.queueFits ∧ s.noticeRoom

/-- A run of `n` steps from `s` that never stops and stays safe. -/
def safeRun : Nat → State → Prop
  | 0, s => s.safe
  | n + 1, s => s.safe ∧ ∃ t, step s = .next t ∧ safeRun n t

/-! ## Resting states and the shapes of what follows from them -/

/-- No command is queued or in a slot, no entry is reserved, and POR is not asserted. -/
abbrev State.atRest (s : State) : Prop :=
  s.por = false ∧ s.port.queue = [] ∧ (∀ k : SlotIx, s.tracker.slots[k] = Slot.idle)
    ∧ ∀ i : EntryIx, s.copy.entries[i].reservedBy = none

/-- A resting node that is ONLINE with a free credit: the next command is admitted and starts in slot 0. -/
abbrev State.ready (s : State) : Prop := s.atRest ∧ s.participation = .online ∧ 1 ≤ s.completion.free

/-- The one busy slot is `k`, whose command `c` has its tenure on the link; it alone may hold a reservation. -/
abbrev State.sendingAlone (s : State) (k : SlotIx) (c : Command) : Prop :=
  s.por = false ∧ s.port.queue = [] ∧ (∀ j : SlotIx, j ≠ k → s.tracker.slots[j] = Slot.idle)
    ∧ s.tracker.slots[k].phase = .link ∧ s.tracker.slots[k].command = some c ∧ s.link.sender = some k
    ∧ ∀ i : EntryIx, s.copy.entries[i].reservedBy = none ∨ s.copy.entries[i].reservedBy = some k

/-- Slot 0 is FREE, no other slot is to plan or carries a barrier, and nothing is queued, at an ONLINE node with a free
credit: the next command is admitted and starts in slot 0, provided no busy slot names its variable. -/
abbrev State.slotZeroOpen (s : State) : Prop :=
  s.por = false ∧ s.participation = .online ∧ 1 ≤ s.completion.free ∧ s.port.queue = []
    ∧ s.tracker.slots[(0 : SlotIx)] = Slot.idle
    ∧ (∀ j : SlotIx, s.tracker.slots[j].phase ≠ .plan ∧ (s.slotBody j).all (fun b => !b.isBarrier) = true)
    ∧ ∀ i : EntryIx, s.copy.entries[i].reservedBy ≠ some 0

/-- The one busy slot is `k`, its command `c` in SEND, or in PLAN waiting on binding, while another node's tenure is on the
link; it alone may hold a reservation. -/
abbrev State.planningAlone (s : State) (k : SlotIx) (c : Command) : Prop :=
  s.por = false ∧ s.port.queue = [] ∧ (∀ j : SlotIx, j ≠ k → s.tracker.slots[j] = Slot.idle)
    ∧ s.tracker.slots[k].command = some c ∧ s.link.sender = none
    ∧ (s.tracker.slots[k].phase = .send
        ∨ (s.tracker.slots[k].phase = .plan ∧ s.tracker.slots[k].waiting = some .binding))
    ∧ ∀ i : EntryIx, s.copy.entries[i].reservedBy = none ∨ s.copy.entries[i].reservedBy = some k

/-- The kind of tenure that fetches for a command: READ for a LOAD, OWN for the others (R119). -/
abbrev fetchFor (c : Command) : Kind := if c.body.code = .load then .read else .own

/-- The codes of commands that need an entry of a variable homed elsewhere (R119). -/
abbrev Code.needsEntry (c : Code) : Prop := c = .load ∨ c = .store ∨ c = .swap ∨ c = .hold

/-- The staged registers, the submit accepted, and the completion unit as given. -/
def State.submitted (s : State) (staging : Staging) (free : Nat) (queue : List Completion) : State :=
  (s.setPort ⟨staging, .accepted, [], s.port.nextSeq + 1⟩).setCompletion
    { s.completion with free := free, queue := queue }

/-- A command staged as `staging`, accepted, and finished with one record in its own credit. -/
def State.finished (s : State) (staging : Staging) (c : Completion) : State :=
  s.submitted staging (s.completion.free - 1) (s.completion.queue ++ [c])

/-- A command staged as `staging`, accepted and started, slot 0 then standing as `x`. -/
def State.started (s : State) (staging : Staging) (b : Body) (x : Slot) : State :=
  (s.submitted staging (s.completion.free - b.credits) s.completion.queue).setTracker
    { s.tracker with slots := s.tracker.slots.set 0 x }

/-- Slot 0 in SEND with a frame, for the command submitted with `tag`. -/
def State.sendSlot (s : State) (tag : Tag) (b : Body) (f : Frame) (entry : Option EntryIx) : Slot :=
  { Slot.idle with phase := .send, command := some ⟨tag, s.port.nextSeq, b⟩, frame := some f, entry := entry }

/-- Slot 0 in PLAN, waiting, for the command submitted with `tag`. -/
def State.waitSlot (s : State) (tag : Tag) (b : Body) (w : Waiting) : Slot :=
  { Slot.idle with phase := .plan, command := some ⟨tag, s.port.nextSeq, b⟩, waiting := some w }

/-- The variable a CVAR operand names (R95). -/
def operandVar (cvar : Halfword) : VarNum := cvar.extractLsb' 0 12

/-- Bits 7 to 0 of an operand (R95). -/
def operandByte (carg : Halfword) : BitVec 8 := carg.extractLsb' 0 8

/-- The level numbers of GUARD (R109). -/
def Guard.number : Guard → BitVec 2
  | .openAccess => 0
  | .homeOnly => 1
  | .privateAccess => 2

/-! ## The checks of a submit, on the staged registers (R96) -/

/-- The staged code, as a number. -/
def State.stagedNumber (s : State) : Nat := (s.port.staging.cmd.extractLsb' 8 4).toNat

/-- Step 1 fails. -/
abbrev State.codeFails (s : State) : Prop := s.stagedNumber = 0 ∨ 11 < s.stagedNumber

/-- Step 2 fails. -/
abbrev State.argFails (s : State) : Prop :=
  (s.stagedNumber = 2 ∧ operandByte s.port.staging.carg0 = 0)
    ∨ (s.stagedNumber = 5 ∧ operandByte s.port.staging.carg0 = 0)
    ∨ (s.stagedNumber = 7 ∧ (s.port.staging.cvar.extractLsb' 8 4 ≠ s.nodeId
        ∨ s.port.staging.carg0.extractLsb' 0 2 = 3#2))
    ∨ (s.stagedNumber = 8 ∧ (s.port.staging.carg0 = 0 ∨ s.port.staging.carg0.getLsbD s.nodeId.toNat = true
        ∨ s.port.staging.carg1.extractLsb' 0 4 = 0#4 ∨ 8 < (s.port.staging.carg1.extractLsb' 0 4).toNat))

/-- Step 3 fails. -/
abbrev State.stateFails (s : State) : Prop :=
  (s.stagedNumber = 10 ∧ s.participation ≠ .offline)
    ∨ (s.stagedNumber ≠ 10 ∧ (s.participation = .offline ∨ s.participation = .joining))
    ∨ (s.stagedNumber ≠ 6 ∧ s.participation = .draining)

/-- Step 4 fails. -/
abbrev State.roomFails (s : State) : Prop :=
  8 ≤ s.port.queue.length ∨ s.completion.free < (if s.stagedNumber = 5 then 2 else 1)

end Sys2Proof.Machine
end

