-- ==== Sys2Proof/WellFormed.lean ====
section
/-!
DEFINITION. Which commands are well formed. All ranges but two are carried by the operands' types.
-/

namespace Sys2Proof

/-- A register offset lies on a halfword boundary (00_scope.md, "Bit numbering"). -/
def offsetAligned (offset : BitVec 7) : Bool := !offset.getLsbD 0

/-- The codes of BAD_CODE_SUBMIT are 0 and 12 to 15 (R96 step 1). -/
def codeIsBad (code : BitVec 4) : Bool := code == 0#4 || 12 ≤ code.toNat

/-- A well-formed command. -/
def Instr.wellFormed : Instr → Bool
  | .load _ _ => true
  | .store _ _ _ _ => true
  | .swap _ _ _ _ _ => true
  | .release _ _ => true
  | .hold _ _ _ => true
  | .unhold _ _ => true
  | .guard _ _ _ => true
  | .notice _ _ _ _ => true
  | .flush _ => true
  | .join _ => true
  | .leave _ => true
  | .cqpop => true
  | .nqpop => true
  | .softreset _ => true
  | .linkclear _ => true
  | .npause _ => true
  | .cqe _ => true
  | .nqe _ => true
  | .atte _ => true
  | .causeClear _ => true
  | .counterClear _ => true
  | .registerWrite offset _ => offsetAligned offset
  | .por => true
  | .porRelease _ => true
  | .arbitrationPhaseOpen _ => true
  | .requestWord _ _ => true
  | .h0Taken _ => true
  | .h1Taken _ => true
  | .wordComplete _ => true
  | .noticeResponseOpen => true
  | .responseWord _ _ => true
  | .dataWord _ => true
  | .tenureEnd => true
  | .linkClear => true
  | .linkClearRelease => true
  | .earlyLbusyFall => true
  | .handshakeTimeout => true
  | .noticeWaitExpiry => true
  | .holdExpiry _ => true
  | .backoffExpiry _ => true
  | .leaveFinalStep => true
  | .badCodeSubmit code _ => codeIsBad code

end Sys2Proof
end

