-- ==== Sys2Proof/Certificates/Slice0/Obligations.lean ====
section
/-!
DEFINITION. The statements put to the provers. Each docstring names the rules of spec/ it formalises.
-/

open Sys2Proof Sys2Proof.Machine

/-! ## One step -/

/-- The command at the front of the queue runs, with the queue's rest left in the state. -/
def Obligations.StepRunsFrontCommand : Prop :=
  ∀ (s : State) (c : Instr) (rest : List Instr), s.pending = c :: rest → step s = exec c (s.setPending rest)

/-- On an empty queue one microsecond passes (the model's choice, log entry 2). A lone hold's timer runs as R140 gives, and
expires as R141 gives at the end of its last tick; with nothing timed the state stays. A link wait and this node's LCLR
pulse run down (R86, R87, R90), and the wait expires as HANDSHAKE_TIMEOUT or NOTICE_WAIT_EXPIRY would (R88); a lone
back-off runs down and expires as BACKOFF_EXPIRY would (R129). -/
def Obligations.IdleStepRunsTimebase : Prop :=
  (∀ s : State, s.pending = [] → s.atRest → s.link.wait = none → s.link.pulse = 0 →
    ((∀ r : HoldIx, s.holds[r] = none) → step s = .next s) ∧
    ∀ (r : HoldIx) (h : HoldRecord), s.holds[r] = some h → (∀ q : HoldIx, q ≠ r → s.holds[q] = none) →
      (h.micros + 1 < 100 → 1 ≤ h.remaining →
        step s = .next (s.setHolds (s.holds.set r (some { h with micros := h.micros + 1 })))) ∧
      (h.micros = 99 → 2 ≤ h.remaining →
        step s = .next (s.setHolds (s.holds.set r (some { h with micros := 0, remaining := h.remaining - 1 })))) ∧
      (h.micros = 99 → h.remaining = 1 →
        step s = .next ((s.setHolds (s.holds.set r none)).setCompletion
          { s.completion with queue := s.completion.queue ++ [⟨h.tag, .hold, .var h.var, .holdExpired, 0, none, none⟩] }))) ∧
  (∀ s : State, s.pending = [] → s.atRest → (∀ r : HoldIx, s.holds[r] = none) →
    (s.link.wait = none → step s = .next (s.setLink { s.link with pulse := s.link.pulse - 1 })) ∧
    ∀ w : Wait, s.link.wait = some w →
      let run := s.setLink { s.link with
        wait := some { w with remaining := w.remaining - 1 }
        pulse := s.link.pulse - 1 }
      (2 ≤ w.remaining → step s = .next run) ∧
      (w.remaining = 1 → w.kind ≠ .noticeResponse → step s = exec .handshakeTimeout run) ∧
      (w.remaining = 1 → w.kind = .noticeResponse → step s = exec .noticeWaitExpiry run)) ∧
  ∀ (s : State) (k : SlotIx), s.pending = [] → s.por = false → s.link.wait = none → s.link.pulse = 0 →
    (∀ r : HoldIx, s.holds[r] = none) → (∀ j : SlotIx, j ≠ k → s.tracker.slots[j] = Slot.idle) →
    s.tracker.slots[k].phase = .backoff → s.tracker.slots[k].waiting = none →
    let run := s.setTracker { s.tracker with
      slots := s.tracker.slots.set k { s.tracker.slots[k] with backoff := s.tracker.slots[k].backoff - 1 } }
    (2 ≤ s.tracker.slots[k].backoff → step s = .next run) ∧
    (s.tracker.slots[k].backoff = 1 → step s = exec (.backoffExpiry k) run)

/-! ## The command port -/

/-- Each submit row stages the registers its code reads and is one submit (R95); a bad code is refused at once, with
nothing changed but the staged CMD and the result (R96). What the host staged before stays in the registers the code
does not read, and CMD bits 15 to 12 are staged as 0: the model's choice (log entry 4). -/
def Obligations.SubmitRowsStageAndSubmit : Prop :=
  ∀ (s : State) (tag : Tag) (cvar carg0 carg1 : Halfword) (payload : Value), s.por = false →
    let g := s.port.staging
    let put := fun x : Staging => submit (s.setPort { s.port with staging := x })
    exec (.load tag cvar) s = .next (put { g with cmd := cmdWord 1 tag, cvar := cvar }) ∧
    exec (.store tag cvar carg0 payload) s =
      .next (put { g with cmd := cmdWord 2 tag, cvar := cvar, carg0 := carg0, stage := payload }) ∧
    exec (.swap tag cvar carg0 carg1 payload) s = .next (put ⟨cmdWord 3 tag, cvar, carg0, carg1, payload⟩) ∧
    exec (.release tag cvar) s = .next (put { g with cmd := cmdWord 4 tag, cvar := cvar }) ∧
    exec (.hold tag cvar carg0) s = .next (put { g with cmd := cmdWord 5 tag, cvar := cvar, carg0 := carg0 }) ∧
    exec (.unhold tag cvar) s = .next (put { g with cmd := cmdWord 6 tag, cvar := cvar }) ∧
    exec (.guard tag cvar carg0) s = .next (put { g with cmd := cmdWord 7 tag, cvar := cvar, carg0 := carg0 }) ∧
    exec (.notice tag carg0 carg1 payload) s =
      .next (put { g with cmd := cmdWord 8 tag, carg0 := carg0, carg1 := carg1, stage := payload }) ∧
    exec (.flush tag) s = .next (put { g with cmd := cmdWord 9 tag }) ∧
    exec (.join tag) s = .next (put { g with cmd := cmdWord 10 tag }) ∧
    exec (.leave tag) s = .next (put { g with cmd := cmdWord 11 tag }) ∧
    ∀ code : BitVec 4, codeIsBad code = true →
      exec (.badCodeSubmit code tag) s =
        .next (s.setPort { s.port with staging := { g with cmd := 0#4 ++ code ++ tag }, result := .badCode })

/-- The four checks in their order: the first that fails decides the result and nothing else changes (R96). With none failing
the command is admitted: SUBMIT reads ACCEPTED, its credits leave the free count and its record joins the queue's tail,
where it stays if no slot is FREE or no queued record may start (R97 to R99). A record may start by the three conditions of
R100; the lowest FREE slot takes the earliest that may, which leaves the queue from where it stands (R99, R101, R102). A
slot that a DENIED end frees takes a NOTICE queued behind its command in the same event, and what waits for that NOTICE stays
queued (R101, R132). That admission order is carried by a number (`seq`, `nextSeq`) is the model's choice (log entry 13). -/
def Obligations.SubmitChecksInOrder : Prop :=
  let barrier := fun c : Command => c.body.code == .flush || c.body.code == .join || c.body.code == .leave
  let mayStart := fun (s : State) (i : Nat) (c : Command) =>
    let earlier := s.port.queue.take i
    let busy := fun p : Command → Bool => (List.finRange 4).any fun k => (s.tracker.slots[k].command).any p
    let names := fun d : Command => c.body.var?.isSome && d.body.var? == c.body.var?
    !(earlier.any names || busy names) &&
    (c.body.code == .unhold || !(earlier.any barrier || busy barrier)) &&
    (!(c.body.code == .notice || barrier c) || (earlier.isEmpty && !busy fun d => decide (d.seq < c.seq)))
  let noneBefore := fun (s : State) (n : Nat) =>
    (List.range n).all fun i => (s.port.queue[i]?).all fun c => !mayStart s i c
  (∀ s : State,
    (s.codeFails → submit s = s.setPort { s.port with result := .badCode }) ∧
    (¬ s.codeFails → s.argFails → submit s = s.setPort { s.port with result := .badArg }) ∧
    (¬ s.codeFails → ¬ s.argFails → s.stateFails → submit s = s.setPort { s.port with result := .wrongState }) ∧
    (¬ s.codeFails → ¬ s.argFails → ¬ s.stateFails → s.roomFails →
      submit s = s.setPort { s.port with result := .full }) ∧
    (¬ s.codeFails → ¬ s.argFails → ¬ s.stateFails → ¬ s.roomFails →
      (submit s).port.result = .accepted ∧ (submit s).port.nextSeq = s.port.nextSeq + 1
        ∧ (submit s).port.staging = s.port.staging ∧
      let g := s.port.staging
      let v := operandVar g.cvar
      let b : Body := match s.stagedNumber with
        | 1 => .load v
        | 2 => .store v (operandByte g.carg0) g.stage
        | 3 => .swap v (g.carg1 ++ g.carg0) g.stage
        | 4 => .release v
        | 5 => .hold v (operandByte g.carg0)
        | 6 => .unhold v
        | 7 => .guard v (match (g.carg0.extractLsb' 0 2).toNat with
          | 0 => .openAccess
          | 1 => .homeOnly
          | _ => .privateAccess)
        | 8 => .notice g.carg0 (g.stage.toList.take (g.carg1.extractLsb' 0 4).toNat)
        | 9 => .flush
        | 10 => .join
        | _ => .leave
      let q := (s.setCompletion
        { s.completion with free := s.completion.free - (if s.stagedNumber = 5 then 2 else 1) }).setPort
        { s.port with
          result := .accepted
          queue := s.port.queue ++ [⟨g.cmd.extractLsb' 0 8, s.port.nextSeq, b⟩]
          nextSeq := s.port.nextSeq + 1 }
      (∀ k : SlotIx, s.tracker.slots[k].phase ≠ .plan) →
        (∀ k : SlotIx, s.tracker.slots[k].phase ≠ .free) ∨ noneBefore q q.port.queue.length = true →
        submit s = q)) ∧
  (∀ s : State, (∀ k : SlotIx, s.tracker.slots[k].phase ≠ .free) ∨ noneBefore s s.port.queue.length = true →
    startNext s = none) ∧
  (∀ (s : State) (k : SlotIx) (i : Nat) (c : Command), s.port.queue[i]? = some c → s.tracker.slots[k].phase = .free →
    (∀ j : SlotIx, j < k → s.tracker.slots[j].phase ≠ .free) → mayStart s i c = true → noneBefore s i = true →
    ∃ t, startNext s = some t ∧ t.port = { s.port with queue := s.port.queue.eraseIdx i } ∧
      t.tracker = { s.tracker with
        slots := s.tracker.slots.set k { Slot.idle with phase := .plan, command := some c } } ∧
      t.participation = (match c.body.code with
        | .join => .joining
        | .leave => .draining
        | _ => s.participation) ∧
      t.link = (if c.body.code = .join then { s.link with inhibit := false } else s.link) ∧
      t.home = s.home ∧ t.copy = s.copy ∧ t.holds = s.holds ∧ t.completion = s.completion ∧ t.notices = s.notices) ∧
  ∀ (s : State) (k : SlotIx) (c d : Command) (rest : List Command) (mask : NodeMask) (words : List Halfword) (tn : Tenure),
    s.port.queue = d :: rest → d.body = .notice mask words → s.por = false → s.link.phase = .close →
    s.link.sender = some k → s.link.tenure = some tn → tn.outcome = some .denied → s.tracker.slots[k].phase = .link →
    s.tracker.slots[k].command = some c → c.body.code ≠ .join → c.body.code ≠ .leave →
    (∀ j : SlotIx, j ≠ k → s.tracker.slots[j] = Slot.idle) →
    (rest.all fun e => (e.body.code == .notice || barrier e) && decide (d.seq < e.seq)) = true →
    ∃ t, exec .tenureEnd s = .next t ∧ t.port = { s.port with queue := rest } ∧
      t.completion.queue = s.completion.queue ++
        [⟨c.tag, c.body.code, c.body.subject, .denied, s.tracker.slots[k].tenures, none, none⟩] ∧
      ∀ j : SlotIx, t.tracker.slots[j] = if j = 0 then
        { Slot.idle with phase := .send, command := some d, frame := some ⟨.notice, mask, words⟩ } else Slot.idle

/-! ## Commands on this node's own variables -/

/-- LOAD, STORE and SWAP as local actions on an own record that is not bound (R20, R103 to R105, R118). -/
def Obligations.HomeDataLocal : Prop :=
  ∀ (s : State) (tag : Tag) (cvar carg0 carg1 : Halfword) (payload : Value),
    let v := operandVar cvar
    let g := s.port.staging
    let r := s.record v
    s.ready → homeOf v = s.nodeId → s.boundVar ≠ some v →
    (r.state = .quiet ∨ r.state = .shared →
      exec (.load tag cvar) s = .next
        (s.finished { g with cmd := cmdWord 1 tag, cvar := cvar } ⟨tag, .load, .var v, .ok, 0, some r.value, none⟩)) ∧
    (r.state = .quiet → operandByte carg0 ≠ 0 →
      exec (.store tag cvar carg0 payload) s = .next (writeRecord v
        { r with value := Vector.ofFn fun i => if (operandByte carg0).getLsbD i.val then payload[i] else r.value[i] }
        (s.finished { g with cmd := cmdWord 2 tag, cvar := cvar, carg0 := carg0, stage := payload }
          ⟨tag, .store, .var v, .ok, 0, none, none⟩))) ∧
    (r.state = .quiet → (r.value[0] = carg0 ∧ r.value[1] = carg1) →
      exec (.swap tag cvar carg0 carg1 payload) s = .next (writeRecord v { r with value := payload }
        (s.finished ⟨cmdWord 3 tag, cvar, carg0, carg1, payload⟩ ⟨tag, .swap, .var v, .ok, 0, none, none⟩))) ∧
    (r.state = .quiet → ¬ (r.value[0] = carg0 ∧ r.value[1] = carg1) →
      exec (.swap tag cvar carg0 carg1 payload) s = .next
        (s.finished ⟨cmdWord 3 tag, cvar, carg0, carg1, payload⟩
          ⟨tag, .swap, .var v, .mismatch, 0, some r.value, none⟩))

/-- LOAD, STORE, SWAP and HOLD on an own record whose state does not allow them plan the tenure that R20 and R118
give: READ for a LOAD on LENT, PURGE on SHARED and OWN on LENT for the others. -/
def Obligations.HomeRecallPlans : Prop :=
  ∀ (s : State) (tag : Tag) (cvar carg0 carg1 : Halfword) (payload : Value) (kind : Kind),
    let v := operandVar cvar
    let g := s.port.staging
    s.ready → homeOf v = s.nodeId → s.boundVar ≠ some v →
    ((s.record v).state.isLent = true →
      exec (.load tag cvar) s = .next (s.started { g with cmd := cmdWord 1 tag, cvar := cvar } (.load v)
        (s.sendSlot tag (.load v) ⟨.read, v.setWidth 16, []⟩ none))) ∧
    (((s.record v).state = .shared ∧ kind = .purge) ∨ ((s.record v).state.isLent = true ∧ kind = .own) →
      (operandByte carg0 ≠ 0 →
        exec (.store tag cvar carg0 payload) s = .next
          (s.started { g with cmd := cmdWord 2 tag, cvar := cvar, carg0 := carg0, stage := payload }
            (.store v (operandByte carg0) payload)
            (s.sendSlot tag (.store v (operandByte carg0) payload) ⟨kind, v.setWidth 16, []⟩ none))) ∧
      exec (.swap tag cvar carg0 carg1 payload) s = .next
        (s.started ⟨cmdWord 3 tag, cvar, carg0, carg1, payload⟩ (.swap v (carg1 ++ carg0) payload)
          (s.sendSlot tag (.swap v (carg1 ++ carg0) payload) ⟨kind, v.setWidth 16, []⟩ none)) ∧
      (operandByte carg0 ≠ 0 → 2 ≤ s.completion.free →
        exec (.hold tag cvar carg0) s = .next
          (s.started { g with cmd := cmdWord 5 tag, cvar := cvar, carg0 := carg0 } (.hold v (operandByte carg0))
            (s.sendSlot tag (.hold v (operandByte carg0)) ⟨kind, v.setWidth 16, []⟩ none))))

/-- HOLD on an own QUIET record that is not bound: HELD, HOLD-FULL, or the lowest free record made active; the record
keeps its state, and the second credit stays with the hold only on OK (R139, R107). -/
def Obligations.HomeHoldLocal : Prop :=
  ∀ (s : State) (tag : Tag) (cvar carg0 : Halfword),
    let v := operandVar cvar
    let d := operandByte carg0
    let g : Staging := { s.port.staging with cmd := cmdWord 5 tag, cvar := cvar, carg0 := carg0 }
    let done := fun st : Status => (⟨tag, .hold, .var v, st, 0, none, none⟩ : Completion)
    s.ready → 2 ≤ s.completion.free → homeOf v = s.nodeId → s.boundVar ≠ some v → (s.record v).state = .quiet → d ≠ 0 →
    (s.held v = true → exec (.hold tag cvar carg0) s = .next (s.finished g (done .held))) ∧
    (s.held v = false → s.freeHold = none → exec (.hold tag cvar carg0) s = .next (s.finished g (done .holdFull))) ∧
    ∀ r : HoldIx, s.held v = false → s.freeHold = some r →
      exec (.hold tag cvar carg0) s = .next
        ((s.submitted g (s.completion.free - 2) (s.completion.queue ++ [done .ok])).setHolds
          (s.holds.set r (some ⟨v, tag, d.toNat, 0⟩)))

/-- GUARD: the level is set at once where the table of R21 says so; otherwise the slot plans the OWN or PURGE it
names. -/
def Obligations.GuardPlans : Prop :=
  ∀ (s : State) (tag : Tag) (cvar carg0 : Halfword) (level : Guard),
    let v := operandVar cvar
    let g : Staging := { s.port.staging with cmd := cmdWord 7 tag, cvar := cvar, carg0 := carg0 }
    let send := fun kind : Kind => s.started g (.guard v level) (s.sendSlot tag (.guard v level) ⟨kind, v.setWidth 16, []⟩ none)
    s.ready → homeOf v = s.nodeId → s.boundVar ≠ some v → carg0.extractLsb' 0 2 = level.number →
    ((s.record v).state = .quiet ∨ level = .openAccess ∨ ((s.record v).state = .shared ∧ level = .homeOnly) →
      exec (.guard tag cvar carg0) s = .next (writeRecord v { s.record v with guard := level }
        (s.finished g ⟨tag, .guard, .var v, .ok, 0, none, none⟩))) ∧
    ((s.record v).state = .shared → level = .privateAccess → exec (.guard tag cvar carg0) s = .next (send .purge)) ∧
    ((s.record v).state.isLent = true → level ≠ .openAccess → exec (.guard tag cvar carg0) s = .next (send .own))

/-- RELEASE, row by row of R106, of a variable that is not bound. -/
def Obligations.ReleasePlans : Prop :=
  ∀ (s : State) (tag : Tag) (cvar : Halfword),
    let v := operandVar cvar
    let g : Staging := { s.port.staging with cmd := cmdWord 4 tag, cvar := cvar }
    let done := fun st : Status => (⟨tag, .release, .var v, st, 0, none, none⟩ : Completion)
    s.ready → s.boundVar ≠ some v →
    (s.held v = true → exec (.release tag cvar) s = .next (s.finished g (done .held))) ∧
    (s.held v = false → homeOf v = s.nodeId → exec (.release tag cvar) s = .next (s.finished g (done .ok))) ∧
    (s.held v = false → homeOf v ≠ s.nodeId → s.entryOf v = none →
      exec (.release tag cvar) s = .next (s.finished g (done .ok))) ∧
    ∀ i : EntryIx, s.held v = false → homeOf v ≠ s.nodeId → s.entryOf v = some i →
      (s.copy.entries[i].state = .copy →
        exec (.release tag cvar) s = .next
          (writeEntry i { s.copy.entries[i] with state := .none, tag := none } (s.finished g (done .ok)))) ∧
      (s.copy.entries[i].state = .owned →
        exec (.release tag cvar) s = .next
          (s.started g (.release v) (s.sendSlot tag (.release v) ⟨.giveBack, v.setWidth 16, []⟩ (some i)))) ∧
      (s.copy.entries[i].state = .dirty →
        exec (.release tag cvar) s = .next
          (s.started g (.release v) (s.sendSlot tag (.release v) ⟨.writeback, v.setWidth 16, []⟩ (some i))))

/-- UNHOLD, bound or not: the record is removed and its credit freed, or LATE (R108, R142). A FLUSH or LEAVE that waited
for that hold alone, outside a tenure, ends in the same event, and the record of the lower slot is posted first: the
barrier's before the UNHOLD's where it stands in slot 0, after it in any other slot (R148, R190, R192, R132, R167). -/
def Obligations.UnholdEndsHold : Prop :=
  (∀ (s : State) (tag : Tag) (cvar : Halfword),
    let v := operandVar cvar
    let g : Staging := { s.port.staging with cmd := cmdWord 6 tag, cvar := cvar }
    let done := fun st : Status => (⟨tag, .unhold, .var v, st, 0, none, none⟩ : Completion)
    s.ready →
    (∀ r : HoldIx, s.holdOf v = some r →
      exec (.unhold tag cvar) s = .next
        ((s.submitted g s.completion.free (s.completion.queue ++ [done .ok])).setHolds (s.holds.set r none))) ∧
    (s.held v = false → exec (.unhold tag cvar) s = .next (s.finished g (done .late)))) ∧
  ∀ (s : State) (tag : Tag) (cvar : Halfword) (k : SlotIx) (c : Command) (r : HoldIx),
    let v := operandVar cvar
    let g : Staging := { s.port.staging with cmd := cmdWord 6 tag, cvar := cvar }
    let x := s.tracker.slots[k]
    s.por = false → s.participation = .online ∨ s.participation = .draining → s.inTenure = false →
    1 ≤ s.completion.free → s.port.queue = [] → (∀ j : SlotIx, j ≠ k → s.tracker.slots[j] = Slot.idle) →
    x.phase = .plan → x.waiting = some .holds → x.command = some c → c.body = .flush ∨ c.body = .leave →
    (∀ i : EntryIx, s.copy.entries[i].state = .none ∧ s.copy.entries[i].reservedBy = none) →
    s.holdOf v = some r → (∀ q : HoldIx, q ≠ r → s.holds[q] = none) →
    let unhold : Completion := ⟨tag, .unhold, .var v, .ok, 0, none, none⟩
    let barrier : Completion := ⟨c.tag, c.body.code, .absent, .ok, x.tenures, none, none⟩
    exec (.unhold tag cvar) s = .next
      ((((s.submitted g s.completion.free
        (s.completion.queue ++ if k = 0 then [barrier, unhold] else [unhold, barrier])).setHolds
          (s.holds.set r none)).setTracker { s.tracker with slots := s.tracker.slots.set k Slot.idle }).setParticipation
            (if c.body = .leave then .offline else s.participation))

/-! ## Commands on variables homed elsewhere -/

/-- Local hits of LOAD, STORE and SWAP (R39, R35), each promoting the entry (R27). -/
def Obligations.CopyHits : Prop :=
  ∀ (s : State) (tag : Tag) (cvar carg0 carg1 : Halfword) (payload : Value) (i : EntryIx),
    let v := operandVar cvar
    let g := s.port.staging
    let e := s.copy.entries[i]
    s.ready → homeOf v ≠ s.nodeId → s.boundVar ≠ some v → s.entryOf v = some i →
    (e.state ≠ .none →
      exec (.load tag cvar) s = .next (promote i (s.finished { g with cmd := cmdWord 1 tag, cvar := cvar }
        ⟨tag, .load, .var v, .ok, 0, some e.value, none⟩))) ∧
    (e.state = .owned ∨ e.state = .dirty → operandByte carg0 ≠ 0 →
      exec (.store tag cvar carg0 payload) s = .next (promote i (writeEntry i
        { e with
          state := .dirty
          value := Vector.ofFn fun j => if (operandByte carg0).getLsbD j.val then payload[j] else e.value[j] }
        (s.finished { g with cmd := cmdWord 2 tag, cvar := cvar, carg0 := carg0, stage := payload }
          ⟨tag, .store, .var v, .ok, 0, none, none⟩)))) ∧
    (e.state = .owned ∨ e.state = .dirty → (e.value[0] = carg0 ∧ e.value[1] = carg1) →
      exec (.swap tag cvar carg0 carg1 payload) s = .next (promote i
        (writeEntry i { e with state := .dirty, value := payload }
          (s.finished ⟨cmdWord 3 tag, cvar, carg0, carg1, payload⟩ ⟨tag, .swap, .var v, .ok, 0, none, none⟩)))) ∧
    (e.state = .owned ∨ e.state = .dirty → ¬ (e.value[0] = carg0 ∧ e.value[1] = carg1) →
      exec (.swap tag cvar carg0 carg1 payload) s = .next (promote i
        (s.finished ⟨cmdWord 3 tag, cvar, carg0, carg1, payload⟩
          ⟨tag, .swap, .var v, .mismatch, 0, some e.value, none⟩)))

/-- HOLD as a local hit on an OWNED or DIRTY entry (R39, R139, R107); the entry is promoted whatever the status (R27).
-/
def Obligations.CopyHoldHit : Prop :=
  ∀ (s : State) (tag : Tag) (cvar carg0 : Halfword) (i : EntryIx),
    let v := operandVar cvar
    let d := operandByte carg0
    let g : Staging := { s.port.staging with cmd := cmdWord 5 tag, cvar := cvar, carg0 := carg0 }
    let done := fun st : Status => (⟨tag, .hold, .var v, st, 0, none, none⟩ : Completion)
    s.ready → 2 ≤ s.completion.free → homeOf v ≠ s.nodeId → s.boundVar ≠ some v → s.entryOf v = some i →
    s.copy.entries[i].state = .owned ∨ s.copy.entries[i].state = .dirty → d ≠ 0 →
    (s.held v = true → exec (.hold tag cvar carg0) s = .next (promote i (s.finished g (done .held)))) ∧
    (s.held v = false → s.freeHold = none →
      exec (.hold tag cvar carg0) s = .next (promote i (s.finished g (done .holdFull)))) ∧
    ∀ r : HoldIx, s.held v = false → s.freeHold = some r →
      exec (.hold tag cvar carg0) s = .next (promote i
        ((s.submitted g (s.completion.free - 2) (s.completion.queue ++ [done .ok])).setHolds
          (s.holds.set r (some ⟨v, tag, d.toNat, 0⟩))))

/-- With no entry for the variable and a NONE entry free, the lowest such entry is reserved in fetch form and the slot
plans READ for a LOAD, OWN for the others; on a COPY the others plan CLAIM (R119, R121, R26, R41 step 1). A command on a
variable that is bound, own or not, waits in PLAN for the binding's end, and one on an entry that another slot has
reserved waits for that reservation's end (R117, R119). That a RELEASE of an own variable waits too while it is bound,
where R106 gives OK at once or HELD, is the model's deduction (log entry 19). -/
def Obligations.CopyFetchPlans : Prop :=
  (∀ (s : State) (tag : Tag) (cvar carg0 carg1 : Halfword) (payload : Value) (i : EntryIx),
    let v := operandVar cvar
    let g := s.port.staging
    let e := s.copy.entries[i]
    let fetch := fun (x : Staging) (b : Body) (kind : Kind) =>
      writeEntry i { e with tag := some v, reservedBy := some 0 }
        (s.started x b (s.sendSlot tag b ⟨kind, v.setWidth 16, []⟩ (some i)))
    let claim := fun (x : Staging) (b : Body) => s.started x b (s.sendSlot tag b ⟨.claim, v.setWidth 16, []⟩ (some i))
    let gStore : Staging := { g with cmd := cmdWord 2 tag, cvar := cvar, carg0 := carg0, stage := payload }
    let gSwap : Staging := ⟨cmdWord 3 tag, cvar, carg0, carg1, payload⟩
    let gHold : Staging := { g with cmd := cmdWord 5 tag, cvar := cvar, carg0 := carg0 }
    let bStore : Body := .store v (operandByte carg0) payload
    let bSwap : Body := .swap v (carg1 ++ carg0) payload
    let bHold : Body := .hold v (operandByte carg0)
    s.ready → homeOf v ≠ s.nodeId → s.boundVar ≠ some v →
    (s.entryOf v = none → s.freeEntry = some i →
      exec (.load tag cvar) s = .next (fetch { g with cmd := cmdWord 1 tag, cvar := cvar } (.load v) .read) ∧
      (operandByte carg0 ≠ 0 → exec (.store tag cvar carg0 payload) s = .next (fetch gStore bStore .own)) ∧
      exec (.swap tag cvar carg0 carg1 payload) s = .next (fetch gSwap bSwap .own) ∧
      (operandByte carg0 ≠ 0 → 2 ≤ s.completion.free →
        exec (.hold tag cvar carg0) s = .next (fetch gHold bHold .own))) ∧
    (s.entryOf v = some i → e.state = .copy →
      (operandByte carg0 ≠ 0 → exec (.store tag cvar carg0 payload) s = .next (claim gStore bStore)) ∧
      exec (.swap tag cvar carg0 carg1 payload) s = .next (claim gSwap bSwap) ∧
      (operandByte carg0 ≠ 0 → 2 ≤ s.completion.free →
        exec (.hold tag cvar carg0) s = .next (claim gHold bHold)))) ∧
  ∀ (s : State) (tag : Tag) (cvar carg0 carg1 : Halfword) (payload : Value),
    let v := operandVar cvar
    let g := s.port.staging
    let waits := fun (x : Staging) (b : Body) (w : Waiting) => s.started x b (s.waitSlot tag b w)
    let valuesWait := fun w : Waiting =>
      exec (.load tag cvar) s = .next (waits { g with cmd := cmdWord 1 tag, cvar := cvar } (.load v) w) ∧
      (operandByte carg0 ≠ 0 → exec (.store tag cvar carg0 payload) s =
        .next (waits { g with cmd := cmdWord 2 tag, cvar := cvar, carg0 := carg0, stage := payload }
          (.store v (operandByte carg0) payload) w)) ∧
      exec (.swap tag cvar carg0 carg1 payload) s =
        .next (waits ⟨cmdWord 3 tag, cvar, carg0, carg1, payload⟩ (.swap v (carg1 ++ carg0) payload) w) ∧
      (operandByte carg0 ≠ 0 → 2 ≤ s.completion.free → exec (.hold tag cvar carg0) s =
        .next (waits { g with cmd := cmdWord 5 tag, cvar := cvar, carg0 := carg0 } (.hold v (operandByte carg0)) w))
    let releaseWaits := fun w : Waiting =>
      exec (.release tag cvar) s = .next (waits { g with cmd := cmdWord 4 tag, cvar := cvar } (.release v) w)
    s.slotZeroOpen → (∀ j : SlotIx, s.slotVar j ≠ some v) →
    (s.boundVar = some v → valuesWait .binding ∧ releaseWaits .binding ∧
      ∀ level : Guard, homeOf v = s.nodeId → carg0.extractLsb' 0 2 = level.number →
        exec (.guard tag cvar carg0) s =
          .next (waits { g with cmd := cmdWord 7 tag, cvar := cvar, carg0 := carg0 } (.guard v level) .binding)) ∧
    ∀ i : EntryIx, s.boundVar ≠ some v → homeOf v ≠ s.nodeId → s.entryOf v = some i →
      s.copy.entries[i].reservedBy ≠ none →
      valuesWait .reservation ∧ (s.held v = false → releaseWaits .reservation)

/-- Victim choice with the table full (R41 step 2): an entry can be the victim if it is not NONE, unreserved, its tag
neither held, nor bound, nor another busy slot's variable, not being given back by another slot's FLUSH or LEAVE, and its
tag's home in the roster; the oldest such entry is chosen, whatever the other slots do. LOAD, STORE, SWAP and HOLD on a
variable with no entry then evict it by its state, sending READ or OWN in its place after a COPY's silent drop and RETURN
or WRITEBACK for an OWNED or DIRTY one, or end NO-ROOM (R41, R42, R121). -/
def Obligations.EvictionPlans : Prop :=
  let eligible := fun (s : State) (k : SlotIx) (i : EntryIx) => (s.copy.entries[i].tag).any fun w =>
    s.copy.entries[i].state != .none && s.copy.entries[i].reservedBy == none
      && (List.finRange 4).all (fun r => (s.holds[r]).all fun h => h.var != w)
      && (s.link.tenure).all (fun tn => tn.bound != some w)
      && (List.finRange 4).all (fun j => j == k || (s.slotVar j != some w
        && !((s.slotBody j == some .flush || s.slotBody j == some .leave) && s.tracker.slots[j].entry == some i)))
      && s.link.roster.getLsbD (homeOf w).toNat
  let oldest := fun (s : State) (k : SlotIx) (j : EntryIx) => eligible s k j = true ∧
    ∀ i : EntryIx, eligible s k i = true → i ≠ j → s.copy.entries[i].age < s.copy.entries[j].age
  (∀ (s : State) (k : SlotIx),
    (∀ i : EntryIx, s.victimEligible k i = eligible s k i) ∧
    (∀ j : EntryIx, s.oldestVictim k = some j →
      eligible s k j = true ∧
        ∀ i : EntryIx, eligible s k i = true → s.copy.entries[i].age ≤ s.copy.entries[j].age) ∧
    (∀ j : EntryIx, oldest s k j → s.oldestVictim k = some j) ∧
    (s.oldestVictim k = none → ∀ i : EntryIx, eligible s k i = false)) ∧
  ∀ (s : State) (tag : Tag) (cvar carg0 carg1 : Halfword) (payload : Value),
    let v := operandVar cvar
    let g := s.port.staging
    let gStore : Staging := { g with cmd := cmdWord 2 tag, cvar := cvar, carg0 := carg0, stage := payload }
    let gHold : Staging := { g with cmd := cmdWord 5 tag, cvar := cvar, carg0 := carg0 }
    s.slotZeroOpen → homeOf v ≠ s.nodeId → s.boundVar ≠ some v → (∀ j : SlotIx, s.slotVar j ≠ some v) →
    (∀ i : EntryIx, s.copy.entries[i].tag ≠ some v) →
    (∀ i : EntryIx, s.copy.entries[i].state = .none → s.copy.entries[i].reservedBy ≠ none) →
    let plans := fun (c : Instr) (x : Staging) (b : Body) (kind : Kind) =>
      ((∀ i : EntryIx, eligible s 0 i = false) →
        exec c s = .next (s.finished x ⟨tag, b.code, .var v, .noRoom, 0, none, none⟩)) ∧
      ∀ (j : EntryIx) (w : VarNum), s.copy.entries[j].tag = some w → oldest s 0 j →
        (s.copy.entries[j].state = .copy →
          exec c s = .next
            (writeEntry j { s.copy.entries[j] with state := .none, tag := some v, reservedBy := some 0 }
              (s.started x b (s.sendSlot tag b ⟨kind, v.setWidth 16, []⟩ (some j))))) ∧
        (s.copy.entries[j].state = .owned ∨ s.copy.entries[j].state = .dirty →
          exec c s = .next
            (writeEntry j { s.copy.entries[j] with reservedBy := some 0 }
              (s.started x b
                { s.sendSlot tag b
                    ⟨if s.copy.entries[j].state = .dirty then .writeback else .giveBack, w.setWidth 16, []⟩ none with
                  victim := some j })))
    plans (.load tag cvar) { g with cmd := cmdWord 1 tag, cvar := cvar } (.load v) .read ∧
    (operandByte carg0 ≠ 0 →
      plans (.store tag cvar carg0 payload) gStore (.store v (operandByte carg0) payload) .own) ∧
    plans (.swap tag cvar carg0 carg1 payload) ⟨cmdWord 3 tag, cvar, carg0, carg1, payload⟩
      (.swap v (carg1 ++ carg0) payload) .own ∧
    (operandByte carg0 ≠ 0 → 2 ≤ s.completion.free →
      plans (.hold tag cvar carg0) gHold (.hold v (operandByte carg0)) .own)

/-! ## NOTICE, JOIN and the barriers -/

/-- NOTICE plans one frame with the listener mask, the length and the payload (R110, R134). -/
def Obligations.NoticePlans : Prop :=
  ∀ (s : State) (tag : Tag) (carg0 carg1 : Halfword) (payload : Value),
    let len := (carg1.extractLsb' 0 4).toNat
    let words := payload.toList.take len
    s.ready → carg0 ≠ 0 → carg0.getLsbD s.nodeId.toNat = false → 1 ≤ len → len ≤ 8 →
    exec (.notice tag carg0 carg1 payload) s = .next
      (s.started { s.port.staging with cmd := cmdWord 8 tag, carg0 := carg0, carg1 := carg1, stage := payload }
        (.notice carg0 words) (s.sendSlot tag (.notice carg0 words) ⟨.notice, carg0, words⟩ none))

/-- JOIN at an OFFLINE node: JOINING, inhibit cleared, the JOIN frame planned in slot 0 (R112, R181, R135). -/
def Obligations.JoinPlans : Prop :=
  ∀ (s : State) (tag : Tag), s.atRest → s.participation = .offline → 1 ≤ s.completion.free →
    exec (.join tag) s = .next
      (((s.started { s.port.staging with cmd := cmdWord 10 tag } .join
        (s.sendSlot tag .join ⟨.join, 0, []⟩ none)).setParticipation .joining).setLink
        { s.link with inhibit := false })

/-- The first plan of a FLUSH or LEAVE with nothing bound, entry by entry (R187): every COPY becomes NONE and untagged and
no other entry changes; then the lowest OWNED or DIRTY entry whose tag is not held is offered by RETURN or WRITEBACK;
with none to offer the slot waits while a hold is active; with no hold either, a FLUSH ends OK (R190), and a LEAVE,
DRAINING meanwhile, takes its final step at once or waits for the end of the phase or tenure in progress (R191, R192). How
a LEAVE waits is the model's choice (log entry 12). -/
def Obligations.DrainPlans : Prop :=
  ∀ (s : State) (tag : Tag),
    let gF : Staging := { s.port.staging with cmd := cmdWord 9 tag }
    let gL : Staging := { s.port.staging with cmd := cmdWord 11 tag }
    let table : CopyUnit := { s.copy with entries := Vector.ofFn fun i : EntryIx =>
      if s.copy.entries[i].state = .copy then { s.copy.entries[i] with state := .none, tag := none }
      else s.copy.entries[i] }
    let offered := fun i : EntryIx => (s.copy.entries[i].state == .owned || s.copy.entries[i].state == .dirty)
      && (s.copy.entries[i].tag).any fun w => (List.finRange 4).all fun r => (s.holds[r]).all fun h => h.var != w
    let draining := fun x : Slot => ((s.started gL .leave x).setCopy table).setParticipation .draining
    s.ready → s.boundVar = none →
    ((∀ i : EntryIx, offered i = false) → (∀ r : HoldIx, s.holds[r] = none) →
      exec (.flush tag) s = .next ((s.finished gF ⟨tag, .flush, .absent, .ok, 0, none, none⟩).setCopy table) ∧
      (s.inTenure = false → exec (.leave tag) s = .next
        (((s.finished gL ⟨tag, .leave, .absent, .ok, 0, none, none⟩).setCopy table).setParticipation .offline)) ∧
      (s.inTenure = true → exec (.leave tag) s = .next (draining (s.waitSlot tag .leave .tenureEnd)))) ∧
    ((∀ i : EntryIx, offered i = false) → ∀ r : HoldIx, s.holds[r] ≠ none →
      exec (.flush tag) s = .next ((s.started gF .flush (s.waitSlot tag .flush .holds)).setCopy table) ∧
      exec (.leave tag) s = .next (draining (s.waitSlot tag .leave .holds))) ∧
    ∀ (i : EntryIx) (w : VarNum), offered i = true → (∀ j : EntryIx, j < i → offered j = false) →
      s.copy.entries[i].tag = some w →
      let f : Frame := ⟨if s.copy.entries[i].state = .dirty then .writeback else .giveBack, w.setWidth 16, []⟩
      exec (.flush tag) s = .next ((s.started gF .flush (s.sendSlot tag .flush f (some i))).setCopy table) ∧
      exec (.leave tag) s = .next (draining (s.sendSlot tag .leave f (some i)))

/-- A LEAVE's final step, when it was waited for: stranded entries discarded and counted, copies dropped, OFFLINE, the
LEAVE's OK, then one CANCELLED per queued record in queue order with its spare credit freed (R192, R113). How a LEAVE
waits is the model's choice (log entry 12). -/
def Obligations.LeaveFinalStepEnds : Prop :=
  ∀ (s : State) (k : SlotIx) (c : Command), s.por = false → s.inTenure = false →
    (∀ j : SlotIx, j ≠ k → s.tracker.slots[j] = Slot.idle) → s.tracker.slots[k].phase = .plan →
    s.tracker.slots[k].command = some c → c.body = .leave → s.tracker.slots[k].waiting = some .tenureEnd →
    (∀ i : EntryIx, s.copy.entries[i].reservedBy = none) →
    let strandedNow := fun i : EntryIx => s.tracker.slots[k].stranded.contains i
      && (s.copy.entries[i].state == .owned || s.copy.entries[i].state == .dirty)
    let n := (List.finRange 32).countP strandedNow
    ∃ t, exec .leaveFinalStep s = .next t ∧ t.participation = .offline ∧ t.port = { s.port with queue := [] } ∧
      t.tracker = { s.tracker with slots := s.tracker.slots.set k Slot.idle } ∧
      (∀ i : EntryIx, t.copy.entries[i] =
        if strandedNow i = true ∨ s.copy.entries[i].state = .copy then
          { s.copy.entries[i] with state := .none, tag := none } else s.copy.entries[i]) ∧
      t.completion.queue = s.completion.queue ++ ⟨c.tag, .leave, .absent, .ok, s.tracker.slots[k].tenures, none, none⟩
        :: s.port.queue.map (fun d => ⟨d.tag, d.body.code, d.body.subject, .cancelled, 0, none, none⟩) ∧
      t.completion.free = s.completion.free + (s.port.queue.map fun d => d.body.credits - 1).sum ∧
      t.completion.counters = { s.completion.counters with discard := satAdd s.completion.counters.discard n } ∧
      t.completion.latched = { s.completion.latched with discard := s.completion.latched.discard || n != 0 } ∧
      t.home = s.home ∧ t.copy.receive = s.copy.receive ∧ t.holds = s.holds ∧ t.notices = s.notices ∧ t.link = s.link ∧
      t.timing = s.timing ∧ t.control = s.control ∧ t.nodeId = s.nodeId ∧ t.cold = s.cold ∧ t.por = false
        ∧ t.pending = s.pending

/-! ## The register window -/

/-- CQPOP: the head leaves, its credit returns, the next record is the head; ignored while empty; and a pop and a post
in either order leave what R169 says. -/
def Obligations.CompletionPop : Prop :=
  (∀ (s : State) (word : Halfword), s.por = false →
    exec (.registerWrite 0x48 word) s = exec .cqpop s ∧
    (s.completion.queue = [] → exec .cqpop s = .next s) ∧
    ∀ (c : Completion) (rest : List Completion), s.completion.queue = c :: rest →
      ∃ t, exec .cqpop s = .next t ∧
        t = s.setCompletion { s.completion with queue := rest, free := s.completion.free + 1 } ∧
        t.completion.queue.length + 1 = s.completion.queue.length ∧
        (rest = [] → t.hostRead 0x08 = some (regCause s &&& 0xFFFE#16))) ∧
  (∀ (s : State) (c : Completion), s.completion.queue = [] →
    (post c (popCompletion s)).completion.queue = [c] ∧ (popCompletion (post c s)).completion.queue = []) ∧
  ∀ (s : State) (c d : Completion) (rest : List Completion), s.completion.queue = d :: rest →
    (post c (popCompletion s)).completion.queue = rest ++ [c] ∧
    popCompletion (post c s) = post c (popCompletion s)

/-- What the head registers of both queues read: zeros while the queue is empty, the fields of the head record
otherwise; a pop brings the next record to the head, and both queues are empty after either reset (R203, R204). -/
def Obligations.HeadRegistersRead : Prop :=
  (∀ s : State, s.por = false → s.completion.queue = [] →
    s.hostRead 0x30 = some 0 ∧ s.hostRead 0x32 = some 0 ∧ s.hostRead 0x34 = some 0 ∧ s.hostRead 0x36 = some 0 ∧
    ∀ k : Fin 8, s.hostRead (BitVec.ofNat 7 (0x38 + 2 * k.val)) = some 0) ∧
  (∀ (s : State) (c : Completion) (rest : List Completion), s.por = false → s.completion.queue = c :: rest →
    ∃ head info : Halfword, s.hostRead 0x30 = some head ∧ s.hostRead 0x34 = some info ∧
      head.extractLsb' 12 4 = c.status.number ∧ head.extractLsb' 8 4 = c.code.number ∧ head.extractLsb' 0 8 = c.tag ∧
      info.extractLsb' 11 5 = BitVec.ofNat 5 (rest.length + 1) ∧ info.getLsbD 8 = c.value.isSome ∧
      info.extractLsb' 0 5 = BitVec.ofNat 5 c.attempts ∧ info.extractLsb' 5 3 = 0#3 ∧ info.extractLsb' 9 2 = 0#2 ∧
      (∀ v, c.subject = .var v → s.hostRead 0x32 = some (v.setWidth 16)) ∧
      (∀ m, c.subject = .listeners m → s.hostRead 0x32 = some m) ∧
      (c.subject = .absent → s.hostRead 0x32 = some 0) ∧
      s.hostRead 0x36 = some (c.delivered.getD 0) ∧
      ∀ k : Fin 8, s.hostRead (BitVec.ofNat 7 (0x38 + 2 * k.val)) =
        some (match c.value with | some x => x[k] | none => 0)) ∧
  (∀ s : State, s.por = false → s.notices.inbound = [] →
    s.hostRead 0x50 = some 0 ∧ ∀ k : Fin 8, s.hostRead (BitVec.ofNat 7 (0x52 + 2 * k.val)) = some 0) ∧
  (∀ (s : State) (n : NoticeRecord) (rest : List NoticeRecord), s.por = false → s.notices.inbound = n :: rest →
    (∃ head : Halfword, s.hostRead 0x50 = some head ∧ head.extractLsb' 8 5 = BitVec.ofNat 5 (rest.length + 1) ∧
      head.extractLsb' 4 4 = BitVec.ofNat 4 n.payload.length ∧ head.extractLsb' 0 4 = n.sender ∧
      head.extractLsb' 13 3 = 0#3) ∧
    ∀ k : Fin 8, s.hostRead (BitVec.ofNat 7 (0x52 + 2 * k.val)) = some (n.payload.getD k.val 0)) ∧
  (∀ (s : State) (word : Halfword), s.por = false →
    (∃ t, exec (.registerWrite 0x48 word) s = .next t ∧ t.por = false ∧ t.completion.queue = s.completion.queue.tail) ∧
    ∃ t, exec (.registerWrite 0x62 word) s = .next t ∧ t.por = false ∧ t.notices.inbound = s.notices.inbound.tail) ∧
  ∀ (s : State) (straps : NodeId) (word : Halfword),
    (s.por = true →
      ∃ t, exec (.porRelease straps) s = .next t ∧ t.por = false ∧ t.completion.queue = [] ∧ t.notices.inbound = []) ∧
    (s.por = false →
      ∃ t, exec (.softreset word) s = .next t ∧ t.por = false ∧ t.completion.queue = [] ∧ t.notices.inbound = [])

/-- NQPOP: the head notice leaves, ignored while empty; a node holding off with no reservation then reserves, and
takes the word if NPAUSE is clear (R162, R154). -/
def Obligations.NoticePop : Prop :=
  ∀ s : State, s.por = false →
    (s.notices.inbound = [] → exec .nqpop s = .next s) ∧
    ∀ (n : NoticeRecord) (rest : List NoticeRecord), s.notices.inbound = n :: rest → rest.length < 16 →
      (s.link.taken ≠ .withheld → exec .nqpop s = .next (s.setNotices { s.notices with inbound := rest })) ∧
      (s.link.taken = .withheld → s.notices.reserved = false → s.control.npause = false →
        exec .nqpop s = .next ((s.setNotices { s.notices with inbound := rest, reserved := true }).setLink
          { s.link with taken := .follows })) ∧
      (s.link.taken = .withheld → s.control.npause = true →
        exec .nqpop s = .next (s.setNotices { s.notices with inbound := rest, reserved := true }))

/-- A soft reset, with LINKCLEAR written in the same word or not: what it empties, what it keeps, and the clear it
pulses as a participant (R194, R199, and the reset values of R44, R94, R136, R149, R164, R178). The link unit in IDLE
while LCLR is asserted, and in CLEAR where LINKCLEAR is written too, is the model's choice (log entry 16). -/
def Obligations.SoftResetEffects : Prop :=
  ∀ (s : State) (word : Halfword), s.por = false →
    ∃ t, exec (.softreset word) s = .next t ∧
      t.nodeId = s.nodeId ∧ t.por = false ∧ t.participation = .offline ∧ t.cold = s.cold ∧
      t.port = { s.port with queue := [] } ∧ t.timing = s.timing ∧
      t.control = ⟨word.getLsbD 4, word.getLsbD 8, word.getLsbD 9, word.getLsbD 10⟩ ∧
      t.home = ⟨s.home.records, []⟩ ∧
      (∀ i : EntryIx, t.copy.entries[i].state = .none ∧ t.copy.entries[i].tag = none
        ∧ t.copy.entries[i].reservedBy = none ∧ t.copy.entries[i].age = i.val) ∧ t.copy.receive = [] ∧
      (∀ k : SlotIx, t.tracker.slots[k] = Slot.idle) ∧ t.tracker.pointer = 0 ∧ (∀ r : HoldIx, t.holds[r] = none) ∧
      t.notices = ⟨[], false, []⟩ ∧ t.completion.queue = [] ∧ t.completion.free = 16 ∧
      t.completion.latched = ⟨false, false, false, false⟩ ∧
      t.completion.counters = (if s.inTenure = true then
        { s.completion.counters with clear := satAdd s.completion.counters.clear 1 } else s.completion.counters) ∧
      t.link.roster = 0 ∧ t.link.inhibit = false ∧ t.link.tenure = none ∧ t.link.sender = none ∧ t.link.wait = none ∧
      t.link.taken = .follows ∧ t.link.phase = (if word.getLsbD 1 = true then .clear else .idle) ∧
      t.link.pulse = (if s.inTenure = true ∨ word.getLsbD 1 = true then 2 else s.link.pulse) ∧
      t.link.lclr = (s.inTenure || word.getLsbD 1 || s.link.lclr) ∧
      t.pinTaken = (!(s.inTenure || word.getLsbD 1) && s.link.valid) ∧
      t.irq = false ∧ t.pending = s.pending

/-- The other writes of CONTROL: an enable or NPAUSE takes the value written and the rest of CONTROL stays, a holdoff
then ends where R154 lets it; LINKCLEAR acts, after the fields, as a clear this node also pulses (R199, R90, R93).
That the other fields are written as they stand is the model's reading of these rows (log entry 5). That the pulse acts as
LINK_CLEAR at an OFFLINE node too, which R90 says observes nothing of it, is the model's: nothing is counted, the link unit
is in CLEAR until the release, and a TAKEN contribution that POR froze follows VALID at rest again (log entries 30, 29,
35); so is counting it on an idle link unless LCLR is asserted (log entry 30). -/
def Obligations.ControlWrites : Prop :=
  ∀ (s : State) (on : Bool) (word : Halfword), s.por = false →
    exec (.npause on) s = .next (tryTake (s.setControl { s.control with npause := on })) ∧
    exec (.cqe on) s = .next (tryTake (s.setControl { s.control with cqe := on })) ∧
    exec (.nqe on) s = .next (tryTake (s.setControl { s.control with nqe := on })) ∧
    exec (.atte on) s = .next (tryTake (s.setControl { s.control with atte := on })) ∧
    (word.getLsbD 0 = false → ∃ t, exec (.linkclear word) s = .next t ∧
      exec .linkClear (drivePulse (tryTake (s.setControl
        ⟨word.getLsbD 4, word.getLsbD 8, word.getLsbD 9, word.getLsbD 10⟩))) = .next t) ∧
    (word.getLsbD 0 = true → exec (.linkclear word) s = exec (.softreset (word ||| 2)) s) ∧
    (s.link.taken = .withheld → s.notices.reserved = true →
      exec (.npause false) s =
        .next ((s.setControl { s.control with npause := false }).setLink { s.link with taken := .follows }))

/-- IRQ is a level of the causes and enables of the moment; a write of an enable reads back, moves IRQ within the write
and leaves CAUSE (R175). That the CQE, NQE and ATTE rows leave the other fields of CONTROL as they stand is the model's
reading of these rows (log entry 5). -/
def Obligations.IrqIsLevel : Prop :=
  ∀ (s : State) (on : Bool), s.por = false →
    (s.irq = true ↔ (s.completion.queue ≠ [] ∧ s.control.cqe = true) ∨ (s.notices.inbound ≠ [] ∧ s.control.nqe = true) ∨
      ((s.completion.latched.linkErr = true ∨ s.completion.latched.reclaim = true ∨
        s.completion.latched.discard = true ∨ s.completion.latched.roster = true) ∧ s.control.atte = true)) ∧
    (∃ x : Halfword, s.hostRead 0x06 = some x ∧ x.getLsbD 8 = s.control.cqe ∧ x.getLsbD 9 = s.control.nqe ∧
      x.getLsbD 10 = s.control.atte) ∧
    (∃ t, exec (.cqe on) s = .next t ∧ t.control = { s.control with cqe := on } ∧ t.hostRead 0x08 = s.hostRead 0x08 ∧
      t.irq = ((s.cq && on) || (s.nq && s.control.nqe) || (s.completion.latched.any && s.control.atte))) ∧
    (∃ t, exec (.nqe on) s = .next t ∧ t.control = { s.control with nqe := on } ∧ t.hostRead 0x08 = s.hostRead 0x08 ∧
      t.irq = ((s.cq && s.control.cqe) || (s.nq && on) || (s.completion.latched.any && s.control.atte))) ∧
    ∃ t, exec (.atte on) s = .next t ∧ t.control = { s.control with atte := on } ∧ t.hostRead 0x08 = s.hostRead 0x08 ∧
      t.irq = ((s.cq && s.control.cqe) || (s.nq && s.control.nqe) || (s.completion.latched.any && on))

/-- CAUSE: what a read shows, what a write clears, its value after each reset, and IRQ after the write (R200). -/
def Obligations.CauseRegister : Prop :=
  (∀ s : State, s.por = false → ∃ x : Halfword, s.hostRead 0x08 = some x ∧
    x.getLsbD 0 = s.cq ∧ x.getLsbD 1 = s.nq ∧ x.extractLsb' 2 6 = 0#6 ∧ x.getLsbD 8 = s.completion.latched.linkErr ∧
    x.getLsbD 9 = s.completion.latched.reclaim ∧ x.getLsbD 10 = s.completion.latched.discard ∧
    x.getLsbD 11 = s.completion.latched.roster ∧ x.extractLsb' 12 4 = 0#4) ∧
  (∀ (s : State) (word : Halfword), s.por = false →
    exec (.registerWrite 0x08 word) s = exec (.causeClear word) s ∧
    exec (.causeClear word) s = .next (s.setCompletion { s.completion with latched :=
      ⟨s.completion.latched.linkErr && !word.getLsbD 8, s.completion.latched.reclaim && !word.getLsbD 9,
        s.completion.latched.discard && !word.getLsbD 10, s.completion.latched.roster && !word.getLsbD 11⟩ })) ∧
  (∀ s : State, s.por = false →
    exec (.causeClear 0x0F00) s = .next (s.setCompletion { s.completion with latched := ⟨false, false, false, false⟩ }) ∧
    exec (.causeClear 0x0003) s = .next s) ∧
  (∀ (s t : State) (straps : NodeId), s.por = true → exec (.porRelease straps) s = .next t →
    t.hostRead 0x08 = some 0) ∧
  (∀ (s t : State) (word : Halfword), s.por = false → exec (.softreset word) s = .next t → t.hostRead 0x08 = some 0) ∧
  ∀ (s t : State) (word : Halfword), s.por = false → exec (.causeClear word) s = .next t →
    (s.cq && s.control.cqe) = false → (s.nq && s.control.nqe) = false → t.completion.latched.any = false →
    t.irq = false

/-- The statistics counters: what a read shows, what a write clears, saturation, a write and an increment in either
order, and the values after each reset (R205, R177). -/
def Obligations.CounterRegisters : Prop :=
  let offset := fun w : Counter => match w with
    | .retry => 0x70#7 | .clear => 0x72#7 | .reclaim => 0x74#7 | .discard => 0x76#7 | .proto => 0x78#7
  (∀ (s : State) (w : Counter), s.por = false → s.hostRead (offset w) = some (s.completion.counters.get w)) ∧
  (∀ (s : State) (w : Counter) (word : Halfword), s.por = false →
    exec (.registerWrite (offset w) word) s = exec (.counterClear w) s ∧
    ∃ t, exec (.counterClear w) s = .next t ∧
      t = s.setCompletion { s.completion with counters := t.completion.counters } ∧
      ∀ x : Counter, t.completion.counters.get x = if x = w then 0 else s.completion.counters.get x) ∧
  (∀ (s : State) (w : Counter), s.completion.counters.get w = 65535 →
    raiseCounter w 1 s = s) ∧
  (∀ (s : State) (w : Counter), s.completion.counters.get w ≠ 65535 →
    (raiseCounter w 1 s).completion.counters.get w = s.completion.counters.get w + 1) ∧
  (∀ (s : State) (w : Counter), (zeroCounter w (raiseCounter w 1 s)).completion.counters.get w = 0 ∧
    (raiseCounter w 1 (zeroCounter w s)).completion.counters.get w = 1) ∧
  (∀ (s t : State) (straps : NodeId) (w : Counter), s.por = true → exec (.porRelease straps) s = .next t →
    t.hostRead (offset w) = some 0) ∧
  ∀ (s t : State) (word : Halfword), s.por = false → exec (.softreset word) s = .next t →
    t.completion.latched.linkErr = false ∧
    ∀ w : Counter, t.completion.counters.get w =
      if w = .clear ∧ s.inTenure = true ∧ s.completion.counters.clear ≠ 65535 then s.completion.counters.clear + 1
      else s.completion.counters.get w

/-- IDENT, STATE, ROSTER and CREDITS, field by field, as they stand at the read, after each reset, and STATE after a
cold node's JOIN is admitted (R198). -/
def Obligations.StatusRegisters : Prop :=
  (∀ s : State, s.por = false →
    s.hostRead 0x00 = some (0x1200#16 ||| s.nodeId.setWidth 16) ∧ s.hostRead 0x04 = some s.link.roster ∧
    (∃ x : Halfword, s.hostRead 0x02 = some x ∧
      x.extractLsb' 0 2 = (match s.participation with
        | .offline => 0#2
        | .joining => 1#2
        | .online => 2#2
        | .draining => 3#2) ∧
      x.getLsbD 2 = s.cold ∧ x.getLsbD 3 = false ∧
      x.extractLsb' 4 3 = BitVec.ofNat 3 ((List.finRange 4).countP fun k => s.tracker.slots[k].phase != .free) ∧
      x.getLsbD 7 = (List.finRange 4).any (fun k =>
        (s.tracker.slots[k].command).any fun c => c.body == .flush || c.body == .leave) ∧
      x.extractLsb' 8 8 = 0#8) ∧
    ∃ x : Halfword, s.hostRead 0x0E = some x ∧ x.extractLsb' 0 5 = BitVec.ofNat 5 s.completion.free ∧
      x.extractLsb' 8 4 = BitVec.ofNat 4 s.port.queue.length ∧ x.extractLsb' 5 3 = 0#3 ∧ x.extractLsb' 12 4 = 0#4) ∧
  (∀ (s : State) (straps : NodeId), s.por = true → ∃ t, exec (.porRelease straps) s = .next t ∧
    t.hostRead 0x00 = some (0x1200#16 ||| straps.setWidth 16) ∧ t.hostRead 0x02 = some 0x0004 ∧
    t.hostRead 0x04 = some 0 ∧ t.hostRead 0x0E = some 0x0010) ∧
  (∀ (s : State) (word : Halfword), s.por = false → ∃ t, exec (.softreset word) s = .next t ∧
    t.hostRead 0x00 = s.hostRead 0x00 ∧ t.hostRead 0x02 = some (if s.cold = true then 0x0004 else 0x0000) ∧
    t.hostRead 0x04 = some 0 ∧ t.hostRead 0x0E = some 0x0010) ∧
  ∀ (s : State) (tag : Tag), s.atRest → s.participation = .offline → 1 ≤ s.completion.free →
    ∃ t, exec (.join tag) s = .next t ∧ t.hostRead 0x28 = some 0 ∧
      t.hostRead 0x02 = some (if s.cold = true then 0x0015 else 0x0011)

/-- REGISTER_WRITE by access class: storage registers store and read back, TIMING1 without its unused bits; CONTROL keeps
its four fields, of which a holdoff may see the new NPAUSE, and acts on SOFTRESET and LINKCLEAR written as 1; read-only
and unmapped offsets ignore the write; the action and pop registers act; no address line carries bit 0 (R196, R197, R199,
R201, R202). That this one row reaches the whole window is the model's reading of it (log entry 6). -/
def Obligations.RegisterWritesByClass : Prop :=
  (∀ (s : State) (word : Halfword), s.por = false →
    let g := s.port.staging
    let put := fun x : Staging => s.setPort { s.port with staging := x }
    exec (.registerWrite 0x10 word) s = .next (put { g with cmd := word }) ∧
    exec (.registerWrite 0x12 word) s = .next (put { g with cvar := word }) ∧
    exec (.registerWrite 0x14 word) s = .next (put { g with carg0 := word }) ∧
    exec (.registerWrite 0x16 word) s = .next (put { g with carg1 := word }) ∧
    (∀ k : Fin 8, exec (.registerWrite (BitVec.ofNat 7 (0x18 + 2 * k.val)) word) s =
      .next (put { g with stage := g.stage.set k word })) ∧
    exec (.registerWrite 0x0A word) s = .next (s.setTiming
      { s.timing with handshake := word.extractLsb' 0 8, retryLimit := word.extractLsb' 8 5 }) ∧
    exec (.registerWrite 0x0C word) s = .next (s.setTiming
      { s.timing with backoffUnit := word.extractLsb' 0 8, noticeWait := word.extractLsb' 8 8 }) ∧
    exec (.registerWrite 0x28 word) s = .next (submit s) ∧ exec (.registerWrite 0x62 word) s = exec .nqpop s) ∧
  (∀ (s : State) (offset : BitVec 7) (word : Halfword),
    exec (.registerWrite offset word) s = exec (.registerWrite (offset &&& 0x7E) word) s) ∧
  (∀ (s t : State) (word : Halfword), s.por = false →
    ∀ offset ∈ ([0x10, 0x12, 0x14, 0x16, 0x18, 0x1A, 0x1C, 0x1E, 0x20, 0x22, 0x24, 0x26, 0x0C] : List (BitVec 7)),
      exec (.registerWrite offset word) s = .next t → t.hostRead offset = some word) ∧
  (∀ (s t : State) (word : Halfword), s.por = false → exec (.registerWrite 0x0A word) s = .next t →
    t.hostRead 0x0A = some (word &&& 0x1FFF)) ∧
  (∀ (s : State) (word : Halfword), s.por = false →
    (word.getLsbD 0 = false → word.getLsbD 1 = false →
      exec (.registerWrite 0x06 word) s = .next (tryTake (s.setControl
        ⟨word.getLsbD 4, word.getLsbD 8, word.getLsbD 9, word.getLsbD 10⟩))) ∧
    (word.getLsbD 0 = true → exec (.registerWrite 0x06 word) s = exec (.softreset word) s) ∧
    (word.getLsbD 1 = true → exec (.registerWrite 0x06 word) s = exec (.linkclear word) s) ∧
    ∃ t, exec (.registerWrite 0x06 word) s = .next t ∧ t.hostRead 0x06 = some (word &&& 0x0710)) ∧
  ∀ (s : State) (word : Halfword),
    ∀ offset ∈ ([0x00, 0x02, 0x04, 0x0E, 0x2A, 0x2C, 0x2E, 0x30, 0x32, 0x34, 0x36, 0x38, 0x3A, 0x3C, 0x3E, 0x40, 0x42,
      0x44, 0x46, 0x4A, 0x4C, 0x4E, 0x50, 0x52, 0x54, 0x56, 0x58, 0x5A, 0x5C, 0x5E, 0x60, 0x64, 0x66, 0x68, 0x6A, 0x6C,
      0x6E, 0x7A, 0x7C, 0x7E] : List (BitVec 7)),
      exec (.registerWrite offset word) s = .next s

/-- POR asserted: every line of the link is released and nothing else of the state moves yet; the TAKEN contribution keeps
its level, a participant's fixed there; host accesses are ignored while POR lasts (R195, R73, R197). That the rest of the
state waits for the release, and IRQ with it, is the model's choice (log entries 20, 33). -/
def Obligations.PorSilences : Prop :=
  (∀ s : State, ∃ t, exec .por s = .next t ∧ t.por = true ∧ t = (s.setPor true).setLink t.link ∧
    t.pinLd = 0 ∧ t.drivesValid = false ∧ t.pinLbusy = false ∧ t.pinLines = quietLines ∧ t.pinLclr = false ∧
    t.pinValid = none ∧ t.pinTaken = s.pinTaken ∧
    t.link.taken = (if s.inTenure = true then .frozen s.pinTaken else s.link.taken)) ∧
  ∀ (s : State) (word : Halfword) (offset : BitVec 7) (on : Bool) (tag : Tag) (w : Counter), s.por = true →
    s.hostRead offset = none ∧ exec (.registerWrite offset word) s = .next s ∧ exec (.load tag word) s = .next s ∧
    exec (.join tag) s = .next s ∧ exec .cqpop s = .next s ∧ exec .nqpop s = .next s ∧
    exec (.softreset word) s = .next s ∧ exec (.linkclear word) s = .next s ∧ exec (.npause on) s = .next s ∧
    exec (.cqe on) s = .next s ∧ exec (.nqe on) s = .next s ∧ exec (.atte on) s = .next s ∧
    exec (.causeClear word) s = .next s ∧ exec (.counterClear w) s = .next s

/-- POR released: every block at its POR value and the straps sampled, whatever the state before (R195, R22, R44, R94,
R136, R149, R164, R178, R198). That it acts so with no POR before it is the model's choice (log entry 20). -/
def Obligations.PorReleaseValues : Prop :=
  ∀ (s : State) (straps : NodeId), ∃ t, exec (.porRelease straps) s = .next t ∧
    t.nodeId = straps ∧ t.por = false ∧ t.participation = .offline ∧ t.cold = true ∧
    t.port.queue = [] ∧ t.port.staging = ⟨0, 0, 0, 0, Vector.replicate 8 0⟩ ∧ t.port.result = .accepted ∧
    t.timing = ⟨50, 15, 8, 10⟩ ∧ t.control = ⟨false, false, false, false⟩ ∧
    (∀ i : Nat, homeRead t.home.records i = ⟨Vector.replicate 8 0, .quiet, .openAccess⟩) ∧ t.home.capture = [] ∧
    (∀ i : EntryIx, t.copy.entries[i].state = .none ∧ t.copy.entries[i].tag = none
      ∧ t.copy.entries[i].reservedBy = none ∧ t.copy.entries[i].age = i.val) ∧ t.copy.receive = [] ∧
    (∀ k : SlotIx, t.tracker.slots[k] = Slot.idle) ∧ t.tracker.pointer = 0 ∧ (∀ r : HoldIx, t.holds[r] = none) ∧
    t.notices = ⟨[], false, []⟩ ∧
    t.completion = ⟨[], 16, ⟨false, false, false, false⟩, ⟨0, 0, 0, 0, 0⟩⟩ ∧
    t.link.phase = .idle ∧ t.link.inhibit = false ∧ t.link.roster = 0 ∧ t.link.tenure = none ∧ t.link.wait = none ∧
    t.irq = false ∧ t.pinTaken = s.pinTaken ∧ t.pending = s.pending ∧
    t.hostRead 0x00 = some (0x1200#16 ||| straps.setWidth 16) ∧ t.hostRead 0x02 = some 0x0004 ∧
    t.hostRead 0x0A = some 0x0F32 ∧ t.hostRead 0x0C = some 0x0A08 ∧ t.hostRead 0x0E = some 0x0010

/-! ## Arbitration -/

/-- An arbitration phase opens on an idle link: a participant enters ARBITRATE and bids as R78 says or awaits the first
request word; an OFFLINE node takes no part and follows VALID; no phase opens while LCLR is asserted (R77, R73, R78). The
field `link.outside` is the model's own (log entry 11): for a node outside the phase in progress the event is the opening
of one of its words, and after an early fall of LBUSY the link is idle once no word is open (R72). The operand `wordOpens`, whether another participant opens the first request word, is the model's (log
entry 24). -/
def Obligations.PhaseOpens : Prop :=
  ∀ (s : State) (wordOpens : Bool), s.por = false → s.link.phase = .idle →
    (s.link.lclr = true → exec (.arbitrationPhaseOpen wordOpens) s = .next s) ∧
    (s.link.lclr = false → s.link.outside = .phase ∨ s.link.outside = .tenure
        ∨ (s.link.outside = .lost ∧ s.link.wordOpen = true) →
      exec (.arbitrationPhaseOpen wordOpens) s = .next (s.setLink { s.link with
        wordOpen := s.link.wordOpen || wordOpens
        valid := s.link.valid != (wordOpens && !s.link.wordOpen) })) ∧
    (s.link.lclr = false → s.link.outside = .nothing ∨ (s.link.outside = .lost ∧ s.link.wordOpen = false) →
        s.leaveDue = none →
      (s.participation = .offline →
        exec (.arbitrationPhaseOpen wordOpens) s = .next (s.setLink { s.link with
          outside := .phase, taken := .follows, wordOpen := wordOpens, valid := s.link.valid != wordOpens })) ∧
      (s.participation ≠ .offline → (wordOpens = true ∨ s.frameReady = true) →
        ∃ t, exec (.arbitrationPhaseOpen wordOpens) s = .next t ∧
          t = s.setLink { s.link with
            phase := .arbitrate
            outside := .nothing
            taken := .follows
            wordOpen := true
            valid := !s.link.valid
            opener := s.frameReady
            bidding := s.frameReady && !s.link.inhibit
            wait := some ⟨.wordCompletion, max 1 s.timing.handshake.toNat⟩ } ∧
          t.pinLd = (if s.frameReady = true ∧ s.link.inhibit = false then 1#16 <<< s.nodeId.toNat else 0)
            ∧ t.pinLbusy = s.frameReady
            ∧ t.pinValid = (if s.frameReady = true then some (!s.link.valid) else none)) ∧
      (s.participation ≠ .offline → wordOpens = false → s.frameReady = false →
        exec (.arbitrationPhaseOpen wordOpens) s = .next (s.setLink { s.link with
          phase := .arbitrate
          outside := .nothing
          taken := .follows
          wordOpen := false
          wait := some ⟨.firstRequest, max 1 s.timing.handshake.toNat⟩ })))

/-- A bidder with no lower bit in the request word wins: inhibit set, the first slot in SEND from the pointer on
enters LINK with its tenures count raised, the pointer moves past it, and H0 is formed from its frame and driven, VALID
changing with it (R78, R80, R126, R127, R48, R51, R52, R74). The operand is joined by this node's own bid (log entry 9).
-/
def Obligations.WinSendsFrame : Prop :=
  ∀ (s : State) (ld : Halfword) (next : AfterEmpty) (k : SlotIx) (f : Frame), s.por = false →
    s.link.phase = .arbitrate → s.link.wordOpen = true → s.link.bidding = true →
    (∀ i : Fin 16, i.val < s.nodeId.toNat → ld.getLsbD i.val = false) →
    s.tracker.slots[k].phase = .send → s.tracker.slots[k].frame = some f →
    (∀ d : Fin 4, d.val < (k - s.tracker.pointer).val → s.tracker.slots[s.tracker.pointer + d].phase ≠ .send) →
    ∃ (t : State) (tn : Tenure), exec (.requestWord ld next) s = .next t ∧
      t.link = { s.link with
        phase := .header
        inhibit := true
        bidding := false
        wordOpen := true
        valid := !s.link.valid
        wordIndex := 0
        sender := some k
        tenure := some tn
        wait := some ⟨.wordCompletion, max 1 s.timing.handshake.toNat⟩ } ∧
      tn.h0.extractLsb' 12 4 = f.kind.number ∧ tn.h0.extractLsb' 8 4 = s.nodeId ∧
      tn.h0.extractLsb' 3 5 = BitVec.ofNat 5 s.tracker.slots[k].unsuccessful ∧
      tn.h0.extractLsb' 0 3 = (match f.kind with
        | .join => if s.cold then 1#3 else 0#3
        | .notice => BitVec.ofNat 3 (f.payload.length - 1)
        | _ => 0#3) ∧
      tn.h1 = some f.h1 ∧ tn.bound = none ∧ tn.outcome = none ∧ t.pinLd = tn.h0 ∧
      t.pinValid = some (!s.link.valid) ∧ (s.link.taken = .follows → t.pinTaken = !s.link.valid) ∧
      t.tracker.pointer = k + 1 ∧
      (∀ j : SlotIx, t.tracker.slots[j] = if j = k then
        { s.tracker.slots[k] with phase := .link, tenures := min 31 (s.tracker.slots[k].tenures + 1) }
        else s.tracker.slots[j]) ∧
      t = (s.setTracker t.tracker).setLink t.link

/-- A request word this node does not win. With a lower bit in it, or no bid of its own, the participant awaits the
winner's header and changes nothing else (R78). An empty word clears the inhibit flag of every participant: one with a
frame ready opens another word with the others and bids in it, one without releases LBUSY and goes by what the others
do (R79, R80). The operand `next` is the model's (log entry 24). That a node that did not bid, though its own ID is
the lowest bit, does not win is the model's deduction (log entry 17). -/
def Obligations.RequestWordNotWon : Prop :=
  ∀ (s : State) (next : AfterEmpty), s.por = false → s.link.phase = .arbitrate → s.link.wordOpen = true →
    let limit := max 1 s.timing.handshake.toNat
    let l := { s.link with inhibit := false, bidding := false, wordOpen := false }
    (∀ (ld : Halfword) (i : Fin 16), ld.getLsbD i.val = true → (s.link.bidding = false ∨ i.val < s.nodeId.toNat) →
      exec (.requestWord ld next) s = .next (s.setLink { s.link with
        phase := .header
        bidding := false
        wordOpen := false
        wordIndex := 0
        sender := none
        tenure := none
        wait := some ⟨.nextWord, limit⟩ })) ∧
    (s.link.bidding = false → s.frameReady = true →
      exec (.requestWord 0 next) s = .next (s.setLink
        { l with
          wordOpen := true
          valid := !s.link.valid
          opener := true
          bidding := true
          wait := some ⟨.wordCompletion, limit⟩ })) ∧
    (s.link.bidding = false → s.frameReady = false →
      (next = .opens → exec (.requestWord 0 next) s = .next (s.setLink
        { l with wordOpen := true, valid := !s.link.valid, opener := false, wait := some ⟨.wordCompletion, limit⟩ })) ∧
      (next = .stalls → exec (.requestWord 0 next) s = .next (s.setLink
        { l with wait := some ⟨.nextRequest, limit⟩ })) ∧
      (next = .lbusyFalls → exec (.requestWord 0 next) s = .next (s.setLink { l with phase := .idle, wait := none })))

/-! ## Header and answers -/

/-- A packed H0 is read back field by field, and a kind code is undefined exactly when it is 0 or 9 to 15 (R47, R49 to
R52). -/
def Obligations.HeaderPacks : Prop :=
  (∀ (kind : Kind) (source : NodeId) (attempt : BitVec 5) (flags : BitVec 3),
    let h0 := packH0 kind source attempt flags
    kindOf h0 = some kind ∧ sourceOf h0 = source ∧ attemptOf h0 = attempt ∧ flagsOf h0 = flags
      ∧ coldOf h0 = flags.getLsbD 0 ∧ noticeLength h0 = flags.toNat + 1) ∧
  (∀ h0 : Halfword, kindOf h0 = none ↔
    (h0.extractLsb' 12 4).toNat = 0 ∨ 9 ≤ (h0.extractLsb' 12 4).toNat) ∧
  ∀ h0 : Halfword, ∀ k, kindOf h0 = some k → packH0 k (sourceOf h0) (attemptOf h0) (flagsOf h0) = h0

/-- H0 taken where it is awaited: it is kept and its completion awaited; an undefined kind counts one protocol error
(R49, R70, R71). Elsewhere nothing changes: the model's choice (log entry 7); but a node outside the tenure follows VALID
(R73). -/
def Obligations.H0Taken : Prop :=
  ∀ (s : State) (ld : Halfword), s.por = false →
    let l := { s.link with
      wordOpen := true
      valid := !s.link.valid
      tenure := some ⟨ld, none, none, quietLines, false, 0, quietLines, none, 0⟩
      wait := some ⟨.wordCompletion, max 1 s.timing.handshake.toNat⟩ }
    (s.awaitsHeader 0 = true → 1 ≤ (ld.extractLsb' 12 4).toNat → (ld.extractLsb' 12 4).toNat ≤ 8 →
      exec (.h0Taken ld) s = .next (s.setLink l)) ∧
    (s.awaitsHeader 0 = true → ((ld.extractLsb' 12 4).toNat = 0 ∨ 9 ≤ (ld.extractLsb' 12 4).toNat) →
      exec (.h0Taken ld) s = .next ((s.setLink l).setCompletion { s.completion with
        counters := { s.completion.counters with proto := satAdd s.completion.counters.proto 1 }
        latched := { s.completion.latched with linkErr := true } })) ∧
    (s.awaitsHeader 0 = false → s.link.outside = .nothing ∨ s.link.phase ≠ .idle ∨ s.link.wordOpen = true →
      exec (.h0Taken ld) s = .next s) ∧
    (s.link.phase = .idle → s.link.outside ≠ .nothing → s.link.wordOpen = false →
      exec (.h0Taken ld) s = .next (s.setLink { s.link with wordOpen := true, valid := !s.link.valid }))

/-- The home's answers, fixed as it takes H1 of another node's tenure naming its record: the table gathered from R7 to
R10, with the protocol error of a CLAIM on a LENT record; the record is bound and nothing else changes (R54, R55,
R138). -/
def Obligations.HomeAnswers : Prop :=
  ∀ (s : State) (ld : Halfword) (tn : Tenure) (k : Kind), s.por = false → s.awaitsHeader 1 = true →
    s.link.tenure = some tn → kindOf tn.h0 = some k → k.isVar = true →
    s.participation = .online ∨ s.participation = .draining →
    let v := h1Var ld
    let r := s.record v
    homeOf v = s.nodeId → sourceOf tn.h0 ≠ s.nodeId →
    let claimError := decide (k = .claim) && r.state.isLent
    let answers : RespLines :=
      { homeLine := true
        denyLine := decide ((r.guard = .privateAccess ∧ (k = .read ∨ k = .own ∨ k = .claim)) ∨
          (r.guard = .homeOnly ∧ (k = .own ∨ k = .claim)))
        retryLine := (s.held v && decide (k = .read ∨ k = .own ∨ k = .claim)) || claimError
        haveLine := decide (k = .read ∧ r.guard = .homeOnly)
        modLine := false }
    exec (.h1Taken ld) s = .next
      ((s.setLink { s.link with
          wordOpen := true
          valid := !s.link.valid
          tenure := some { tn with h1 := some ld, bound := some v, answers := answers, addressed := false }
          wait := some ⟨.wordCompletion, max 1 s.timing.handshake.toNat⟩ }).setCompletion
        (if claimError = true then
          { s.completion with
            counters := { s.completion.counters with proto := satAdd s.completion.counters.proto 1 }
            latched := { s.completion.latched with linkErr := true } }
        else s.completion))

/-- The answers of every other participant as it takes H1: a holder's from its entry, none from a NONE entry, from a
JOINING node and for NOTICE, JOIN and undefined kinds; a variable kind binds its variable, and a NOTICE addresses a
full participant whose bit is set (R28, R54, R55, R7, R151, R53). -/
def Obligations.OtherAnswers : Prop :=
  ∀ (s : State) (ld : Halfword) (tn : Tenure), s.por = false → s.awaitsHeader 1 = true → s.link.tenure = some tn →
    let v := h1Var ld
    let after := fun (bound : Option VarNum) (answers : RespLines) (addressed : Bool) =>
      s.setLink { s.link with
        wordOpen := true
        valid := !s.link.valid
        tenure := some { tn with h1 := some ld, bound := bound, answers := answers, addressed := addressed }
        wait := some ⟨.wordCompletion, max 1 s.timing.handshake.toNat⟩ }
    (∀ k : Kind, kindOf tn.h0 = some k → k.isVar = true →
      (s.participation = .joining → exec (.h1Taken ld) s = .next (after (some v) quietLines false)) ∧
      (s.participation = .online ∨ s.participation = .draining → homeOf v ≠ s.nodeId →
        (s.entryOf v = none → exec (.h1Taken ld) s = .next (after (some v) quietLines false)) ∧
        ∀ i : EntryIx, s.entryOf v = some i →
          (s.copy.entries[i].state = .none → exec (.h1Taken ld) s = .next (after (some v) quietLines false)) ∧
          (s.copy.entries[i].state ≠ .none →
            exec (.h1Taken ld) s = .next (after (some v)
              { haveLine := true
                modLine := decide (s.copy.entries[i].state = .dirty)
                retryLine := s.held v && decide (k = .read ∨ k = .own ∨ k = .claim)
                homeLine := false
                denyLine := false } false)))) ∧
    (kindOf tn.h0 = some .notice →
      exec (.h1Taken ld) s = .next (after none quietLines
        (ld.getLsbD s.nodeId.toNat && decide (s.participation = .online ∨ s.participation = .draining)))) ∧
    (kindOf tn.h0 = some .join ∨ kindOf tn.h0 = none →
      exec (.h1Taken ld) s = .next (after none quietLines false))

/-- A header word completes as it was driven: after H0 the requester drives H1 and binds its variable, the others await
H1; after H1 the requester opens the response word, driving its present bit and its answers, a NOTICE's by a step of its own,
and the others await its opening, driving nothing. A requester that is the home answers HOME alone, any other nothing (R7,
R54 to R57, R74, R75, R86). The operand is joined by this node's own levels (log entry 9). -/
def Obligations.HeaderWordCompletes : Prop :=
  ∀ (s : State) (ld h1 : Halfword) (tn : Tenure), s.por = false → s.link.phase = .header → s.link.wordOpen = true →
    s.link.tenure = some tn →
    let limit := max 1 s.timing.handshake.toNat
    (s.link.wordIndex = 0 → s.link.sender.isSome = true → tn.h1 = some h1 → ld ||| tn.h0 = tn.h0 →
      ∃ (t : State) (tm : Tenure), exec (.wordComplete ld) s = .next t ∧
        t = s.setLink { s.link with
          wordIndex := 1, valid := !s.link.valid, tenure := some tm, wait := some ⟨.wordCompletion, limit⟩ } ∧
        tm.h0 = tn.h0 ∧ tm.h1 = some h1 ∧ tm.addressed = false ∧ t.pinLd = h1 ∧
        (∀ k, kindOf tn.h0 = some k → k.isVar = true → tm.bound = some (h1Var h1)) ∧
        (∀ k, kindOf tn.h0 = some k → k.isVar = true → homeOf (h1Var h1) ≠ s.nodeId → tm.answers = quietLines) ∧
        (∀ k, kindOf tn.h0 = some k → k.isVar = true → homeOf (h1Var h1) = s.nodeId → sourceOf tn.h0 = s.nodeId →
          s.participation = .online ∨ s.participation = .draining → tm.answers = { quietLines with homeLine := true }) ∧
        (∀ k, kindOf tn.h0 = some k → k.isVar = false → tm.answers = quietLines)) ∧
    (s.link.wordIndex = 0 → s.link.sender = none →
      exec (.wordComplete ld) s = .next (s.setLink { s.link with
        wordOpen := false, wordIndex := 1, wait := some ⟨.nextWord, limit⟩ })) ∧
    (s.link.wordIndex = 1 → tn.h1 = some h1 → s.link.sender = none →
      ∃ t, exec (.wordComplete ld) s = .next t ∧ t = s.setLink { s.link with
          phase := .response, wordOpen := false, wordIndex := 0, wait := some ⟨.nextWord, limit⟩ } ∧
        t.pinLines = quietLines ∧ t.pinLd = 0) ∧
    (s.link.wordIndex = 1 → tn.h1 = some h1 → s.link.sender.isSome = true → ld ||| h1 = h1 →
      (kindOf tn.h0 ≠ some .notice →
        ∃ t, exec (.wordComplete ld) s = .next t ∧ t = s.setLink { s.link with
            phase := .response, valid := !s.link.valid, wordIndex := 0, wait := some ⟨.wordCompletion, limit⟩ } ∧
          t.pinLines = tn.answers ∧ t.pinValid = some (!s.link.valid) ∧
          t.pinLd = (if s.participation = .online ∨ s.participation = .draining
            then 1#16 <<< s.nodeId.toNat else 0)) ∧
      (kindOf tn.h0 = some .notice →
        exec (.wordComplete ld) s = .next (s.setLink { s.link with
          phase := .response, wordOpen := false, wordIndex := 0, wait := none })))

/-! ## Response word -/

/-- The response word of a NOTICE opens: the response waits start, an addressed node reserves and takes or holds off by
the table of R153, every other takes (R87, R153, R76). Whether it takes the word or holds off, a participant drives its
present bit and its answers in it (R56, R57, R75). For another kind the event is this node's observation that the
response word has opened (R75, R86): the model's choice (log entry 32). -/
def Obligations.NoticeResponseOpens : Prop :=
  ∀ (s : State) (tn : Tenure), s.por = false → s.link.phase = .response → s.link.wordOpen = false →
    s.link.tenure = some tn →
    let drives := fun t : State => t.pinLines = tn.answers ∧
      t.pinLd = (if s.participation = .online ∨ s.participation = .draining then 1#16 <<< s.nodeId.toNat else 0)
    (kindOf tn.h0 ≠ some .notice → ∃ t, exec .noticeResponseOpen s = .next t ∧ t = s.setLink { s.link with
        wordOpen := true, valid := !s.link.valid, wait := some ⟨.wordCompletion, max 1 s.timing.handshake.toNat⟩ } ∧
      drives t) ∧
    (kindOf tn.h0 = some .notice → s.notices.reserved = false →
      let limit := if s.link.sender.isSome then max 1 s.timing.noticeWait.toNat * 1000
        else max 1 s.timing.noticeWait.toNat * 1000 + max 1 s.timing.handshake.toNat
      let after := fun (reserved : Bool) (taken : TakenPin) =>
        (s.setNotices { s.notices with reserved := reserved }).setLink { s.link with
          wordOpen := true, valid := !s.link.valid, taken := taken, wait := some ⟨.noticeResponse, limit⟩ }
      (∀ t, exec .noticeResponseOpen s = .next t → drives t) ∧
      (tn.addressed = false → exec .noticeResponseOpen s = .next (after false .follows)) ∧
      (tn.addressed = true → s.notices.inbound.length < 16 → s.control.npause = false →
        exec .noticeResponseOpen s = .next (after true .follows)) ∧
      (tn.addressed = true → s.notices.inbound.length < 16 → s.control.npause = true →
        exec .noticeResponseOpen s = .next (after true .withheld)) ∧
      (tn.addressed = true → 16 ≤ s.notices.inbound.length →
        exec .noticeResponseOpen s = .next (after false .withheld)))

/-- The response word completes: every participant takes the same mask and lines, resolves the outcome in the order of
R58, writes the roster with its cause (R84), and goes to DATA or CLOSE by the length of R61 and R62. A joiner that
finds its own bit is the case of DuplicateIdEndsJoin. The operands are joined by this node's own levels (log entry 9), and
where its opening was not seen before it is seen with the completion (log entry 32). -/
def Obligations.ResponseLatched : Prop :=
  ∀ (s : State) (present : NodeMask) (lines : RespLines) (tn : Tenure) (h1 : Halfword), s.por = false →
    s.link.phase = .response → s.link.wordOpen = true ∨ kindOf tn.h0 ≠ some .notice → s.link.taken ≠ .withheld →
    s.link.tenure = some tn → tn.h1 = some h1 →
    let mask := present ||| (if s.participation = .online ∨ s.participation = .draining
      then 1#16 <<< s.nodeId.toNat else 0)
    ¬ (s.link.sender.isSome = true ∧ kindOf tn.h0 = some .join ∧ mask.getLsbD s.nodeId.toNat = true) →
    let all := orLines lines tn.answers
    let isVar := (kindOf tn.h0).any Kind.isVar
    let outcome : TenureOutcome :=
      if all.retryLine then .retried else if isVar && !all.homeLine then .noHome
      else if all.denyLine then .denied else .committed
    let fetch := if all.modLine = false ∧ homeOf (h1Var h1) = sourceOf tn.h0 then 0 else 8
    let length := if outcome ≠ .committed then 0 else match kindOf tn.h0 with
      | some .read => fetch
      | some .own => fetch
      | some .writeback => 8
      | some .notice => (tn.h0.extractLsb' 0 3).toNat + 1
      | _ => 0
    ∃ t, exec (.responseWord present lines) s = .next t ∧ t.link.roster = mask ∧
      t.completion = { s.completion with latched :=
        { s.completion.latched with roster := s.completion.latched.roster || decide (s.link.roster ≠ mask) } } ∧
      t.link.tenure = some { tn with present := mask, lines := all, outcome := some outcome, dataLength := length } ∧
      t.link.phase = (if 0 < length then .data else .close) ∧ t.link.sender = s.link.sender ∧
      t.link.inhibit = s.link.inhibit ∧ t = (s.setCompletion t.completion).setLink t.link

/-- A joiner finds its own bit in its JOIN's response word, or a header word that differs from the one it drove: it
pulses LCLR, the JOIN ends DUPLICATE-ID with the tenures it sent, the node goes OFFLINE with its cold flag and
CNT-RETRY as they were, and the clear is counted (R184, R185, R91, R93). The operands are joined by this node's own
levels (log entry 9). -/
def Obligations.DuplicateIdEndsJoin : Prop :=
  ∀ (s : State) (k : SlotIx) (c : Command) (tn : Tenure) (h1 : Halfword), s.sendingAlone k c → c.body = .join →
    (∀ i : EntryIx, s.copy.entries[i].reservedBy = none) → s.link.tenure = some tn → kindOf tn.h0 = some .join →
    tn.h1 = some h1 → s.link.wordOpen = true →
    let ends := fun (i : Instr) (roster : NodeMask) (rosterBit : Bool) =>
      ∃ t, exec i s = .next t ∧ t.participation = .offline ∧ t.cold = s.cold ∧ t.nodeId = s.nodeId ∧
        t.completion.queue =
          s.completion.queue ++ [⟨c.tag, .join, .absent, .duplicateId, s.tracker.slots[k].tenures, none, none⟩] ∧
        t.completion.free = s.completion.free ∧
        t.completion.counters = { s.completion.counters with clear := satAdd s.completion.counters.clear 1 } ∧
        t.completion.latched =
          { s.completion.latched with linkErr := true, roster := s.completion.latched.roster || rosterBit } ∧
        (∀ j : SlotIx, t.tracker.slots[j] = Slot.idle) ∧ t.link.phase = .clear ∧ t.link.pulse = 2 ∧ t.pinLclr = true ∧
        t.link.inhibit = false ∧ t.link.tenure = none ∧ t.link.roster = roster ∧ t.home.records = s.home.records ∧
        t.copy.entries = s.copy.entries ∧ t.holds = s.holds ∧ t.notices.inbound = s.notices.inbound
    (∀ (present : NodeMask) (lines : RespLines), s.link.phase = .response → s.link.taken ≠ .withheld →
      s.participation = .joining → present.getLsbD s.nodeId.toNat = true →
      ends (.responseWord present lines) present (s.link.roster != present)) ∧
    (∀ ld : Halfword, s.link.phase = .header →
      (s.link.wordIndex = 0 ∧ ld ||| tn.h0 ≠ tn.h0) ∨ (s.link.wordIndex = 1 ∧ ld ||| h1 ≠ h1) →
      ends (.wordComplete ld) s.link.roster false)

/-! ## Data and the end of a tenure -/

/-- What this node drives in the data phase, halfword by halfword: the home its record's value where no MOD came, the
MOD asserter and the requester of a WRITEBACK the entry's value, the requester of a NOTICE its payload, every other
node nothing; and after each word the next one opens or is awaited, after the last the tenure closes (R11, R29, R36,
R61 to R63, R82, R86). -/
def Obligations.DataWordsSent : Prop :=
  ∀ (s : State) (ld h1 : Halfword) (tn : Tenure) (k : Kind) (i : Fin 8), s.por = false → s.link.phase = .data →
    s.link.wordOpen = true → s.link.tenure = some tn → tn.h1 = some h1 → kindOf tn.h0 = some k →
    s.link.wordIndex = i.val →
    let v := h1Var h1
    let limit := max 1 s.timing.handshake.toNat
    (k = .read ∨ k = .own → s.link.sender = none →
      (tn.lines.modLine = false → tn.answers.homeLine = true →
        s.pinLd = (s.record v).value[i] ∧ s.drivesValid = true) ∧
      (tn.lines.modLine = true → tn.answers.modLine = true → ∀ e : EntryIx, s.entryOf v = some e →
        s.pinLd = (s.copy.entries[e].value)[i] ∧ s.drivesValid = true) ∧
      (tn.answers.homeLine = false → tn.answers.modLine = false → s.pinLd = 0 ∧ s.drivesValid = false) ∧
      (tn.lines.modLine = true → tn.answers.modLine = false → s.pinLd = 0 ∧ s.drivesValid = false)) ∧
    (k = .writeback → s.link.sender.isSome = true → ∀ e : EntryIx, s.entryOf v = some e →
      s.pinLd = (s.copy.entries[e].value)[i] ∧ s.drivesValid = true) ∧
    (k = .notice → ∀ (j : SlotIx) (f : Frame) (w : Halfword), s.link.sender = some j →
      s.tracker.slots[j].frame = some f → f.payload[i.val]? = some w → s.pinLd = w ∧ s.drivesValid = true) ∧
    (k = .writeback ∨ k = .notice → s.link.sender = none → s.pinLd = 0 ∧ s.drivesValid = false) ∧
    (i.val + 1 < tn.dataLength →
      exec (.wordComplete ld) s = .next (s.setLink { s.link with
        wordIndex := i.val + 1
        wordOpen := s.drivesValid
        valid := s.link.valid != s.drivesValid
        wait := some ⟨if s.drivesValid = true then .wordCompletion else .nextWord, limit⟩ })) ∧
    (tn.dataLength ≤ i.val + 1 →
      exec (.wordComplete ld) s = .next (s.setLink { s.link with
        phase := .close
        wordOpen := false
        wait := if s.link.sender.isSome = true then none else some ⟨.tenureEnd, limit⟩ }))

/-- A data word taken where it is awaited: the home keeps it only in the cases of R12, the requester in its receive
buffer (R33), an addressed node in its notice buffer (R156); every other participant discards it (R63, R64). -/
def Obligations.DataWordKept : Prop :=
  ∀ (s : State) (ld h1 : Halfword) (tn : Tenure), s.por = false → s.link.phase = .data → s.link.wordOpen = false →
    s.dataSource = none → s.link.tenure = some tn → tn.h1 = some h1 →
    let taken := s.setLink { s.link with
      wordOpen := true, valid := !s.link.valid, wait := some ⟨.wordCompletion, max 1 s.timing.handshake.toNat⟩ }
    let v := h1Var h1
    (∀ k, kindOf tn.h0 = some k → k.isVar = true →
      (homeOf v = s.nodeId →
        (((k = .read ∨ k = .own) ∧ tn.lines.modLine = true ∧
            ∃ l : NodeId, (s.record v).state = .lent l ∧ tn.present.getLsbD l.toNat = true) ∨
          (k = .writeback ∧ (s.record v).state = .lent (sourceOf tn.h0)) →
          exec (.dataWord ld) s = .next (taken.setHome { s.home with capture := s.home.capture ++ [ld] })) ∧
        (¬ (((k = .read ∨ k = .own) ∧ tn.lines.modLine = true ∧
            ∃ l : NodeId, (s.record v).state = .lent l ∧ tn.present.getLsbD l.toNat = true) ∨
          (k = .writeback ∧ (s.record v).state = .lent (sourceOf tn.h0))) →
          exec (.dataWord ld) s = .next taken)) ∧
      (homeOf v ≠ s.nodeId →
        (s.link.sender.isSome = true →
          exec (.dataWord ld) s = .next (taken.setCopy { s.copy with receive := s.copy.receive ++ [ld] })) ∧
        (s.link.sender = none → exec (.dataWord ld) s = .next taken))) ∧
    (kindOf tn.h0 = some .notice →
      (tn.addressed = true →
        exec (.dataWord ld) s = .next (taken.setNotices { s.notices with buffer := s.notices.buffer ++ [ld] })) ∧
      (tn.addressed = false → exec (.dataWord ld) s = .next taken))

/-- The commit of another node's tenure at the home: lender-absent reclaim, then the captured value, then the state
change of the kind, with the protocol errors of R16 and R17; every other record, the guard and every copy entry stay (R12
to R17, R65 to R67). With the slots resting nothing else changes. A lone slot whose command names the record, in SEND
where the commit changed it or waiting on its binding, plans again from the record as committed (R122, R117): a LOAD ends
locally on QUIET or SHARED and sends READ on LENT; STORE, SWAP and HOLD send PURGE on SHARED and OWN on LENT (R118). A
CLAIM that commits on a LENT record leaves it, and words captured for a lender since reclaimed are dropped: the model's
deductions (log entry 22); a capture of fewer than eight words reads as zeros beyond them (log entry 23). -/
def Obligations.HomeCommits : Prop :=
  ∀ (s : State) (tn : Tenure) (h1 : Halfword) (k : Kind), s.homeCanonical →
    s.participation = .online ∨ s.participation = .draining → s.link.phase = .close → s.link.sender = none →
    s.link.tenure = some tn → tn.h1 = some h1 → tn.outcome = some .committed → kindOf tn.h0 = some k → k.isVar = true →
    let v := h1Var h1
    let source := sourceOf tn.h0
    homeOf v = s.nodeId → source ≠ s.nodeId →
    let r := s.record v
    let absent := match r.state with
      | .lent l => !tn.present.getLsbD l.toNat
      | _ => false
    let state0 : HomeState := if absent then .quiet else r.state
    let error := match k with
      | .writeback => decide (state0 ≠ .lent source)
      | .giveBack => decide (state0 ≠ .lent source)
      | .purge => true
      | _ => false
    let state1 : HomeState := match k with
      | .read => if tn.lines.haveLine = false ∧ tn.lines.modLine = false then .lent source else .shared
      | .own => .lent source
      | .claim => if state0.isLent then state0 else .lent source
      | .writeback => if state0 = .lent source then .quiet else state0
      | .giveBack => if state0 = .lent source then .quiet else state0
      | _ => state0
    let value := if s.home.capture = [] ∨ (k = .writeback ∧ state0 ≠ .lent source) then r.value
      else Vector.ofFn fun i => s.home.capture.getD i.val 0
    let commits := fun (t : State) (posted : List Completion) (slots : Vector Slot 4) =>
      exec .tenureEnd s = .next t ∧ t.record v = ⟨value, state1, r.guard⟩ ∧
      (∀ w : VarNum, indexOf w ≠ indexOf v → t.record w = s.record w) ∧ t.home.capture = [] ∧
      t.copy = { s.copy with receive := [] } ∧ t.tracker = { s.tracker with slots := slots } ∧ t.holds = s.holds ∧
      t.notices = { s.notices with reserved := false, buffer := [] } ∧
      t.completion.queue = s.completion.queue ++ posted ∧ t.completion.free = s.completion.free ∧
      t.completion.counters = { s.completion.counters with
        reclaim := if absent then satAdd s.completion.counters.reclaim 1 else s.completion.counters.reclaim
        proto := if error then satAdd s.completion.counters.proto 1 else s.completion.counters.proto } ∧
      t.completion.latched = { s.completion.latched with
        reclaim := s.completion.latched.reclaim || absent
        linkErr := s.completion.latched.linkErr || error } ∧
      t.link.phase = .idle ∧ t.boundVar = none ∧ t.link.roster = s.link.roster ∧ t.link.inhibit = s.link.inhibit ∧
      t.participation = s.participation ∧ t.port = s.port ∧ t.timing = s.timing ∧ t.control = s.control
        ∧ t.nodeId = s.nodeId ∧ t.cold = s.cold
    (s.atRest → ∃ t, commits t [] s.tracker.slots) ∧
    ∀ (j : SlotIx) (c : Command), s.planningAlone j c → (∀ i : EntryIx, s.copy.entries[i].reservedBy = none) →
      c.body.var? = some v → (s.tracker.slots[j].phase = .send → (⟨value, state1, r.guard⟩ : HomeRecord) ≠ r) →
      let x := s.tracker.slots[j]
      let sends := fun kind : Kind => s.tracker.slots.set j
        { x with phase := .send, frame := some ⟨kind, v.setWidth 16, []⟩, waiting := none }
      (c.body = .load v → state1.isLent = false →
        ∃ t, commits t [⟨c.tag, .load, .var v, .ok, x.tenures, some value, none⟩] (s.tracker.slots.set j Slot.idle)) ∧
      (c.body = .load v → state1.isLent = true → ∃ t, commits t [] (sends .read)) ∧
      (c.body.code = .store ∨ c.body.code = .swap ∨ c.body.code = .hold →
        (state1 = .shared → ∃ t, commits t [] (sends .purge)) ∧
        (state1.isLent = true → ∃ t, commits t [] (sends .own)))

/-- The commit of another node's tenure at a participant that is not the home: the entry tagged with the variable changes
by R30 and R31, every other entry, its rank and the home store stay, and nothing is counted. A lone slot that depends on
the entry plans again (R122): a STORE, SWAP or HOLD whose COPY is gone fetches by OWN into it, the lowest entry free; a
RELEASE ends OK, a COPY left to it dropped; a slot whose victim became COPY or NONE takes it in fetch form and sends its
READ or OWN (R26, R42). -/
def Obligations.HolderCommits : Prop :=
  ∀ (s : State) (tn : Tenure) (h1 : Halfword) (k : Kind),
    s.participation = .online ∨ s.participation = .draining → s.link.phase = .close → s.link.sender = none →
    s.link.tenure = some tn → tn.h1 = some h1 → tn.outcome = some .committed → kindOf tn.h0 = some k → k.isVar = true →
    let v := h1Var h1
    homeOf v ≠ s.nodeId →
    let change := fun e : CopyEntry => match k with
      | .read => if e.state = .owned ∨ e.state = .dirty then { e with state := .copy } else e
      | .own => { e with state := .none, tag := none }
      | .claim => { e with state := .none, tag := none }
      | .purge => if sourceOf tn.h0 = homeOf v ∧ e.state = .copy then { e with state := .none, tag := none } else e
      | _ => e
    let commits := fun (t : State) (entry : EntryIx → CopyEntry) (posted : List Completion) (slots : Vector Slot 4) =>
      exec .tenureEnd s = .next t ∧ (∀ i : EntryIx, t.copy.entries[i] = entry i) ∧
      t.copy.receive = [] ∧ t.home = { s.home with capture := [] } ∧
      t.completion = { s.completion with queue := s.completion.queue ++ posted } ∧
      t.tracker = { s.tracker with slots := slots } ∧ t.holds = s.holds ∧
      t.notices = { s.notices with reserved := false, buffer := [] } ∧
      t.link.phase = .idle ∧ t.boundVar = none ∧ t.link.roster = s.link.roster ∧ t.participation = s.participation
        ∧ t.port = s.port
    (s.atRest →
      ∃ t, commits t (fun i => if s.entryOf v = some i ∧ s.copy.entries[i].state ≠ .none then change s.copy.entries[i]
        else s.copy.entries[i]) [] s.tracker.slots) ∧
    ∀ (j : SlotIx) (c : Command) (i : EntryIx), s.planningAlone j c → s.entryOf v = some i →
      let x := s.tracker.slots[j]
      let e := s.copy.entries[i]
      let becomes := fun (e1 : CopyEntry) (m : EntryIx) => if m = i then e1 else s.copy.entries[m]
      let sends := fun kind w => s.tracker.slots.set j
        { x with phase := .send, frame := some ⟨kind, w, []⟩, waiting := none, entry := some i, victim := none }
      ((∀ m : EntryIx, s.copy.entries[m].reservedBy = none) → x.victim = none → c.body.var? = some v → e.state = .copy →
        c.body.code = .store ∨ c.body.code = .swap ∨ c.body.code = .hold →
        (∀ m : EntryIx, s.copy.entries[m].tag = some v → m = i) →
        (∀ m : EntryIx, m < i → s.copy.entries[m].state ≠ .none) →
        k = .own ∨ k = .claim ∨ (k = .purge ∧ sourceOf tn.h0 = homeOf v) →
        ∃ t, commits t (becomes { e with state := .none, tag := some v, reservedBy := some j }) []
          (sends .own (v.setWidth 16))) ∧
      ((∀ m : EntryIx, s.copy.entries[m].reservedBy = none) → c.body = .release v → s.held v = false →
        e.state = .owned ∨ e.state = .dirty → (∀ m : EntryIx, s.copy.entries[m].tag = some v → m = i) →
        k = .read ∨ k = .own ∨ k = .claim →
        ∃ t, commits t (becomes { e with state := .none, tag := none })
          [⟨c.tag, .release, .var v, .ok, x.tenures, none, none⟩] (s.tracker.slots.set j Slot.idle)) ∧
      ∀ w : VarNum, c.body.var? = some w → c.body.code.needsEntry → homeOf w ≠ s.nodeId →
        (∀ m : EntryIx, s.copy.entries[m].tag ≠ some w) → x.victim = some i → e.reservedBy = some j →
        e.state = .owned ∨ e.state = .dirty → k = .read ∨ k = .own ∨ k = .claim →
        ∃ t, commits t (becomes { e with state := .none, tag := some w }) [] (sends (fetchFor c) (w.setWidth 16))

/-- The commit of this node's own tenure. A fetched entry takes its grant and the received words, a claimed one becomes
OWNED as it is; the command is then applied to it and the entry takes rank 0 (R33 to R35, R27). WRITEBACK and RETURN leave
the entry NONE: a RELEASE ends OK, and a victim becomes its slot's entry in fetch form, for which the READ or OWN is sent
(R36, R123); a FLUSH or LEAVE goes on to the next entry it may offer, waits for holds, or ends (R127, R187, R188, R190,
R192). At the home, after lender-absent reclaim and the captured value, READ leaves SHARED, OWN and PURGE leave
QUIET, and the command is applied to the record (R13 to R15, R17, R19, R21). A command applied ends with the tenures it
sent (R127, R132). A buffer of fewer than eight words reads as zeros beyond them (log entry 23). -/
def Obligations.RequesterReadCommits : Prop :=
  ∀ (s : State) (k : SlotIx) (c : Command) (tn : Tenure) (v : VarNum), s.sendingAlone k c →
    s.participation = .online ∨ s.participation = .draining → s.link.phase = .close → s.link.tenure = some tn →
    tn.h1 = some (v.setWidth 16) → tn.outcome = some .committed →
    let x := s.tracker.slots[k]
    let keeps := fun t : State =>
      exec .tenureEnd s = .next t ∧ t.tracker.pointer = s.tracker.pointer ∧ t.copy.receive = [] ∧ t.home.capture = [] ∧
      t.link.phase = .idle ∧ t.boundVar = none
    let around := fun (t : State) (holds : Vector (Option HoldRecord) 4) =>
      keeps t ∧ t.holds = holds ∧ t.participation = s.participation
    let ends := fun (t : State) (status : Status) (value : Option Value) (spare : Nat) =>
      (∀ j : SlotIx, t.tracker.slots[j] = Slot.idle) ∧ t.completion.free = s.completion.free + spare ∧
      t.completion.queue =
        s.completion.queue ++ [⟨c.tag, c.body.code, .var v, status, x.tenures, value, none⟩]
    (homeOf v ≠ s.nodeId → ∀ i : EntryIx, (∀ j : EntryIx, j ≠ i → s.copy.entries[j].reservedBy = none) →
      let e := s.copy.entries[i]
      let words : Value := Vector.ofFn fun j => s.copy.receive.getD j.val 0
      let fetched := x.entry = some i ∧ x.victim = none ∧ e.state = .none ∧ e.tag = some v ∧ e.reservedBy = some k
      let claimed := s.entryOf v = some i ∧ e.state = .copy ∧ e.reservedBy = none
      let takes := fun (st : CopyState) (value : Value) (status : Status) (posted : Option Value) (spare : Nat)
          (holds : Vector (Option HoldRecord) 4) =>
        ∃ t, around t holds ∧ ends t status posted spare ∧ t.home.records = s.home.records ∧
          t.completion.counters = s.completion.counters ∧ t.completion.latched = s.completion.latched ∧
          ∀ j : EntryIx, t.copy.entries[j] = if j = i then ⟨st, some v, value, 0, none⟩
            else { s.copy.entries[j] with
              age := if s.copy.entries[j].age < e.age then s.copy.entries[j].age + 1 else s.copy.entries[j].age }
      let applies := fun base : Value =>
        (∀ (mask : BitVec 8) (payload : Value), c.body = .store v mask payload →
          takes .dirty (Vector.ofFn fun j => if mask.getLsbD j.val then payload[j] else base[j]) .ok none 0 s.holds) ∧
        (∀ (compare : BitVec 32) (payload : Value), c.body = .swap v compare payload →
          (base[1] ++ base[0] = compare → takes .dirty payload .ok none 0 s.holds) ∧
          (base[1] ++ base[0] ≠ compare → takes .owned base .mismatch (some base) 0 s.holds)) ∧
        (∀ d : BitVec 8, c.body = .hold v d → s.held v = false →
          (s.freeHold = none → takes .owned base .holdFull none 1 s.holds) ∧
          ∀ r : HoldIx, s.freeHold = some r →
            takes .owned base .ok none 0 (s.holds.set r (some ⟨v, c.tag, d.toNat, 0⟩)))
      (fetched → kindOf tn.h0 = some .read → c.body = .load v →
        takes (if tn.lines.haveLine = false ∧ tn.lines.modLine = false then .owned else .copy) words .ok (some words) 0
          s.holds) ∧
      (fetched → kindOf tn.h0 = some .own → applies words) ∧
      (claimed → kindOf tn.h0 = some .claim → applies e.value) ∧
      (s.entryOf v = some i → e.state = .owned ∨ e.state = .dirty →
        kindOf tn.h0 = some .writeback ∨ kindOf tn.h0 = some .giveBack →
        (c.body = .release v → e.reservedBy = none →
          ∃ t, around t s.holds ∧ ends t .ok none 0 ∧
            ∀ j : EntryIx, t.copy.entries[j] = if j = i then { e with state := .none, tag := none }
              else s.copy.entries[j]) ∧
        ∀ w : VarNum, c.body.var? = some w → c.body.code.needsEntry → homeOf w ≠ s.nodeId →
          (∀ j : EntryIx, s.copy.entries[j].tag ≠ some w) → x.victim = some i → e.reservedBy = some k →
          ∃ t, around t s.holds ∧ t.completion = s.completion ∧
            t.tracker.slots = s.tracker.slots.set k { x with
              phase := .send
              frame := some ⟨fetchFor c, w.setWidth 16, []⟩
              waiting := none
              entry := some i
              victim := none } ∧
            ∀ j : EntryIx, t.copy.entries[j] = if j = i then { e with state := .none, tag := some w }
              else s.copy.entries[j]) ∧
      (s.entryOf v = some i → e.state = .owned ∨ e.state = .dirty → e.reservedBy = none →
        kindOf tn.h0 = some .writeback ∨ kindOf tn.h0 = some .giveBack → c.body = .flush ∨ c.body = .leave →
        let left := fun j : EntryIx => decide (j ≠ i) && (s.copy.entries[j].state == .owned
          || s.copy.entries[j].state == .dirty)
        let stranded := x.stranded.filter left
        let offered := fun j : EntryIx => left j && !stranded.contains j
          && (s.copy.entries[j].tag).any fun w => (List.finRange 4).all fun r => (s.holds[r]).all fun h => h.var != w
        let table := fun j : EntryIx => if j = i ∨ s.copy.entries[j].state = .copy then
          { s.copy.entries[j] with state := .none, tag := none } else s.copy.entries[j]
        let goesOn := fun y : Slot => ∃ t, around t s.holds ∧ t.completion = s.completion ∧
          t.home.records = s.home.records ∧ t.tracker.slots = s.tracker.slots.set k { y with stranded := stranded } ∧
          ∀ j : EntryIx, t.copy.entries[j] = table j
        (∀ (j : EntryIx) (w : VarNum), offered j = true → (∀ m : EntryIx, m < j → offered m = false) →
          s.copy.entries[j].tag = some w →
          goesOn { x with
            phase := .send
            frame := some
              ⟨if s.copy.entries[j].state = .dirty then .writeback else .giveBack, w.setWidth 16, []⟩
            waiting := none
            entry := some j }) ∧
        ((∀ j : EntryIx, offered j = false) →
          (∀ r : HoldIx, s.holds[r] ≠ none →
            goesOn { x with phase := .plan, frame := none, waiting := some .holds, entry := none }) ∧
          ((∀ r : HoldIx, s.holds[r] = none) →
            (c.body = .flush → ∃ t, around t s.holds ∧ t.home.records = s.home.records ∧
              (∀ j : SlotIx, t.tracker.slots[j] = Slot.idle) ∧ (∀ j : EntryIx, t.copy.entries[j] = table j) ∧
              t.completion = { s.completion with queue := s.completion.queue ++
                [⟨c.tag, .flush, .absent, if stranded = [] then .ok else .noHome, x.tenures, none, none⟩] }) ∧
            (c.body = .leave → ∃ t, keeps t ∧ t.participation = .offline ∧ t.home.records = s.home.records ∧
              (∀ j : SlotIx, t.tracker.slots[j] = Slot.idle) ∧ t.holds = s.holds ∧
              (∀ j : EntryIx, t.copy.entries[j] = if stranded.contains j = true then
                { s.copy.entries[j] with state := .none, tag := none } else table j) ∧
              t.completion.free = s.completion.free ∧
              t.completion.queue =
                s.completion.queue ++ [⟨c.tag, .leave, .absent, .ok, x.tenures, none, none⟩] ∧
              t.completion.counters = { s.completion.counters with
                discard := satAdd s.completion.counters.discard
                  ((List.finRange 32).countP fun j => stranded.contains j) }))))) ∧
    (homeOf v = s.nodeId → s.homeCanonical → sourceOf tn.h0 = s.nodeId →
      (∀ j : EntryIx, s.copy.entries[j].reservedBy = none) →
      let r := s.record v
      let absent := match r.state with
        | .lent l => !tn.present.getLsbD l.toNat
        | _ => false
      let base : Value := if s.home.capture = [] then r.value else Vector.ofFn fun j => s.home.capture.getD j.val 0
      let leaves := fun (st : HomeState) (g : Guard) (value : Value) (status : Status) (posted : Option Value)
          (spare : Nat) (holds : Vector (Option HoldRecord) 4) =>
        ∃ t, around t holds ∧ ends t status posted spare ∧ t.record v = ⟨value, st, g⟩ ∧
          (∀ w : VarNum, indexOf w ≠ indexOf v → t.record w = s.record w) ∧ t.copy.entries = s.copy.entries ∧
          t.completion.counters = { s.completion.counters with
            reclaim := if absent then satAdd s.completion.counters.reclaim 1 else s.completion.counters.reclaim } ∧
          t.completion.latched = { s.completion.latched with reclaim := s.completion.latched.reclaim || absent }
      (kindOf tn.h0 = some .read → r.state.isLent = true → c.body = .load v →
        leaves (if absent then .quiet else .shared) r.guard base .ok (some base) 0 s.holds) ∧
      (kindOf tn.h0 = some .own ∨ (kindOf tn.h0 = some .purge ∧ r.state.isLent = false) →
        (∀ (mask : BitVec 8) (payload : Value), c.body = .store v mask payload →
          leaves .quiet r.guard (Vector.ofFn fun j => if mask.getLsbD j.val then payload[j] else base[j]) .ok none 0
            s.holds) ∧
        (∀ (compare : BitVec 32) (payload : Value), c.body = .swap v compare payload →
          (base[1] ++ base[0] = compare → leaves .quiet r.guard payload .ok none 0 s.holds) ∧
          (base[1] ++ base[0] ≠ compare → leaves .quiet r.guard base .mismatch (some base) 0 s.holds)) ∧
        (∀ d : BitVec 8, c.body = .hold v d → s.held v = false →
          (s.freeHold = none → leaves .quiet r.guard base .holdFull none 1 s.holds) ∧
          ∀ h : HoldIx, s.freeHold = some h →
            leaves .quiet r.guard base .ok none 0 (s.holds.set h (some ⟨v, c.tag, d.toNat, 0⟩))) ∧
        ∀ level : Guard, c.body = .guard v level → leaves .quiet level base .ok none 0 s.holds))

/-- An unsuccessful attempt, by RETRIED at the tenure's end or by another node's clear: the count and CNT-RETRY rise
by one; below the retry limit the slot backs off for count times unit, keeping its reservation, and at the limit the
command ends RETRY-EXHAUSTED (R128, R129, R93, R37). -/
def Obligations.UnsuccessfulAttempt : Prop :=
  ∀ (s : State) (k : SlotIx) (c : Command) (tn : Tenure) (e : Instr), s.sendingAlone k c → s.link.tenure = some tn →
    (e = .tenureEnd ∧ s.link.phase = .close ∧ tn.outcome = some .retried) ∨
      (e = .linkClear ∧ s.inTenure = true) →
    let x := s.tracker.slots[k]
    let n := x.unsuccessful + 1
    let limit := max 1 s.timing.retryLimit.toNat
    let latched := if e = .linkClear then { s.completion.latched with linkErr := true } else s.completion.latched
    let counters := { s.completion.counters with
      retry := satAdd s.completion.counters.retry 1
      clear := if e = .linkClear then satAdd s.completion.counters.clear 1 else s.completion.counters.clear }
    ∃ t, exec e s = .next t ∧ t.completion.counters = counters ∧ t.completion.latched = latched ∧
      t.home.records = s.home.records ∧ t.holds = s.holds ∧ t.boundVar = none ∧ t.link.sender = none ∧
      t.home.capture = [] ∧ t.copy.receive = [] ∧
      (n < limit →
        t.tracker = { s.tracker with slots := s.tracker.slots.set k { x with
          phase := .backoff
          unsuccessful := n
          frame := none
          waiting := none
          backoff := n * max 1 s.timing.backoffUnit.toNat } } ∧
        t.copy.entries = s.copy.entries ∧ t.completion.queue = s.completion.queue ∧
        t.completion.free = s.completion.free ∧ t.participation = s.participation) ∧
      (limit ≤ n →
        (∀ j : SlotIx, t.tracker.slots[j] = Slot.idle) ∧
        t.completion.queue = s.completion.queue ++
          [⟨c.tag, c.body.code, c.body.subject, .retryExhausted, x.tenures, none, none⟩] ∧
        t.completion.free = s.completion.free + (c.body.credits - 1) ∧
        (∀ i : EntryIx, t.copy.entries[i].reservedBy = none) ∧
        t.participation = (match c.body with | .join => .offline | .leave => .online | _ => s.participation))

/-- The outcomes that end a command at once, the unsuccessful count and CNT-RETRY untouched: DENIED and the NO-HOME of
a main tenure at the tenure's end, LINK-TIMEOUT and NOTICE-TIMEOUT at this node's own expiry, which pulses LCLR (R130,
R131, R88, R87, R186, R193, R37). That an expiry acts whatever time the wait has left is the model's choice (log entry 3).
The NO-HOME of an eviction releases the victim as it was, and the slot takes a NONE entry or, with every home absent from
the roster, ends NO-ROOM (R43, R123). The NO-HOME of a FLUSH's give-back puts the entry on the stranded list, and the
FLUSH offers the next entry or, with none left, ends NO-HOME with the entry kept (R188, R190). -/
def Obligations.OutcomeEndsCommand : Prop :=
  (∀ (s : State) (k : SlotIx) (c : Command) (tn : Tenure) (e : Instr) (status : Status), s.sendingAlone k c →
    s.link.tenure = some tn →
    (e = .tenureEnd ∧ s.link.phase = .close ∧ tn.outcome = some .denied ∧ status = .denied) ∨
      (e = .tenureEnd ∧ s.link.phase = .close ∧ tn.outcome = some .noHome ∧ status = .noHome ∧
        s.tracker.slots[k].victim = none ∧ c.body ≠ .flush ∧ c.body ≠ .leave) ∨
      (e = .handshakeTimeout ∧ s.inTenure = true ∧ status = .linkTimeout ∧
        ∃ w, s.link.wait = some w ∧ w.kind ≠ .noticeResponse) ∨
      (e = .noticeWaitExpiry ∧ s.inTenure = true ∧ status = .noticeTimeout ∧
        ∃ w, s.link.wait = some w ∧ w.kind = .noticeResponse) →
    let own := e ≠ .tenureEnd
    ∃ t, exec e s = .next t ∧ (∀ j : SlotIx, t.tracker.slots[j] = Slot.idle) ∧
      t.completion.queue = s.completion.queue ++
        [⟨c.tag, c.body.code, c.body.subject, status, s.tracker.slots[k].tenures, none, none⟩] ∧
      t.completion.free = s.completion.free + (c.body.credits - 1) ∧
      (∀ i : EntryIx, t.copy.entries[i] = if s.copy.entries[i].reservedBy = some k then
        { s.copy.entries[i] with
          reservedBy := none
          tag := if s.copy.entries[i].state = .none then none else s.copy.entries[i].tag }
        else s.copy.entries[i]) ∧
      t.completion.counters = { s.completion.counters with
        clear := if own then satAdd s.completion.counters.clear 1 else s.completion.counters.clear } ∧
      t.completion.latched = { s.completion.latched with
        linkErr := s.completion.latched.linkErr || decide own } ∧
      t.link.phase = (if own then .clear else .idle) ∧ t.pinLclr = (decide own || s.link.pulse != 0) ∧
      t.boundVar = none ∧ t.home.records = s.home.records ∧ t.holds = s.holds ∧ t.cold = s.cold ∧
      t.participation = (match c.body with | .join => .offline | .leave => .online | _ => s.participation)) ∧
  ∀ (s : State) (k : SlotIx) (c : Command) (tn : Tenure) (i : EntryIx), s.sendingAlone k c → s.link.phase = .close →
    s.link.tenure = some tn → tn.outcome = some .noHome →
    s.copy.entries[i].state = .owned ∨ s.copy.entries[i].state = .dirty →
    let x := s.tracker.slots[k]
    let goesOn := fun (posted : List Completion) (slot : Slot) (entry : EntryIx → CopyEntry) =>
      ∃ t, exec .tenureEnd s = .next t ∧ t.tracker = { s.tracker with slots := s.tracker.slots.set k slot } ∧
        (∀ j : EntryIx, t.copy.entries[j] = entry j) ∧ t.home.records = s.home.records ∧ t.holds = s.holds ∧
        t.completion = { s.completion with
          queue := s.completion.queue ++ posted
          free := s.completion.free + (if posted = [] then 0 else c.body.credits - 1) } ∧
        t.link.phase = .idle ∧ t.participation = s.participation
    (∀ v : VarNum, c.body.var? = some v → c.body.code.needsEntry → homeOf v ≠ s.nodeId →
      (∀ j : EntryIx, s.copy.entries[j].tag ≠ some v) → x.victim = some i → s.copy.entries[i].reservedBy = some k →
      (∀ j : EntryIx, j ≠ i → s.copy.entries[j].reservedBy = none) →
      (∀ f : EntryIx, s.copy.entries[f].state = .none → (∀ j : EntryIx, j < f → s.copy.entries[j].state ≠ .none) →
        goesOn [] { x with
            phase := .send
            frame := some ⟨fetchFor c, v.setWidth 16, []⟩
            waiting := none
            entry := some f
            victim := none }
          fun j => if j = f then { s.copy.entries[f] with tag := some v, reservedBy := some k }
            else { s.copy.entries[j] with reservedBy := none }) ∧
      ((∀ j : EntryIx, s.copy.entries[j].state ≠ .none) →
        (∀ (j : EntryIx) (w : VarNum), s.copy.entries[j].tag = some w →
          s.link.roster.getLsbD (homeOf w).toNat = false) →
        goesOn [⟨c.tag, c.body.code, .var v, .noRoom, x.tenures, none, none⟩] Slot.idle
          fun j => { s.copy.entries[j] with reservedBy := none })) ∧
    (c.body = .flush → x.victim = none → x.entry = some i → x.stranded = [] → (∀ r : HoldIx, s.holds[r] = none) →
      (∀ j : EntryIx, s.copy.entries[j].reservedBy = none) → (∀ j : EntryIx, s.copy.entries[j].state ≠ .copy) →
      ((∀ j : EntryIx, j ≠ i → s.copy.entries[j].state = .none) →
        goesOn [⟨c.tag, .flush, .absent, .noHome, x.tenures, none, none⟩] Slot.idle fun j => s.copy.entries[j]) ∧
      ∀ (j : EntryIx) (w : VarNum), j ≠ i → s.copy.entries[j].state = .owned ∨ s.copy.entries[j].state = .dirty →
        s.copy.entries[j].tag = some w → (∀ m : EntryIx, m < j → m = i ∨ s.copy.entries[m].state = .none) →
        goesOn [] { x with
            phase := .send
            frame := some
              ⟨if s.copy.entries[j].state = .dirty then .writeback else .giveBack, w.setWidth 16, []⟩
            waiting := none
            entry := some j
            stranded := [i] }
          fun m => s.copy.entries[m])

/-- The commit of a NOTICE: an addressed node appends the received message in its reserved place; the sender's command
ends OK with the listener mask met with the present mask (R157, R159, R127). -/
def Obligations.NoticeCommits : Prop :=
  (∀ (s : State) (tn : Tenure), s.atRest → s.link.phase = .close → s.link.sender = none → s.link.tenure = some tn →
    kindOf tn.h0 = some .notice → tn.outcome = some .committed →
    ∃ t, exec .tenureEnd s = .next t ∧
      t.notices = ⟨if tn.addressed then s.notices.inbound ++ [⟨sourceOf tn.h0, s.notices.buffer⟩]
        else s.notices.inbound, false, []⟩ ∧
      t.home = { s.home with capture := [] } ∧ t.copy = { s.copy with receive := [] } ∧ t.tracker = s.tracker ∧
      t.holds = s.holds ∧ t.completion = s.completion ∧ t.link.phase = .idle ∧ t.participation = s.participation) ∧
  ∀ (s : State) (k : SlotIx) (c : Command) (tn : Tenure) (mask : NodeMask) (words : List Halfword),
    s.sendingAlone k c → c.body = .notice mask words → (∀ i : EntryIx, s.copy.entries[i].reservedBy = none) →
    s.link.phase = .close → s.link.tenure = some tn → kindOf tn.h0 = some .notice → tn.h1 = some mask →
    tn.addressed = false → tn.outcome = some .committed →
    ∃ t, exec .tenureEnd s = .next t ∧
      t.completion = { s.completion with queue := s.completion.queue ++
        [⟨c.tag, .notice, .listeners mask, .ok, s.tracker.slots[k].tenures, none, some (mask &&& tn.present)⟩] } ∧
      (∀ j : SlotIx, t.tracker.slots[j] = Slot.idle) ∧ t.home = { s.home with capture := [] } ∧
      t.copy.entries = s.copy.entries ∧ t.notices.inbound = s.notices.inbound ∧ t.link.phase = .idle

/-- The commit of a JOIN. At the joiner: ONLINE, the cold flag cleared, OK posted. At every other participant: each
record lent to the joiner becomes QUIET and is counted; if the JOIN is cold and the node ONLINE or DRAINING, each
entry homed at the joiner becomes NONE, OWNED and DIRTY ones counted, and a hold on one of these ends LOST, in rising
record number (R18, R32, R144, R183). -/
def Obligations.JoinCommits : Prop :=
  (∀ (s : State) (k : SlotIx) (c : Command) (tn : Tenure), s.sendingAlone k c → c.body = .join →
    (∀ i : EntryIx, s.copy.entries[i].reservedBy = none) → s.link.phase = .close → s.link.tenure = some tn →
    kindOf tn.h0 = some .join → tn.outcome = some .committed →
    ∃ t, exec .tenureEnd s = .next t ∧ t.participation = .online ∧ t.cold = false ∧
      t.completion = { s.completion with queue := s.completion.queue ++
        [⟨c.tag, .join, .absent, .ok, s.tracker.slots[k].tenures, none, none⟩] } ∧
      (∀ j : SlotIx, t.tracker.slots[j] = Slot.idle) ∧ t.home.records = s.home.records ∧
      t.link.roster = s.link.roster) ∧
  ∀ (s : State) (tn : Tenure), s.atRest → s.homeCanonical → s.link.phase = .close → s.link.sender = none →
    s.link.tenure = some tn → kindOf tn.h0 = some .join → tn.outcome = some .committed →
    let joiner := sourceOf tn.h0
    let drops := tn.h0.getLsbD 0 && decide (s.participation = .online ∨ s.participation = .draining)
    let atJoiner := fun i : EntryIx => drops && s.copy.entries[i].state != .none &&
      (match s.copy.entries[i].tag with | some v => homeOf v == joiner | none => false)
    let discarded := fun i : EntryIx =>
      atJoiner i && (s.copy.entries[i].state == .owned || s.copy.entries[i].state == .dirty)
    let lost := fun r : HoldIx => match s.holds[r] with
      | some h => if (List.finRange 32).any (fun i => discarded i && s.copy.entries[i].tag == some h.var) then
          some (⟨h.tag, .hold, .var h.var, .lost, 0, none, none⟩ : Completion) else none
      | none => none
    let nReclaim := s.home.records.countP fun p => p.2.state == .lent joiner
    let nDiscard := (List.finRange 32).countP discarded
    ∃ t, exec .tenureEnd s = .next t ∧
      (∀ i : Nat, homeRead t.home.records i = if (homeRead s.home.records i).state = .lent joiner then
        { homeRead s.home.records i with state := .quiet } else homeRead s.home.records i) ∧
      (∀ i : EntryIx, t.copy.entries[i] = if atJoiner i = true then
        { s.copy.entries[i] with state := .none, tag := none } else s.copy.entries[i]) ∧
      (∀ r : HoldIx, t.holds[r] = if (lost r).isSome then none else s.holds[r]) ∧
      t.completion.queue = s.completion.queue ++ (List.finRange 4).filterMap lost ∧
      t.completion.free = s.completion.free ∧
      t.completion.counters = { s.completion.counters with
        reclaim := satAdd s.completion.counters.reclaim nReclaim
        discard := satAdd s.completion.counters.discard nDiscard } ∧
      t.completion.latched = { s.completion.latched with
        reclaim := s.completion.latched.reclaim || nReclaim != 0
        discard := s.completion.latched.discard || nDiscard != 0 } ∧
      t.participation = s.participation ∧ t.cold = s.cold ∧ t.tracker = s.tracker ∧ t.link.phase = .idle

/-! ## Link clear, expiries -/

/-- A link clear at a node with no slot busy: a participant aborts what is in progress, clears its inhibit flag,
counts the clear and sets LINKERR, drops its buffers and its reservation, and keeps roster, records and entries; a
node outside counts nothing; the release of LCLR brings IDLE (R91, R92, R69, R81). A fall of LBUSY seen too early, and
a timeout of a participant that is not the requester, act as a clear this node pulses itself (R83, R88). That an
expiry with no wait running changes nothing, that one acts whatever time the wait has left, that the release of LCLR ends
this node's own pulse whatever time it has left, and the CLEAR phase of a node outside, are the model's choices (log
entries 7, 3, 3, 29). An assertion of LCLR while it is asserted belongs to the same
clear and counts nothing at a node in IDLE (R90, R92). At a node that takes no part, in POR or not, a fall of LBUSY between
the words of a phase without a winner ends the phase; any other loses what goes on, its clear to come. With no word open, or
once the open word completes, the link is idle at it and TAKEN follows VALID, a contribution that POR froze too (R79, R83,
R72, R73); that it tells these apart by `link.outside` is the model's (log entry 11). -/
def Obligations.LinkClearObserved : Prop :=
  (∀ s : State, s.por = false →
    (s.atRest → s.link.sender = none →
      (s.inTenure = true ∨ (s.link.phase = .idle ∧ s.link.outside = .nothing ∧ s.participation ≠ .offline
          ∧ s.link.lclr = false)) →
      exec .linkClear s = .next
        (((((s.setLink { s.link with
            phase := .clear
            outside := .nothing
            inhibit := false
            bidding := false
            wordOpen := false
            valid := false
            wordIndex := 0
            taken := .follows
            tenure := none
            wait := none
            lclr := true }).setCompletion { s.completion with
              counters := { s.completion.counters with clear := satAdd s.completion.counters.clear 1 }
              latched := { s.completion.latched with linkErr := true } }).setHome
          { s.home with capture := [] }).setCopy { s.copy with receive := [] }).setNotices
            { s.notices with reserved := false, buffer := [] })) ∧
    (s.link.phase = .idle → (s.link.outside ≠ .nothing ∨ s.participation = .offline ∨ s.link.lclr = true) →
      exec .linkClear s = .next (s.setLink { s.link with
        phase := .clear, outside := .nothing, wordOpen := false, valid := false, taken := .follows, lclr := true })) ∧
    (s.link.phase = .clear →
      exec .linkClearRelease s = .next (s.setLink { s.link with phase := .idle, pulse := 0, lclr := false })) ∧
    (s.link.phase = .idle →
      exec .linkClearRelease s = .next (s.setLink { s.link with pulse := 0, lclr := false })) ∧
    (s.link.sender = none → (s.link.phase = .header ∨ s.link.phase = .response ∨ s.link.phase = .data) →
      ∃ t, exec .earlyLbusyFall s = .next t ∧ exec .linkClear (s.setLink { s.link with pulse := 2 }) = .next t) ∧
    (s.link.phase = .arbitrate → s.frameReady = false →
      (s.link.wordOpen = true →
        ∃ t, exec .earlyLbusyFall s = .next t ∧ exec .linkClear (s.setLink { s.link with pulse := 2 }) = .next t) ∧
      (s.link.wordOpen = false → exec .earlyLbusyFall s =
        .next (s.setLink { s.link with phase := .idle, bidding := false, wait := none }))) ∧
    (s.link.sender = none → ∀ w, s.link.wait = some w →
      (w.kind ≠ .noticeResponse →
        ∃ t, exec .handshakeTimeout s = .next t ∧ exec .linkClear (s.setLink { s.link with pulse := 2 }) = .next t) ∧
      (w.kind = .noticeResponse →
        ∃ t, exec .noticeWaitExpiry s = .next t ∧
          exec .linkClear (s.setLink { s.link with pulse := 2 }) = .next t)) ∧
    (s.link.wait = none → exec .handshakeTimeout s = .next s ∧ exec .noticeWaitExpiry s = .next s)) ∧
  ∀ s : State, s.link.phase = .idle →
    (s.link.outside = .nothing → exec .earlyLbusyFall s = .next s) ∧
    (s.link.outside = .phase → s.link.wordOpen = false →
      exec .earlyLbusyFall s = .next (s.setLink { s.link with outside := .nothing, taken := .follows })) ∧
    (s.link.outside ≠ .nothing → s.link.outside ≠ .phase ∨ s.link.wordOpen = true →
      ∃ t, exec .earlyLbusyFall s = .next t ∧
        t = s.setLink { s.link with
          outside := .lost
          taken := if s.link.wordOpen = true then s.link.taken else .follows } ∧
        (s.link.wordOpen = false → t.pinTaken = s.link.valid)) ∧
    ∀ ld : Halfword, s.link.outside = .lost → s.link.wordOpen = true → s.link.tenure = none →
      exec (.wordComplete ld) s = .next (s.setLink { s.link with wordOpen := false, taken := .follows })

/-- A hold's timer runs out: its record is removed and HOLD-EXPIRED posted in its reserved credit, the variable
staying as it is; a free record does nothing; and a FLUSH that waited for holds alone then ends, its record after the
hold's (R141, R148, R190). That the event acts on every active record, and not on a free one, is the model's choice
(log entries 3, 7). -/
def Obligations.HoldExpiryPosts : Prop :=
  ∀ (s : State) (r : HoldIx), s.por = false →
    (s.holds[r] = none → exec (.holdExpiry r) s = .next s) ∧
    ∀ h : HoldRecord, s.holds[r] = some h →
      let expired : Completion := ⟨h.tag, .hold, .var h.var, .holdExpired, 0, none, none⟩
      (s.atRest → exec (.holdExpiry r) s = .next ((s.setHolds (s.holds.set r none)).setCompletion
        { s.completion with queue := s.completion.queue ++ [expired] })) ∧
      ∀ (k : SlotIx) (c : Command), s.port.queue = [] → (∀ j : SlotIx, j ≠ k → s.tracker.slots[j] = Slot.idle) →
        (∀ i : EntryIx, s.copy.entries[i].state = .none ∧ s.copy.entries[i].reservedBy = none) →
        (∀ q : HoldIx, q ≠ r → s.holds[q] = none) → s.tracker.slots[k].phase = .plan →
        s.tracker.slots[k].command = some c → c.body = .flush → s.tracker.slots[k].waiting = some .holds →
        exec (.holdExpiry r) s = .next (((s.setHolds (s.holds.set r none)).setCompletion
          { s.completion with queue := s.completion.queue ++
            [expired, ⟨c.tag, .flush, .absent, .ok, s.tracker.slots[k].tenures, none, none⟩] }).setTracker
          { s.tracker with slots := s.tracker.slots.set k Slot.idle })

/-- A back-off expires and the slot plans from the current state (R129, R116, R133). A NOTICE or JOIN is sent again (R134,
R135). A command on a bound variable waits (R117), a RELEASE of an own one by the model's
deduction (log entry 19). At the home a LOAD ends locally on a QUIET or SHARED record with the tenures it sent and sends READ on a LENT one; STORE, SWAP and HOLD send PURGE on SHARED and OWN on LENT, and a GUARD what R21
names (R118). For a variable homed elsewhere the reserved entry is fetched by READ or OWN again, a COPY is claimed and a
RELEASE gives its entry back again; with the entry gone one is allocated anew, and a victim that is still OWNED or DIRTY is
given back (R119, R121, R42). A FLUSH or LEAVE drops its COPY entries and offers the lowest entry left (R187). The
record of an entry that is no longer the variable's is dropped (R114). A slot not backing off does nothing; that the event
acts on every slot in BACKOFF, and on no other, is the model's choice (log entries 3, 7). -/
def Obligations.BackoffExpiryPlans : Prop :=
  ∀ (s : State) (k : SlotIx), s.por = false →
    (s.tracker.slots[k].phase ≠ .backoff → exec (.backoffExpiry k) s = .next s) ∧
    ∀ c : Command, s.tracker.slots[k].command = some c → s.port.queue = [] →
      (∀ j : SlotIx, j ≠ k → s.tracker.slots[j] = Slot.idle) → s.tracker.slots[k].phase = .backoff →
      let x := { s.tracker.slots[k] with frame := none, waiting := none, backoff := 0 }
      let put := fun y : Slot => s.setTracker { s.tracker with slots := s.tracker.slots.set k y }
      let sends := fun (f : Frame) (entry : Option EntryIx) =>
        put { x with phase := .send, frame := some f, entry := entry }
      let back := fun i : EntryIx => if s.copy.entries[i].state = .dirty then Kind.writeback else .giveBack
      let own := fun i : EntryIx => s.copy.entries[i].state = .owned ∨ s.copy.entries[i].state = .dirty
      (∀ (mask : NodeMask) (words : List Halfword), c.body = .notice mask words →
        exec (.backoffExpiry k) s = .next (sends ⟨.notice, mask, words⟩ x.entry)) ∧
      (c.body = .join → exec (.backoffExpiry k) s = .next (sends ⟨.join, 0, []⟩ x.entry)) ∧
      (∀ v : VarNum, c.body.var? = some v → c.body.code ≠ .unhold → s.boundVar = some v →
        exec (.backoffExpiry k) s = .next (put { x with
          phase := .plan
          waiting := some .binding
          entry := x.entry.filter fun i => s.copy.entries[i].tag == some v })) ∧
      (∀ v : VarNum, c.body.var? = some v → homeOf v = s.nodeId → s.boundVar ≠ some v →
        (c.body.code = .load → (s.record v).state.isLent = false →
          (∀ i : EntryIx, s.copy.entries[i].reservedBy = none) →
          exec (.backoffExpiry k) s = .next ((put Slot.idle).setCompletion
            { s.completion with queue := s.completion.queue ++
              [⟨c.tag, .load, .var v, .ok, x.tenures, some (s.record v).value, none⟩] })) ∧
        (c.body.code = .load → (s.record v).state.isLent = true →
          exec (.backoffExpiry k) s = .next (sends ⟨.read, v.setWidth 16, []⟩ x.entry)) ∧
        (c.body.code = .store ∨ c.body.code = .swap ∨ c.body.code = .hold ∨ c.body = .guard v .privateAccess →
          (s.record v).state = .shared →
          exec (.backoffExpiry k) s = .next (sends ⟨.purge, v.setWidth 16, []⟩ x.entry)) ∧
        (c.body.code = .store ∨ c.body.code = .swap ∨ c.body.code = .hold ∨ c.body = .guard v .privateAccess
            ∨ c.body = .guard v .homeOnly →
          (s.record v).state.isLent = true →
          exec (.backoffExpiry k) s = .next (sends ⟨.own, v.setWidth 16, []⟩ x.entry))) ∧
      (∀ v : VarNum, c.body.var? = some v → homeOf v ≠ s.nodeId → s.boundVar ≠ some v →
        (∀ i : EntryIx, s.entryOf v = some i →
          (c.body.code.needsEntry → s.copy.entries[i].state = .none → s.copy.entries[i].reservedBy = some k →
            exec (.backoffExpiry k) s = .next (sends ⟨fetchFor c, v.setWidth 16, []⟩ (some i))) ∧
          (c.body.code = .store ∨ c.body.code = .swap ∨ c.body.code = .hold → s.copy.entries[i].state = .copy →
            s.copy.entries[i].reservedBy = none →
            exec (.backoffExpiry k) s = .next (sends ⟨.claim, v.setWidth 16, []⟩ (some i))) ∧
          (c.body.code = .release → s.held v = false → own i → s.copy.entries[i].reservedBy = none →
            exec (.backoffExpiry k) s = .next (sends ⟨back i, v.setWidth 16, []⟩ (some i)))) ∧
        ((∀ j : EntryIx, s.copy.entries[j].tag ≠ some v) → c.body.code.needsEntry →
          (∀ (i : EntryIx) (w : VarNum), x.victim = some i → s.copy.entries[i].tag = some w → own i →
            exec (.backoffExpiry k) s = .next (sends ⟨back i, w.setWidth 16, []⟩ none)) ∧
          (∀ i : EntryIx, x.victim = none → s.freeEntry = some i →
            exec (.backoffExpiry k) s = .next (writeEntry i
              { s.copy.entries[i] with tag := some v, reservedBy := some k }
              (sends ⟨fetchFor c, v.setWidth 16, []⟩ (some i)))) ∧
          ∀ (i : EntryIx) (w : VarNum), x.victim = none → s.freeEntry = none → s.oldestVictim k = some i →
            s.copy.entries[i].tag = some w → own i →
            exec (.backoffExpiry k) s = .next (writeEntry i { s.copy.entries[i] with reservedBy := some k }
              (put { x with
                phase := .send
                frame := some ⟨back i, w.setWidth 16, []⟩
                entry := none
                victim := some i })))) ∧
      (c.body = .flush ∨ c.body = .leave → s.boundVar = none → (∀ i : EntryIx, s.copy.entries[i].reservedBy = none) →
        let offered := fun i : EntryIx => (s.copy.entries[i].state == .owned || s.copy.entries[i].state == .dirty)
          && (s.copy.entries[i].tag).any (fun w => (List.finRange 4).all fun r => (s.holds[r]).all fun h => h.var != w)
          && !x.stranded.contains i
        ∀ (i : EntryIx) (w : VarNum), offered i = true → (∀ j : EntryIx, j < i → offered j = false) →
          s.copy.entries[i].tag = some w →
          exec (.backoffExpiry k) s = .next ((put { x with
              phase := .send
              frame := some ⟨back i, w.setWidth 16, []⟩
              entry := some i
              stranded := x.stranded.filter fun m =>
                s.copy.entries[m].state == .owned || s.copy.entries[m].state == .dirty }).setCopy
            { s.copy with entries := Vector.ofFn fun m : EntryIx =>
              if s.copy.entries[m].state = .copy then { s.copy.entries[m] with state := .none, tag := none }
              else s.copy.entries[m] }))

/-! ## Laws that every step keeps -/

/-- The credit law (R170): free credits, queued commands, commands in slots, unread records and active holds always
add up to 16. -/
def Obligations.CreditLawKept : Prop := ∀ s t : State, s.creditLaw → step s = .next t → t.creditLaw

/-- The home store keeps its canonical form, and no record is ever lent to the home itself (R3). -/
def Obligations.HomeStoreLawKept : Prop :=
  ∀ s t : State, s.homeCanonical → s.noOwnLoan → step s = .next t → t.homeCanonical ∧ t.noOwnLoan

/-- The inbound queue never outgrows its 16 places, a reservation counted (R150), and an addressed node that took a
NOTICE's response word holds one. -/
def Obligations.NoticeRoomKept : Prop := ∀ s t : State, s.noticeRoom → step s = .next t → t.noticeRoom

/-- The age ranks stay a permutation of 0 to 31 (R27); no two copy entries carry one tag, none the tag of a variable homed
here, and no slot holds two reservations (R23, R26); the active hold records go on naming distinct variables (R137);
the command queue never holds more than 8 records (R99), nor the completion queue more than 16 while the credit law
holds (R167). -/
def Obligations.TablesKeepTheirLaws : Prop :=
  (∀ s t : State, s.agesRanked → step s = .next t → t.agesRanked) ∧
  (∀ s t : State, s.copyLaw → step s = .next t → t.copyLaw) ∧
  (∀ s t : State, s.holdsDistinct → step s = .next t → t.holdsDistinct) ∧
  (∀ s t : State, s.queueFits → step s = .next t → t.queueFits) ∧
  ∀ s t : State, s.creditLaw → step s = .next t → t.completion.queue.length ≤ 16

/-- The state after reset meets every law of `State.safe`. -/
def Obligations.ResetIsSafe : Prop := State.reset.safe

/-- Exclusive holdings change hands at commits alone. No command but the TENURE_END of a COMMITTED tenure, and no idle step,
makes a copy entry OWNED, or DIRTY that was not OWNED or DIRTY before, or lends a home record: a tenure that ends RETRIED,
DENIED or NO-HOME, or is aborted, grants nothing (R3, R24, R66, R69). -/
def Obligations.OnlyCommitsGrant : Prop :=
  let grantsNothing := fun s t : State =>
    (∀ i : EntryIx, t.copy.entries[i].state = .owned → s.copy.entries[i].state = .owned) ∧
    (∀ i : EntryIx, t.copy.entries[i].state = .dirty →
      s.copy.entries[i].state = .owned ∨ s.copy.entries[i].state = .dirty) ∧
    ∀ (i : Nat) (l : NodeId), (homeRead t.home.records i).state = .lent l → (homeRead s.home.records i).state = .lent l
  (∀ (c : Instr) (s t : State), (c = .tenureEnd → s.link.phase = .close →
      ∀ tn, s.link.tenure = some tn → tn.outcome ≠ some .committed) →
    s.homeCanonical → exec c s = .next t → grantsNothing s t) ∧
  ∀ s t : State, s.pending = [] → s.homeCanonical → step s = .next t → grantsNothing s t

/-- What outlives every command but the ones named: the node ID and the timing fields stay; the cold flag is set only
by POR and cleared only at a commit; the roster changes only at a completed response word or a reset (R1, R180, R84,
R89). -/
def Obligations.OnlyTheseChange : Prop :=
  ∀ (c : Instr) (s t : State), exec c s = .next t → (∀ x, c ≠ .porRelease x) →
    t.nodeId = s.nodeId ∧ (t.cold = true → s.cold = true) ∧ (c ≠ .tenureEnd → t.cold = s.cold) ∧
    ((∀ o w, o &&& 0x7E = 0x0A ∨ o &&& 0x7E = 0x0C → c ≠ .registerWrite o w) → t.timing = s.timing) ∧
    ((∀ w, c ≠ .softreset w) → (∀ w, w.getLsbD 0 = true → c ≠ .linkclear w) →
      (∀ o w, o &&& 0x7E = 0x06 → w.getLsbD 0 = true → c ≠ .registerWrite o w) →
      (∀ p l, c ≠ .responseWord p l) → t.link.roster = s.link.roster)
end

