-- ==== Sys2Proof/Laws/Home.lean ====
section
/-!
SUPPORT. The home store as a map in canonical form: what a write changes, and that every write keeps the form.
-/

namespace Sys2Proof.Machine

/-- A canonical list from `hi` on lists nothing below `hi`, so such an index reads as the POR record. -/
theorem homeRead_below {l : List (Nat × HomeRecord)} {hi i : Nat} (h : homeWfFrom hi l = true) (hlt : i < hi) :
    homeRead l i = HomeRecord.blank := by
  induction l generalizing hi with
  | nil => rfl
  | cons p rest ih =>
    obtain ⟨k, q⟩ := p
    simp only [homeWfFrom, Bool.and_eq_true, decide_eq_true_eq] at h
    simp only [homeRead]
    rw [if_neg (by omega)]
    exact ih h.2 (by omega)

/-- Canonical from a bound, canonical from any lower one. -/
theorem homeWfFrom_mono {l : List (Nat × HomeRecord)} {lo hi : Nat} (hle : lo ≤ hi) (h : homeWfFrom hi l = true) :
    homeWfFrom lo l = true := by
  cases l with
  | nil => rfl
  | cons p rest =>
    obtain ⟨k, q⟩ := p
    simp only [homeWfFrom, Bool.and_eq_true, decide_eq_true_eq] at h ⊢
    exact ⟨⟨⟨by omega, h.1.1.2⟩, h.1.2⟩, h.2⟩

/-- Reading after a write: the index written reads the record written, every other index reads as before. -/
theorem homeRead_homeWrite {l : List (Nat × HomeRecord)} {lo : Nat} (h : homeWfFrom lo l = true) (i : Nat)
    (r : HomeRecord) (j : Nat) : homeRead (homeWrite l i r) j = if j = i then r else homeRead l j := by
  induction l generalizing lo with
  | nil =>
    by_cases hr : r = HomeRecord.blank
    · by_cases hj : j = i <;> simp [homeWrite, homeRead, hr, hj]
    · by_cases hj : j = i
      · simp [homeWrite, homeRead, hr, hj]
      · have hij : ¬ i = j := fun h => hj h.symm
        simp [homeWrite, homeRead, hr, hj, hij]
  | cons p rest ih =>
    obtain ⟨k, q⟩ := p
    simp only [homeWfFrom, Bool.and_eq_true, decide_eq_true_eq] at h
    by_cases hk : k < i
    · by_cases hj : k = j
      · subst hj
        have hji : ¬ k = i := by omega
        simp [homeWrite, homeRead, hk, hji]
      · simp only [homeWrite, hk, if_true, homeRead, hj, if_false]
        exact ih h.2
    · by_cases hki : k = i
      · subst hki
        by_cases hr : r = HomeRecord.blank
        · by_cases hj : j = k
          · subst hj
            simp only [homeWrite, hk, if_false, if_true, hr]
            exact homeRead_below h.2 (by omega)
          · have hkj : ¬ k = j := fun h => hj h.symm
            simp [homeWrite, homeRead, hr, hj, hkj]
        · by_cases hj : j = k
          · simp [homeWrite, homeRead, hr, hj]
          · have hkj : ¬ k = j := fun h => hj h.symm
            simp [homeWrite, homeRead, hr, hj, hkj]
      · by_cases hr : r = HomeRecord.blank
        · by_cases hj : j = i
          · subst hj
            simp only [homeWrite, hk, hki, if_false, if_true, hr, homeRead]
            exact homeRead_below h.2 (by omega)
          · simp [homeWrite, hk, hki, hr, hj]
        · by_cases hj : j = i
          · subst hj
            simp [homeWrite, homeRead, hk, hki, hr]
          · have hij : ¬ i = j := fun h => hj h.symm
            simp [homeWrite, homeRead, hk, hki, hr, hj, hij]

/-- A write at an index within the store, at or above the bound, keeps the canonical form. -/
theorem homeWrite_wfFrom {l : List (Nat × HomeRecord)} {lo : Nat} (h : homeWfFrom lo l = true) (i : Nat)
    (r : HomeRecord) (hlo : lo ≤ i) (hi : i < 256) : homeWfFrom lo (homeWrite l i r) = true := by
  induction l generalizing lo with
  | nil => by_cases hr : r = HomeRecord.blank <;> simp [homeWrite, homeWfFrom, hr, hlo, hi]
  | cons p rest ih =>
    obtain ⟨k, q⟩ := p
    simp only [homeWfFrom, Bool.and_eq_true, decide_eq_true_eq] at h
    obtain ⟨⟨⟨h1, h2⟩, h3⟩, h4⟩ := h
    by_cases hk : k < i
    · simp [homeWrite, homeWfFrom, hk, h1, h2, h3]
      exact ih h4 (by omega)
    · by_cases hki : k = i
      · subst hki
        by_cases hr : r = HomeRecord.blank
        · simp only [homeWrite, hk, if_false, if_true, hr]
          exact homeWfFrom_mono (by omega) h4
        · simp [homeWrite, homeWfFrom, hr, h1, h2, h4]
      · by_cases hr : r = HomeRecord.blank
        · simp [homeWrite, homeWfFrom, hk, hki, hr, h1, h2, h3, h4]
        · simp [homeWrite, homeWfFrom, hk, hki, hr, hlo, hi, h2, h3, h4]
          omega

/-- A write to the store keeps its canonical form. -/
theorem homeWrite_wf {l : List (Nat × HomeRecord)} (h : homeWf l = true) (i : Nat) (r : HomeRecord) (hi : i < 256) :
    homeWf (homeWrite l i r) = true := homeWrite_wfFrom h i r (by omega) hi

/-- The index of a variable lies within the store. -/
theorem indexOf_lt (v : VarNum) : indexOf v < 256 := (v.extractLsb' 0 8).isLt

/-- Dropping and rewriting records in place, blanks filtered out, keeps the canonical form. -/
theorem homeMapFilter_wfFrom {l : List (Nat × HomeRecord)} {lo : Nat} (h : homeWfFrom lo l = true)
    (f : HomeRecord → HomeRecord) :
    homeWfFrom lo ((l.map fun p => (p.1, f p.2)).filter fun p => p.2 != HomeRecord.blank) = true := by
  induction l generalizing lo with
  | nil => rfl
  | cons p rest ih =>
    obtain ⟨k, q⟩ := p
    simp only [homeWfFrom, Bool.and_eq_true, decide_eq_true_eq] at h
    by_cases hb : f q = HomeRecord.blank
    · simp only [List.map_cons, List.filter_cons, hb, bne_self_eq_false]
      exact homeWfFrom_mono (by omega) (ih h.2)
    · simp only [List.map_cons, List.filter_cons]
      rw [if_pos (by simpa using hb)]
      simp only [homeWfFrom, Bool.and_eq_true, decide_eq_true_eq]
      exact ⟨⟨⟨h.1.1.1, h.1.1.2⟩, by simpa using hb⟩, ih h.2⟩

end Sys2Proof.Machine
end

