-- ==== Sys2Proof/Laws/State.lean ====
section
/-!
SUPPORT. What each setter of `State` does to each field.
-/

namespace Sys2Proof.Machine

/-! ## setNodeId -/

@[simp] theorem State.setNodeId_nodeId (s : State) (x : NodeId) : (s.setNodeId x).nodeId = x := rfl
@[simp] theorem State.setNodeId_por (s : State) (x : NodeId) : (s.setNodeId x).por = s.por := rfl
@[simp] theorem State.setNodeId_participation (s : State) (x : NodeId) : (s.setNodeId x).participation = s.participation := rfl
@[simp] theorem State.setNodeId_cold (s : State) (x : NodeId) : (s.setNodeId x).cold = s.cold := rfl
@[simp] theorem State.setNodeId_port (s : State) (x : NodeId) : (s.setNodeId x).port = s.port := rfl
@[simp] theorem State.setNodeId_timing (s : State) (x : NodeId) : (s.setNodeId x).timing = s.timing := rfl
@[simp] theorem State.setNodeId_control (s : State) (x : NodeId) : (s.setNodeId x).control = s.control := rfl
@[simp] theorem State.setNodeId_home (s : State) (x : NodeId) : (s.setNodeId x).home = s.home := rfl
@[simp] theorem State.setNodeId_copy (s : State) (x : NodeId) : (s.setNodeId x).copy = s.copy := rfl
@[simp] theorem State.setNodeId_tracker (s : State) (x : NodeId) : (s.setNodeId x).tracker = s.tracker := rfl
@[simp] theorem State.setNodeId_holds (s : State) (x : NodeId) : (s.setNodeId x).holds = s.holds := rfl
@[simp] theorem State.setNodeId_notices (s : State) (x : NodeId) : (s.setNodeId x).notices = s.notices := rfl
@[simp] theorem State.setNodeId_completion (s : State) (x : NodeId) : (s.setNodeId x).completion = s.completion := rfl
@[simp] theorem State.setNodeId_link (s : State) (x : NodeId) : (s.setNodeId x).link = s.link := rfl
@[simp] theorem State.setNodeId_pending (s : State) (x : NodeId) : (s.setNodeId x).pending = s.pending := rfl

/-! ## setPor -/

@[simp] theorem State.setPor_nodeId (s : State) (x : Bool) : (s.setPor x).nodeId = s.nodeId := rfl
@[simp] theorem State.setPor_por (s : State) (x : Bool) : (s.setPor x).por = x := rfl
@[simp] theorem State.setPor_participation (s : State) (x : Bool) : (s.setPor x).participation = s.participation := rfl
@[simp] theorem State.setPor_cold (s : State) (x : Bool) : (s.setPor x).cold = s.cold := rfl
@[simp] theorem State.setPor_port (s : State) (x : Bool) : (s.setPor x).port = s.port := rfl
@[simp] theorem State.setPor_timing (s : State) (x : Bool) : (s.setPor x).timing = s.timing := rfl
@[simp] theorem State.setPor_control (s : State) (x : Bool) : (s.setPor x).control = s.control := rfl
@[simp] theorem State.setPor_home (s : State) (x : Bool) : (s.setPor x).home = s.home := rfl
@[simp] theorem State.setPor_copy (s : State) (x : Bool) : (s.setPor x).copy = s.copy := rfl
@[simp] theorem State.setPor_tracker (s : State) (x : Bool) : (s.setPor x).tracker = s.tracker := rfl
@[simp] theorem State.setPor_holds (s : State) (x : Bool) : (s.setPor x).holds = s.holds := rfl
@[simp] theorem State.setPor_notices (s : State) (x : Bool) : (s.setPor x).notices = s.notices := rfl
@[simp] theorem State.setPor_completion (s : State) (x : Bool) : (s.setPor x).completion = s.completion := rfl
@[simp] theorem State.setPor_link (s : State) (x : Bool) : (s.setPor x).link = s.link := rfl
@[simp] theorem State.setPor_pending (s : State) (x : Bool) : (s.setPor x).pending = s.pending := rfl

/-! ## setParticipation -/

@[simp] theorem State.setParticipation_nodeId (s : State) (x : Participation) : (s.setParticipation x).nodeId = s.nodeId := rfl
@[simp] theorem State.setParticipation_por (s : State) (x : Participation) : (s.setParticipation x).por = s.por := rfl
@[simp] theorem State.setParticipation_participation (s : State) (x : Participation) : (s.setParticipation x).participation = x := rfl
@[simp] theorem State.setParticipation_cold (s : State) (x : Participation) : (s.setParticipation x).cold = s.cold := rfl
@[simp] theorem State.setParticipation_port (s : State) (x : Participation) : (s.setParticipation x).port = s.port := rfl
@[simp] theorem State.setParticipation_timing (s : State) (x : Participation) : (s.setParticipation x).timing = s.timing := rfl
@[simp] theorem State.setParticipation_control (s : State) (x : Participation) : (s.setParticipation x).control = s.control := rfl
@[simp] theorem State.setParticipation_home (s : State) (x : Participation) : (s.setParticipation x).home = s.home := rfl
@[simp] theorem State.setParticipation_copy (s : State) (x : Participation) : (s.setParticipation x).copy = s.copy := rfl
@[simp] theorem State.setParticipation_tracker (s : State) (x : Participation) : (s.setParticipation x).tracker = s.tracker := rfl
@[simp] theorem State.setParticipation_holds (s : State) (x : Participation) : (s.setParticipation x).holds = s.holds := rfl
@[simp] theorem State.setParticipation_notices (s : State) (x : Participation) : (s.setParticipation x).notices = s.notices := rfl
@[simp] theorem State.setParticipation_completion (s : State) (x : Participation) : (s.setParticipation x).completion = s.completion := rfl
@[simp] theorem State.setParticipation_link (s : State) (x : Participation) : (s.setParticipation x).link = s.link := rfl
@[simp] theorem State.setParticipation_pending (s : State) (x : Participation) : (s.setParticipation x).pending = s.pending := rfl

/-! ## setCold -/

@[simp] theorem State.setCold_nodeId (s : State) (x : Bool) : (s.setCold x).nodeId = s.nodeId := rfl
@[simp] theorem State.setCold_por (s : State) (x : Bool) : (s.setCold x).por = s.por := rfl
@[simp] theorem State.setCold_participation (s : State) (x : Bool) : (s.setCold x).participation = s.participation := rfl
@[simp] theorem State.setCold_cold (s : State) (x : Bool) : (s.setCold x).cold = x := rfl
@[simp] theorem State.setCold_port (s : State) (x : Bool) : (s.setCold x).port = s.port := rfl
@[simp] theorem State.setCold_timing (s : State) (x : Bool) : (s.setCold x).timing = s.timing := rfl
@[simp] theorem State.setCold_control (s : State) (x : Bool) : (s.setCold x).control = s.control := rfl
@[simp] theorem State.setCold_home (s : State) (x : Bool) : (s.setCold x).home = s.home := rfl
@[simp] theorem State.setCold_copy (s : State) (x : Bool) : (s.setCold x).copy = s.copy := rfl
@[simp] theorem State.setCold_tracker (s : State) (x : Bool) : (s.setCold x).tracker = s.tracker := rfl
@[simp] theorem State.setCold_holds (s : State) (x : Bool) : (s.setCold x).holds = s.holds := rfl
@[simp] theorem State.setCold_notices (s : State) (x : Bool) : (s.setCold x).notices = s.notices := rfl
@[simp] theorem State.setCold_completion (s : State) (x : Bool) : (s.setCold x).completion = s.completion := rfl
@[simp] theorem State.setCold_link (s : State) (x : Bool) : (s.setCold x).link = s.link := rfl
@[simp] theorem State.setCold_pending (s : State) (x : Bool) : (s.setCold x).pending = s.pending := rfl

/-! ## setPort -/

@[simp] theorem State.setPort_nodeId (s : State) (x : Port) : (s.setPort x).nodeId = s.nodeId := rfl
@[simp] theorem State.setPort_por (s : State) (x : Port) : (s.setPort x).por = s.por := rfl
@[simp] theorem State.setPort_participation (s : State) (x : Port) : (s.setPort x).participation = s.participation := rfl
@[simp] theorem State.setPort_cold (s : State) (x : Port) : (s.setPort x).cold = s.cold := rfl
@[simp] theorem State.setPort_port (s : State) (x : Port) : (s.setPort x).port = x := rfl
@[simp] theorem State.setPort_timing (s : State) (x : Port) : (s.setPort x).timing = s.timing := rfl
@[simp] theorem State.setPort_control (s : State) (x : Port) : (s.setPort x).control = s.control := rfl
@[simp] theorem State.setPort_home (s : State) (x : Port) : (s.setPort x).home = s.home := rfl
@[simp] theorem State.setPort_copy (s : State) (x : Port) : (s.setPort x).copy = s.copy := rfl
@[simp] theorem State.setPort_tracker (s : State) (x : Port) : (s.setPort x).tracker = s.tracker := rfl
@[simp] theorem State.setPort_holds (s : State) (x : Port) : (s.setPort x).holds = s.holds := rfl
@[simp] theorem State.setPort_notices (s : State) (x : Port) : (s.setPort x).notices = s.notices := rfl
@[simp] theorem State.setPort_completion (s : State) (x : Port) : (s.setPort x).completion = s.completion := rfl
@[simp] theorem State.setPort_link (s : State) (x : Port) : (s.setPort x).link = s.link := rfl
@[simp] theorem State.setPort_pending (s : State) (x : Port) : (s.setPort x).pending = s.pending := rfl

/-! ## setTiming -/

@[simp] theorem State.setTiming_nodeId (s : State) (x : Timing) : (s.setTiming x).nodeId = s.nodeId := rfl
@[simp] theorem State.setTiming_por (s : State) (x : Timing) : (s.setTiming x).por = s.por := rfl
@[simp] theorem State.setTiming_participation (s : State) (x : Timing) : (s.setTiming x).participation = s.participation := rfl
@[simp] theorem State.setTiming_cold (s : State) (x : Timing) : (s.setTiming x).cold = s.cold := rfl
@[simp] theorem State.setTiming_port (s : State) (x : Timing) : (s.setTiming x).port = s.port := rfl
@[simp] theorem State.setTiming_timing (s : State) (x : Timing) : (s.setTiming x).timing = x := rfl
@[simp] theorem State.setTiming_control (s : State) (x : Timing) : (s.setTiming x).control = s.control := rfl
@[simp] theorem State.setTiming_home (s : State) (x : Timing) : (s.setTiming x).home = s.home := rfl
@[simp] theorem State.setTiming_copy (s : State) (x : Timing) : (s.setTiming x).copy = s.copy := rfl
@[simp] theorem State.setTiming_tracker (s : State) (x : Timing) : (s.setTiming x).tracker = s.tracker := rfl
@[simp] theorem State.setTiming_holds (s : State) (x : Timing) : (s.setTiming x).holds = s.holds := rfl
@[simp] theorem State.setTiming_notices (s : State) (x : Timing) : (s.setTiming x).notices = s.notices := rfl
@[simp] theorem State.setTiming_completion (s : State) (x : Timing) : (s.setTiming x).completion = s.completion := rfl
@[simp] theorem State.setTiming_link (s : State) (x : Timing) : (s.setTiming x).link = s.link := rfl
@[simp] theorem State.setTiming_pending (s : State) (x : Timing) : (s.setTiming x).pending = s.pending := rfl

/-! ## setControl -/

@[simp] theorem State.setControl_nodeId (s : State) (x : Control) : (s.setControl x).nodeId = s.nodeId := rfl
@[simp] theorem State.setControl_por (s : State) (x : Control) : (s.setControl x).por = s.por := rfl
@[simp] theorem State.setControl_participation (s : State) (x : Control) : (s.setControl x).participation = s.participation := rfl
@[simp] theorem State.setControl_cold (s : State) (x : Control) : (s.setControl x).cold = s.cold := rfl
@[simp] theorem State.setControl_port (s : State) (x : Control) : (s.setControl x).port = s.port := rfl
@[simp] theorem State.setControl_timing (s : State) (x : Control) : (s.setControl x).timing = s.timing := rfl
@[simp] theorem State.setControl_control (s : State) (x : Control) : (s.setControl x).control = x := rfl
@[simp] theorem State.setControl_home (s : State) (x : Control) : (s.setControl x).home = s.home := rfl
@[simp] theorem State.setControl_copy (s : State) (x : Control) : (s.setControl x).copy = s.copy := rfl
@[simp] theorem State.setControl_tracker (s : State) (x : Control) : (s.setControl x).tracker = s.tracker := rfl
@[simp] theorem State.setControl_holds (s : State) (x : Control) : (s.setControl x).holds = s.holds := rfl
@[simp] theorem State.setControl_notices (s : State) (x : Control) : (s.setControl x).notices = s.notices := rfl
@[simp] theorem State.setControl_completion (s : State) (x : Control) : (s.setControl x).completion = s.completion := rfl
@[simp] theorem State.setControl_link (s : State) (x : Control) : (s.setControl x).link = s.link := rfl
@[simp] theorem State.setControl_pending (s : State) (x : Control) : (s.setControl x).pending = s.pending := rfl

/-! ## setHome -/

@[simp] theorem State.setHome_nodeId (s : State) (x : HomeUnit) : (s.setHome x).nodeId = s.nodeId := rfl
@[simp] theorem State.setHome_por (s : State) (x : HomeUnit) : (s.setHome x).por = s.por := rfl
@[simp] theorem State.setHome_participation (s : State) (x : HomeUnit) : (s.setHome x).participation = s.participation := rfl
@[simp] theorem State.setHome_cold (s : State) (x : HomeUnit) : (s.setHome x).cold = s.cold := rfl
@[simp] theorem State.setHome_port (s : State) (x : HomeUnit) : (s.setHome x).port = s.port := rfl
@[simp] theorem State.setHome_timing (s : State) (x : HomeUnit) : (s.setHome x).timing = s.timing := rfl
@[simp] theorem State.setHome_control (s : State) (x : HomeUnit) : (s.setHome x).control = s.control := rfl
@[simp] theorem State.setHome_home (s : State) (x : HomeUnit) : (s.setHome x).home = x := rfl
@[simp] theorem State.setHome_copy (s : State) (x : HomeUnit) : (s.setHome x).copy = s.copy := rfl
@[simp] theorem State.setHome_tracker (s : State) (x : HomeUnit) : (s.setHome x).tracker = s.tracker := rfl
@[simp] theorem State.setHome_holds (s : State) (x : HomeUnit) : (s.setHome x).holds = s.holds := rfl
@[simp] theorem State.setHome_notices (s : State) (x : HomeUnit) : (s.setHome x).notices = s.notices := rfl
@[simp] theorem State.setHome_completion (s : State) (x : HomeUnit) : (s.setHome x).completion = s.completion := rfl
@[simp] theorem State.setHome_link (s : State) (x : HomeUnit) : (s.setHome x).link = s.link := rfl
@[simp] theorem State.setHome_pending (s : State) (x : HomeUnit) : (s.setHome x).pending = s.pending := rfl

/-! ## setCopy -/

@[simp] theorem State.setCopy_nodeId (s : State) (x : CopyUnit) : (s.setCopy x).nodeId = s.nodeId := rfl
@[simp] theorem State.setCopy_por (s : State) (x : CopyUnit) : (s.setCopy x).por = s.por := rfl
@[simp] theorem State.setCopy_participation (s : State) (x : CopyUnit) : (s.setCopy x).participation = s.participation := rfl
@[simp] theorem State.setCopy_cold (s : State) (x : CopyUnit) : (s.setCopy x).cold = s.cold := rfl
@[simp] theorem State.setCopy_port (s : State) (x : CopyUnit) : (s.setCopy x).port = s.port := rfl
@[simp] theorem State.setCopy_timing (s : State) (x : CopyUnit) : (s.setCopy x).timing = s.timing := rfl
@[simp] theorem State.setCopy_control (s : State) (x : CopyUnit) : (s.setCopy x).control = s.control := rfl
@[simp] theorem State.setCopy_home (s : State) (x : CopyUnit) : (s.setCopy x).home = s.home := rfl
@[simp] theorem State.setCopy_copy (s : State) (x : CopyUnit) : (s.setCopy x).copy = x := rfl
@[simp] theorem State.setCopy_tracker (s : State) (x : CopyUnit) : (s.setCopy x).tracker = s.tracker := rfl
@[simp] theorem State.setCopy_holds (s : State) (x : CopyUnit) : (s.setCopy x).holds = s.holds := rfl
@[simp] theorem State.setCopy_notices (s : State) (x : CopyUnit) : (s.setCopy x).notices = s.notices := rfl
@[simp] theorem State.setCopy_completion (s : State) (x : CopyUnit) : (s.setCopy x).completion = s.completion := rfl
@[simp] theorem State.setCopy_link (s : State) (x : CopyUnit) : (s.setCopy x).link = s.link := rfl
@[simp] theorem State.setCopy_pending (s : State) (x : CopyUnit) : (s.setCopy x).pending = s.pending := rfl

/-! ## setTracker -/

@[simp] theorem State.setTracker_nodeId (s : State) (x : Tracker) : (s.setTracker x).nodeId = s.nodeId := rfl
@[simp] theorem State.setTracker_por (s : State) (x : Tracker) : (s.setTracker x).por = s.por := rfl
@[simp] theorem State.setTracker_participation (s : State) (x : Tracker) : (s.setTracker x).participation = s.participation := rfl
@[simp] theorem State.setTracker_cold (s : State) (x : Tracker) : (s.setTracker x).cold = s.cold := rfl
@[simp] theorem State.setTracker_port (s : State) (x : Tracker) : (s.setTracker x).port = s.port := rfl
@[simp] theorem State.setTracker_timing (s : State) (x : Tracker) : (s.setTracker x).timing = s.timing := rfl
@[simp] theorem State.setTracker_control (s : State) (x : Tracker) : (s.setTracker x).control = s.control := rfl
@[simp] theorem State.setTracker_home (s : State) (x : Tracker) : (s.setTracker x).home = s.home := rfl
@[simp] theorem State.setTracker_copy (s : State) (x : Tracker) : (s.setTracker x).copy = s.copy := rfl
@[simp] theorem State.setTracker_tracker (s : State) (x : Tracker) : (s.setTracker x).tracker = x := rfl
@[simp] theorem State.setTracker_holds (s : State) (x : Tracker) : (s.setTracker x).holds = s.holds := rfl
@[simp] theorem State.setTracker_notices (s : State) (x : Tracker) : (s.setTracker x).notices = s.notices := rfl
@[simp] theorem State.setTracker_completion (s : State) (x : Tracker) : (s.setTracker x).completion = s.completion := rfl
@[simp] theorem State.setTracker_link (s : State) (x : Tracker) : (s.setTracker x).link = s.link := rfl
@[simp] theorem State.setTracker_pending (s : State) (x : Tracker) : (s.setTracker x).pending = s.pending := rfl

/-! ## setHolds -/

@[simp] theorem State.setHolds_nodeId (s : State) (x : Vector (Option HoldRecord) 4) : (s.setHolds x).nodeId = s.nodeId := rfl
@[simp] theorem State.setHolds_por (s : State) (x : Vector (Option HoldRecord) 4) : (s.setHolds x).por = s.por := rfl
@[simp] theorem State.setHolds_participation (s : State) (x : Vector (Option HoldRecord) 4) : (s.setHolds x).participation = s.participation := rfl
@[simp] theorem State.setHolds_cold (s : State) (x : Vector (Option HoldRecord) 4) : (s.setHolds x).cold = s.cold := rfl
@[simp] theorem State.setHolds_port (s : State) (x : Vector (Option HoldRecord) 4) : (s.setHolds x).port = s.port := rfl
@[simp] theorem State.setHolds_timing (s : State) (x : Vector (Option HoldRecord) 4) : (s.setHolds x).timing = s.timing := rfl
@[simp] theorem State.setHolds_control (s : State) (x : Vector (Option HoldRecord) 4) : (s.setHolds x).control = s.control := rfl
@[simp] theorem State.setHolds_home (s : State) (x : Vector (Option HoldRecord) 4) : (s.setHolds x).home = s.home := rfl
@[simp] theorem State.setHolds_copy (s : State) (x : Vector (Option HoldRecord) 4) : (s.setHolds x).copy = s.copy := rfl
@[simp] theorem State.setHolds_tracker (s : State) (x : Vector (Option HoldRecord) 4) : (s.setHolds x).tracker = s.tracker := rfl
@[simp] theorem State.setHolds_holds (s : State) (x : Vector (Option HoldRecord) 4) : (s.setHolds x).holds = x := rfl
@[simp] theorem State.setHolds_notices (s : State) (x : Vector (Option HoldRecord) 4) : (s.setHolds x).notices = s.notices := rfl
@[simp] theorem State.setHolds_completion (s : State) (x : Vector (Option HoldRecord) 4) : (s.setHolds x).completion = s.completion := rfl
@[simp] theorem State.setHolds_link (s : State) (x : Vector (Option HoldRecord) 4) : (s.setHolds x).link = s.link := rfl
@[simp] theorem State.setHolds_pending (s : State) (x : Vector (Option HoldRecord) 4) : (s.setHolds x).pending = s.pending := rfl

/-! ## setNotices -/

@[simp] theorem State.setNotices_nodeId (s : State) (x : NoticeUnit) : (s.setNotices x).nodeId = s.nodeId := rfl
@[simp] theorem State.setNotices_por (s : State) (x : NoticeUnit) : (s.setNotices x).por = s.por := rfl
@[simp] theorem State.setNotices_participation (s : State) (x : NoticeUnit) : (s.setNotices x).participation = s.participation := rfl
@[simp] theorem State.setNotices_cold (s : State) (x : NoticeUnit) : (s.setNotices x).cold = s.cold := rfl
@[simp] theorem State.setNotices_port (s : State) (x : NoticeUnit) : (s.setNotices x).port = s.port := rfl
@[simp] theorem State.setNotices_timing (s : State) (x : NoticeUnit) : (s.setNotices x).timing = s.timing := rfl
@[simp] theorem State.setNotices_control (s : State) (x : NoticeUnit) : (s.setNotices x).control = s.control := rfl
@[simp] theorem State.setNotices_home (s : State) (x : NoticeUnit) : (s.setNotices x).home = s.home := rfl
@[simp] theorem State.setNotices_copy (s : State) (x : NoticeUnit) : (s.setNotices x).copy = s.copy := rfl
@[simp] theorem State.setNotices_tracker (s : State) (x : NoticeUnit) : (s.setNotices x).tracker = s.tracker := rfl
@[simp] theorem State.setNotices_holds (s : State) (x : NoticeUnit) : (s.setNotices x).holds = s.holds := rfl
@[simp] theorem State.setNotices_notices (s : State) (x : NoticeUnit) : (s.setNotices x).notices = x := rfl
@[simp] theorem State.setNotices_completion (s : State) (x : NoticeUnit) : (s.setNotices x).completion = s.completion := rfl
@[simp] theorem State.setNotices_link (s : State) (x : NoticeUnit) : (s.setNotices x).link = s.link := rfl
@[simp] theorem State.setNotices_pending (s : State) (x : NoticeUnit) : (s.setNotices x).pending = s.pending := rfl

/-! ## setCompletion -/

@[simp] theorem State.setCompletion_nodeId (s : State) (x : CompletionUnit) : (s.setCompletion x).nodeId = s.nodeId := rfl
@[simp] theorem State.setCompletion_por (s : State) (x : CompletionUnit) : (s.setCompletion x).por = s.por := rfl
@[simp] theorem State.setCompletion_participation (s : State) (x : CompletionUnit) : (s.setCompletion x).participation = s.participation := rfl
@[simp] theorem State.setCompletion_cold (s : State) (x : CompletionUnit) : (s.setCompletion x).cold = s.cold := rfl
@[simp] theorem State.setCompletion_port (s : State) (x : CompletionUnit) : (s.setCompletion x).port = s.port := rfl
@[simp] theorem State.setCompletion_timing (s : State) (x : CompletionUnit) : (s.setCompletion x).timing = s.timing := rfl
@[simp] theorem State.setCompletion_control (s : State) (x : CompletionUnit) : (s.setCompletion x).control = s.control := rfl
@[simp] theorem State.setCompletion_home (s : State) (x : CompletionUnit) : (s.setCompletion x).home = s.home := rfl
@[simp] theorem State.setCompletion_copy (s : State) (x : CompletionUnit) : (s.setCompletion x).copy = s.copy := rfl
@[simp] theorem State.setCompletion_tracker (s : State) (x : CompletionUnit) : (s.setCompletion x).tracker = s.tracker := rfl
@[simp] theorem State.setCompletion_holds (s : State) (x : CompletionUnit) : (s.setCompletion x).holds = s.holds := rfl
@[simp] theorem State.setCompletion_notices (s : State) (x : CompletionUnit) : (s.setCompletion x).notices = s.notices := rfl
@[simp] theorem State.setCompletion_completion (s : State) (x : CompletionUnit) : (s.setCompletion x).completion = x := rfl
@[simp] theorem State.setCompletion_link (s : State) (x : CompletionUnit) : (s.setCompletion x).link = s.link := rfl
@[simp] theorem State.setCompletion_pending (s : State) (x : CompletionUnit) : (s.setCompletion x).pending = s.pending := rfl

/-! ## setLink -/

@[simp] theorem State.setLink_nodeId (s : State) (x : LinkUnit) : (s.setLink x).nodeId = s.nodeId := rfl
@[simp] theorem State.setLink_por (s : State) (x : LinkUnit) : (s.setLink x).por = s.por := rfl
@[simp] theorem State.setLink_participation (s : State) (x : LinkUnit) : (s.setLink x).participation = s.participation := rfl
@[simp] theorem State.setLink_cold (s : State) (x : LinkUnit) : (s.setLink x).cold = s.cold := rfl
@[simp] theorem State.setLink_port (s : State) (x : LinkUnit) : (s.setLink x).port = s.port := rfl
@[simp] theorem State.setLink_timing (s : State) (x : LinkUnit) : (s.setLink x).timing = s.timing := rfl
@[simp] theorem State.setLink_control (s : State) (x : LinkUnit) : (s.setLink x).control = s.control := rfl
@[simp] theorem State.setLink_home (s : State) (x : LinkUnit) : (s.setLink x).home = s.home := rfl
@[simp] theorem State.setLink_copy (s : State) (x : LinkUnit) : (s.setLink x).copy = s.copy := rfl
@[simp] theorem State.setLink_tracker (s : State) (x : LinkUnit) : (s.setLink x).tracker = s.tracker := rfl
@[simp] theorem State.setLink_holds (s : State) (x : LinkUnit) : (s.setLink x).holds = s.holds := rfl
@[simp] theorem State.setLink_notices (s : State) (x : LinkUnit) : (s.setLink x).notices = s.notices := rfl
@[simp] theorem State.setLink_completion (s : State) (x : LinkUnit) : (s.setLink x).completion = s.completion := rfl
@[simp] theorem State.setLink_link (s : State) (x : LinkUnit) : (s.setLink x).link = x := rfl
@[simp] theorem State.setLink_pending (s : State) (x : LinkUnit) : (s.setLink x).pending = s.pending := rfl

/-! ## setPending -/

@[simp] theorem State.setPending_nodeId (s : State) (x : List Instr) : (s.setPending x).nodeId = s.nodeId := rfl
@[simp] theorem State.setPending_por (s : State) (x : List Instr) : (s.setPending x).por = s.por := rfl
@[simp] theorem State.setPending_participation (s : State) (x : List Instr) : (s.setPending x).participation = s.participation := rfl
@[simp] theorem State.setPending_cold (s : State) (x : List Instr) : (s.setPending x).cold = s.cold := rfl
@[simp] theorem State.setPending_port (s : State) (x : List Instr) : (s.setPending x).port = s.port := rfl
@[simp] theorem State.setPending_timing (s : State) (x : List Instr) : (s.setPending x).timing = s.timing := rfl
@[simp] theorem State.setPending_control (s : State) (x : List Instr) : (s.setPending x).control = s.control := rfl
@[simp] theorem State.setPending_home (s : State) (x : List Instr) : (s.setPending x).home = s.home := rfl
@[simp] theorem State.setPending_copy (s : State) (x : List Instr) : (s.setPending x).copy = s.copy := rfl
@[simp] theorem State.setPending_tracker (s : State) (x : List Instr) : (s.setPending x).tracker = s.tracker := rfl
@[simp] theorem State.setPending_holds (s : State) (x : List Instr) : (s.setPending x).holds = s.holds := rfl
@[simp] theorem State.setPending_notices (s : State) (x : List Instr) : (s.setPending x).notices = s.notices := rfl
@[simp] theorem State.setPending_completion (s : State) (x : List Instr) : (s.setPending x).completion = s.completion := rfl
@[simp] theorem State.setPending_link (s : State) (x : List Instr) : (s.setPending x).link = s.link := rfl
@[simp] theorem State.setPending_pending (s : State) (x : List Instr) : (s.setPending x).pending = x := rfl

end Sys2Proof.Machine
end

