-- ==== Sys2Proof/Laws/Ops.lean ====
section
/-!
SUPPORT. For each shared operation, once, everything it can do.
-/

namespace Sys2Proof.Machine

/-! ## Lookups -/

/-- The entry found for a variable carries its tag. -/
theorem entryOf_tag {s : State} {v : VarNum} {i : EntryIx} (h : s.entryOf v = some i) :
    s.copy.entries[i].tag = some v := by
  simpa using List.find?_some h

/-- No entry found for a variable: no entry carries its tag. -/
theorem entryOf_none {s : State} {v : VarNum} (h : s.entryOf v = none) (i : EntryIx) :
    s.copy.entries[i].tag ≠ some v := by
  simpa using List.find?_eq_none.1 h i (List.mem_finRange i)

/-- The hold record found for a variable is active and names it. -/
theorem holdOf_names {s : State} {v : VarNum} {r : HoldIx} (h : s.holdOf v = some r) :
    ∃ g, s.holds[r] = some g ∧ g.var = v := by
  have hn : holdNames s v r = true := List.find?_some h
  unfold holdNames at hn
  split at hn
  · exact ⟨_, ‹_›, by simpa using hn⟩
  · simp at hn

/-- The free hold record found is free. -/
theorem freeHold_none {s : State} {r : HoldIx} (h : s.freeHold = some r) : s.holds[r] = none := by
  simpa using List.find?_some h

/-- The FREE slot found is FREE. -/
theorem freeSlot_free {s : State} {k : SlotIx} (h : s.freeSlot = some k) :
    s.tracker.slots[k].phase = .free := by
  simpa using List.find?_some h

/-! ## Copy table -/

/-- Promotion writes ranks only: the entry's own becomes 0, lower ones rise by one, higher ones stay (R27). -/
theorem promote_entry (i j : EntryIx) (s : State) :
    (promote i s).copy.entries[j] =
      { s.copy.entries[j] with
        age := if j = i then 0
          else if s.copy.entries[j].age < s.copy.entries[i].age then s.copy.entries[j].age + 1
          else s.copy.entries[j].age } := by
  simp only [promote, State.setCopy_copy, Fin.getElem_fin, Vector.getElem_ofFn, Fin.eta]
  split
  · rfl
  · split <;> rfl

/-- A write of one entry leaves the others. -/
theorem writeEntry_entry (i j : EntryIx) (e : CopyEntry) (s : State) :
    (writeEntry i e s).copy.entries[j] = if i = j then e else s.copy.entries[j] := by
  simp [writeEntry, Vector.getElem_set, Fin.ext_iff]

/-- A write of one slot leaves the others. -/
theorem writeSlot_slot (k j : SlotIx) (x : Slot) (s : State) :
    (writeSlot k x s).tracker.slots[j] = if k = j then x else s.tracker.slots[j] := by
  simp [writeSlot, Vector.getElem_set, Fin.ext_iff]

/-- What a slot forgets is its recorded entry, where that entry is not tagged with its variable. -/
theorem forgetEntry_slot (k j : SlotIx) (v : VarNum) (s : State) :
    (forgetEntry k v s).tracker.slots[j] = if k = j then
      { s.tracker.slots[k] with entry := s.tracker.slots[k].entry.filter fun i => s.copy.entries[i].tag == some v }
      else s.tracker.slots[j] :=
  writeSlot_slot k j _ s

/-- With no entry recorded nothing is forgotten. -/
theorem forgetEntry_of_none {k : SlotIx} {v : VarNum} {s : State} (h : s.tracker.slots[k].entry = none) :
    forgetEntry k v s = s := by
  have same : s.tracker.slots.set k { s.tracker.slots[k] with
      entry := s.tracker.slots[k].entry.filter fun i => s.copy.entries[i].tag == some v } = s.tracker.slots := by
    have same_slot : ({ s.tracker.slots[k] with entry := none } : Slot) = s.tracker.slots[k] := by rw [← h]
    rw [h, Option.filter_none, same_slot]
    exact Vector.set_getElem_self _
  rw [forgetEntry, writeSlot, same]
  rfl

/-! ## Completions and holds -/

/-- The end of a slot's command posts one record, moves its credits, releases its reservation and frees the slot; a
slot without a command only becomes FREE (R132). -/
theorem complete_cases (k : SlotIx) (r : CmdResult) (d : Option NodeMask) (s : State) :
    (s.tracker.slots[k].command = none ∧ complete k r d s = writeSlot k Slot.idle s) ∨
    ∃ c, s.tracker.slots[k].command = some c ∧
      complete k r d s = writeSlot k Slot.idle (releaseReservations k (freeCredits (creditsReturned c.body r.status)
        (post (slotRecord c s.tracker.slots[k].tenures r d) s))) := by
  unfold complete
  split
  · exact .inl ⟨‹_›, rfl⟩
  · exact .inr ⟨_, ‹_›, rfl⟩

/-- Hold entry ends HELD or HOLD-FULL with nothing changed, or OK with one free record made active (R139). -/
theorem enterHold_cases (v : VarNum) (tag : Tag) (d : BitVec 8) (s : State) :
    (s.held v = true ∧ enterHold v tag d s = (s, ⟨.held, none⟩)) ∨
    (s.held v = false ∧ s.freeHold = none ∧ enterHold v tag d s = (s, ⟨.holdFull, none⟩)) ∨
    ∃ r, s.held v = false ∧ s.freeHold = some r ∧
      enterHold v tag d s = (s.setHolds (s.holds.set r (some ⟨v, tag, d.toNat, 0⟩)), ⟨.ok, none⟩) := by
  unfold enterHold
  cases hh : s.held v
  · cases hf : s.freeHold with
    | none => exact .inr (.inl ⟨rfl, rfl, by simp⟩)
    | some r => exact .inr (.inr ⟨r, rfl, rfl, by simp⟩)
  · exact .inl ⟨rfl, by simp⟩

/-- The end of a hold by itself: nothing where the record is free, else the record is posted for and removed (R141,
R144). -/
theorem endHold_cases (r : HoldIx) (status : Status) (s : State) :
    (s.holds[r] = none ∧ endHold r status s = s) ∨
    ∃ h, s.holds[r] = some h ∧
      endHold r status s = removeHold r (post ⟨h.tag, .hold, .var h.var, status, 0, none, none⟩ s) := by
  unfold endHold
  split
  · exact .inl ⟨‹_›, rfl⟩
  · exact .inr ⟨_, ‹_›, rfl⟩

/-! ## The command port -/

/-- A submit is refused with nothing changed but its result, or the body passed every check and is admitted (R96,
R97). -/
theorem submit_cases (s : State) :
    (∃ r, checkSubmit s = .error r ∧ submit s = s.setPort { s.port with result := r }) ∨
    ∃ b, checkSubmit s = .ok b ∧ formBody s.nodeId s.port.staging = .ok b ∧ stateAdmits s.participation b = true ∧
      hasRoom s b = true ∧ submit s = settle (enqueue b s) := by
  unfold submit
  split
  · exact .inl ⟨_, ‹_›, rfl⟩
  · rename_i b h
    refine .inr ⟨b, h, ?_⟩
    unfold checkSubmit at h
    split at h
    · cases h
    · split at h
      · split at h
        · cases h
          exact ⟨‹_›, ‹_›, ‹_›, rfl⟩
        · cases h
      · cases h

/-! ## Holdoff -/

/-- What a node holding off does when its room or NPAUSE changes: nothing, a reservation, a take, or both (R154). -/
theorem tryTake_cases (s : State) :
    (s.holdingOff = false ∧ tryTake s = s) ∨
    (s.holdingOff = true ∧ ∃ b : Bool, (s.notices.reserved = true → b = true) ∧
      (b = true → s.notices.reserved = true ∨ 0 < s.room) ∧
      (tryTake s = s.setNotices { s.notices with reserved := b } ∨
        (b = true ∧ s.control.npause = false ∧
          tryTake s = (s.setNotices { s.notices with reserved := b }).setLink { s.link with taken := .follows }))) := by
  cases hh : s.holdingOff
  · exact .inl ⟨rfl, by simp [tryTake, hh]⟩
  · refine .inr ⟨rfl, ?_⟩
    unfold tryTake
    rw [if_pos hh]
    by_cases hr : s.notices.reserved = false ∧ 0 < s.room
    · refine ⟨true, fun _ => rfl, fun _ => .inr hr.2, ?_⟩
      simp only [hr, and_self, if_true, State.setNotices_notices, State.setNotices_control, true_and]
      by_cases hp : s.control.npause = false
      · exact .inr ⟨hp, by simp [hp]⟩
      · exact .inl (by simp [hp])
    · refine ⟨s.notices.reserved, id, .inl, ?_⟩
      simp only [hr, if_false]
      by_cases hp : s.notices.reserved = true ∧ s.control.npause = false
      · refine .inr ⟨hp.1, hp.2, ?_⟩
        simp only [hp, and_self, if_true]
        rw [← hp.1]
        rfl
      · refine .inl ?_
        simp only [hp, if_false]
        rfl

/-! ## Link clear -/

/-- An observed clear clears the link, counts, drops the buffers and lets the slots act; any other only silences the
link unit (R91, R92). -/
theorem abortLink_cases (d : Delivery) (s : State) :
    (s.observesClear = true ∧
      abortLink d s = slotTurns s.link.sender d (dropBuffers (countLinkClear (clearLink s)))) ∨
    (s.observesClear = false ∧ abortLink d s = clearOutside s) := by
  unfold abortLink
  cases h : s.observesClear
  · exact .inr ⟨rfl, by simp⟩
  · exact .inl ⟨rfl, by simp⟩

/-! ## A link this node takes no part in -/

/-- Following an opening changes at most VALID's level and whether a word is open. -/
theorem followOpen_link (s : State) :
    followOpen s = s.setLink { s.link with wordOpen := (followOpen s).link.wordOpen, valid := (followOpen s).link.valid } := by
  unfold followOpen
  split <;> rfl

/-- Following a completion changes at most VALID's level, whether a word is open, and this node's TAKEN contribution. -/
theorem followCompletion_link (s : State) :
    followCompletion s = s.setLink { s.link with
      wordOpen := (followCompletion s).link.wordOpen
      valid := (followCompletion s).link.valid
      taken := (followCompletion s).link.taken } := by
  unfold followCompletion
  split <;> rfl

/-- A winning request word changes at most what goes on without this node. -/
theorem followWin_link (s : State) :
    followWin s = s.setLink { s.link with outside := (followWin s).link.outside } := by
  unfold followWin
  split <;> rfl

/-- An early fall of LBUSY changes at a node that takes no part at most what goes on without it, whether a word is open, and
its TAKEN contribution. -/
theorem followFall_link (s : State) :
    followFall s = s.setLink { s.link with
      outside := (followFall s).link.outside
      wordOpen := (followFall s).link.wordOpen
      taken := (followFall s).link.taken } := by
  unfold followFall
  split
  · split <;> rfl
  · rfl

/-- A clear heard from outside changes the link unit alone. -/
theorem hearClear_link (s : State) : hearClear s = s.setLink (hearClear s).link := rfl

end Sys2Proof.Machine
end

