-- ==== Sys2Proof/Laws/Tracker.lean ====
section
/-!
SUPPORT. What the tracker's rounds can touch: an induction over the rounds, and the fields that no plan and no start
changes.
-/

namespace Sys2Proof.Machine

/-- What every plan and every start keeps, the rounds that end an event keep. -/
theorem settleFor_keeps (P : State → Prop) (hplan : ∀ k s, P s → P (planSlot k s))
    (hstart : ∀ s t, P s → startNext s = some t → P t) : ∀ n s, P s → P (settleFor n s)
  | 0, _, h => h
  | n + 1, s, h => by
    unfold settleFor
    split
    · exact settleFor_keeps P hplan hstart n _ (hplan _ _ h)
    · split
      · exact settleFor_keeps P hplan hstart n _ (hstart _ _ h ‹_›)
      · exact h

/-- The same for `settle`. -/
theorem settle_keeps (P : State → Prop) (hplan : ∀ k s, P s → P (planSlot k s))
    (hstart : ∀ s t, P s → startNext s = some t → P t) (s : State) (h : P s) : P (settle s) :=
  settleFor_keeps P hplan hstart _ s h

/-- What every plan keeps, the plans below a slot keep. -/
theorem plansBelow_keeps (P : State → Prop) (hplan : ∀ k s, P s → P (planSlot k s)) (k : SlotIx) :
    ∀ n s, P s → P (plansBelow k n s)
  | 0, _, h => h
  | n + 1, s, h => by
    unfold plansBelow
    split
    · exact plansBelow_keeps P hplan k n _ (hplan _ _ h)
    · exact h

/-- What the release of a slot's reservation, every delivery, every plan and every start keeps, the slots' turns at a
tenure's end keep. -/
theorem slotTurns_keeps (P : State → Prop) (hrel : ∀ k s, P s → P (releaseReservations k s))
    (hdel : ∀ k d s, P s → P (deliver k d s)) (hplan : ∀ k s, P s → P (planSlot k s))
    (hstart : ∀ s t, P s → startNext s = some t → P t) (sender : Option SlotIx) (d : Delivery) (s : State) (h : P s) :
    P (slotTurns sender d s) := by
  unfold slotTurns
  split
  · exact settle_keeps P hplan hstart _ h
  · refine settle_keeps P hplan hstart _ (hdel _ _ _ (plansBelow_keeps P hplan _ _ _ ?_))
    unfold releaseEnded
    split
    · exact hrel _ _ h
    · exact h

/-- Nothing starts from an empty queue. -/
theorem startNext_of_queue_nil {s : State} (h : s.port.queue = []) : startNext s = none := by
  unfold startNext
  split
  · rfl
  · rw [h]; rfl

/-- With no slot due and nothing to start a round changes nothing. -/
theorem settleFor_quiet {s : State} (hd : s.nextDue = none) (hs : startNext s = none) : ∀ n, settleFor n s = s
  | 0 => rfl
  | n + 1 => by simp only [settleFor, hd, hs]

theorem settle_quiet {s : State} (hd : s.nextDue = none) (hs : startNext s = none) : settle s = s :=
  settleFor_quiet hd hs _

/-- The lowest due slot plans first. -/
theorem settleFor_plan {s : State} {k : SlotIx} (hd : s.nextDue = some k) (n : Nat) :
    settleFor (n + 1) s = settleFor n (planSlot k s) := by simp only [settleFor, hd]

/-- With no slot due the earliest eligible record starts. -/
theorem settleFor_start {s t : State} (hd : s.nextDue = none) (hs : startNext s = some t) (n : Nat) :
    settleFor (n + 1) s = settleFor n t := by simp only [settleFor, hd, hs]

/-- No slot is due where none is in PLAN. -/
theorem nextDue_of_no_plan {s : State} (h : ∀ k : SlotIx, s.tracker.slots[k].phase ≠ .plan) : s.nextDue = none := by
  unfold State.nextDue
  rw [List.find?_eq_none]
  intro k _
  simp only [State.due, Bool.and_eq_true, beq_iff_eq, not_and]
  exact fun hp => absurd hp (h k)

/-- Where no slot below `k` is due, none plans before it. -/
theorem plansBelow_quiet {k : SlotIx} {s : State} (h : ∀ j : SlotIx, j < k → s.due j = false) :
    ∀ n, plansBelow k n s = s
  | 0 => rfl
  | n + 1 => by
    have none_due : (List.finRange 4).find? (fun j => decide (j < k) && s.due j) = none := by
      rw [List.find?_eq_none]
      intro j _
      by_cases hj : j < k
      · simp [h j hj]
      · simp [hj]
    simp only [plansBelow, none_due]

/-- `t` differs from `s` at most in the command port, the home store, the copy table, the tracker, the holds, the
completion unit, the participation state and the inhibit flag. -/
structure SameOutside (s t : State) : Prop where
  nodeId : t.nodeId = s.nodeId
  por : t.por = s.por
  cold : t.cold = s.cold
  timing : t.timing = s.timing
  control : t.control = s.control
  notices : t.notices = s.notices
  pending : t.pending = s.pending
  link : { t.link with inhibit := s.link.inhibit } = s.link

theorem SameOutside.rfl' (s : State) : SameOutside s s := ⟨rfl, rfl, rfl, rfl, rfl, rfl, rfl, rfl⟩

theorem SameOutside.trans {s t u : State} (h : SameOutside s t) (g : SameOutside t u) : SameOutside s u where
  nodeId := g.nodeId.trans h.nodeId
  por := g.por.trans h.por
  cold := g.cold.trans h.cold
  timing := g.timing.trans h.timing
  control := g.control.trans h.control
  notices := g.notices.trans h.notices
  pending := g.pending.trans h.pending
  link := by
    have h1 := h.link
    have g1 := g.link
    rw [← h1, ← g1]

theorem SameOutside.ofEq {s t u : State} (h : SameOutside s t) (e : u = t) : SameOutside s u := e ▸ h

/-! ## The updates a plan is made of -/

theorem SameOutside.setPort {s t : State} (h : SameOutside s t) (x : Port) : SameOutside s (t.setPort x) :=
  ⟨h.nodeId, h.por, h.cold, h.timing, h.control, h.notices, h.pending, h.link⟩
theorem SameOutside.setHome {s t : State} (h : SameOutside s t) (x : HomeUnit) : SameOutside s (t.setHome x) :=
  ⟨h.nodeId, h.por, h.cold, h.timing, h.control, h.notices, h.pending, h.link⟩
theorem SameOutside.setCopy {s t : State} (h : SameOutside s t) (x : CopyUnit) : SameOutside s (t.setCopy x) :=
  ⟨h.nodeId, h.por, h.cold, h.timing, h.control, h.notices, h.pending, h.link⟩
theorem SameOutside.setTracker {s t : State} (h : SameOutside s t) (x : Tracker) : SameOutside s (t.setTracker x) :=
  ⟨h.nodeId, h.por, h.cold, h.timing, h.control, h.notices, h.pending, h.link⟩
theorem SameOutside.setHolds {s t : State} (h : SameOutside s t) (x : Vector (Option HoldRecord) 4) : SameOutside s (t.setHolds x) :=
  ⟨h.nodeId, h.por, h.cold, h.timing, h.control, h.notices, h.pending, h.link⟩
theorem SameOutside.setCompletion {s t : State} (h : SameOutside s t) (x : CompletionUnit) : SameOutside s (t.setCompletion x) :=
  ⟨h.nodeId, h.por, h.cold, h.timing, h.control, h.notices, h.pending, h.link⟩
theorem SameOutside.setParticipation {s t : State} (h : SameOutside s t) (x : Participation) : SameOutside s (t.setParticipation x) :=
  ⟨h.nodeId, h.por, h.cold, h.timing, h.control, h.notices, h.pending, h.link⟩

theorem SameOutside.writeSlot {s t : State} (h : SameOutside s t) (k : SlotIx) (x : Slot) :
    SameOutside s (writeSlot k x t) := h.setTracker _
theorem SameOutside.waitFor {s t : State} (h : SameOutside s t) (k : SlotIx) (w : Waiting) :
    SameOutside s (waitFor k w t) := h.setTracker _
theorem SameOutside.sendFrame {s t : State} (h : SameOutside s t) (k : SlotIx) (f : Frame) :
    SameOutside s (sendFrame k f t) := h.setTracker _
theorem SameOutside.useEntry {s t : State} (h : SameOutside s t) (k : SlotIx) (i : EntryIx) :
    SameOutside s (useEntry k i t) := h.setTracker _
theorem SameOutside.writeEntry {s t : State} (h : SameOutside s t) (i : EntryIx) (e : CopyEntry) :
    SameOutside s (writeEntry i e t) := h.setCopy _
theorem SameOutside.promote {s t : State} (h : SameOutside s t) (i : EntryIx) : SameOutside s (promote i t) :=
  h.setCopy _
theorem SameOutside.post {s t : State} (h : SameOutside s t) (c : Completion) : SameOutside s (post c t) :=
  h.setCompletion _
theorem SameOutside.freeCredits {s t : State} (h : SameOutside s t) (n : Nat) : SameOutside s (freeCredits n t) :=
  h.setCompletion _
theorem SameOutside.releaseReservations {s t : State} (h : SameOutside s t) (k : SlotIx) :
    SameOutside s (releaseReservations k t) := h.setCopy _
theorem SameOutside.removeHold {s t : State} (h : SameOutside s t) (r : HoldIx) : SameOutside s (removeHold r t) :=
  (h.setHolds _).setTracker _

theorem sameOutside_complete (k : SlotIx) (r : CmdResult) (d : Option NodeMask) (s : State) :
    SameOutside s (complete k r d s) := by
  unfold complete
  split
  · exact (SameOutside.rfl' s).writeSlot _ _
  · exact ((((SameOutside.rfl' s).post _).freeCredits _).releaseReservations _).writeSlot _ _

theorem sameOutside_vacate (i : EntryIx) (s : State) : SameOutside s (vacate i s) := by
  unfold vacate
  simp only
  split
  · exact (SameOutside.rfl' s).writeEntry _ _
  · exact ((SameOutside.rfl' s).writeEntry _ _).writeSlot _ _

theorem sameOutside_enterHold (v : VarNum) (tag : Tag) (d : BitVec 8) (s : State) :
    SameOutside s (enterHold v tag d s).1 := by
  unfold enterHold
  split
  · exact SameOutside.rfl' s
  · split
    · exact SameOutside.rfl' s
    · exact (SameOutside.rfl' s).setHolds _

theorem sameOutside_applyHome (c : Command) (v : VarNum) (s : State) : SameOutside s (applyHome c v s).1 := by
  unfold applyHome
  split
  · exact sameOutside_enterHold _ _ _ s
  · exact (SameOutside.rfl' s).setHome _
  · split
    · simp only
      split
      · exact (SameOutside.rfl' s).setHome _
      · exact SameOutside.rfl' s
    · exact SameOutside.rfl' s

theorem sameOutside_applyCopy (c : Command) (v : VarNum) (i : EntryIx) (s : State) :
    SameOutside s (applyCopy c v i s).1 := by
  unfold applyCopy
  split
  · exact (sameOutside_enterHold _ _ _ s).promote _
  · split
    · exact ((SameOutside.rfl' s).writeEntry _ _).promote _
    · exact SameOutside.rfl' s

theorem sameOutside_completeApplied (k : SlotIx) (p : State × Option CmdResult) :
    SameOutside p.1 (completeApplied k p) := by
  unfold completeApplied
  split
  · exact sameOutside_complete _ _ _ _
  · exact SameOutside.rfl' _

theorem sameOutside_planHome (k : SlotIx) (c : Command) (v : VarNum) (s : State) :
    SameOutside s (planHome k c v s) := by
  unfold planHome
  split
  · exact (sameOutside_applyHome c v s).trans (sameOutside_completeApplied _ _)
  · exact (SameOutside.rfl' s).setTracker _

theorem sameOutside_planEvict (k : SlotIx) (b : Body) (v : VarNum) (j : EntryIx) (s : State) :
    SameOutside s (planEvict k b v j s) := by
  unfold planEvict
  simp only
  split
  · exact (SameOutside.rfl' s).setTracker _
  · exact (sameOutside_vacate j s).sendFrame _ _

theorem sameOutside_allocate (k : SlotIx) (b : Body) (v : VarNum) (s : State) :
    SameOutside s (allocate k b v s) := by
  unfold allocate
  split
  · exact (((SameOutside.rfl' s).writeEntry _ _).writeSlot _ _).sendFrame _ _
  · split
    · exact (((SameOutside.rfl' s).writeEntry _ _).writeSlot _ _).trans (sameOutside_planEvict _ _ _ _ _)
    · exact sameOutside_complete _ _ _ _

theorem sameOutside_planCopy (k : SlotIx) (c : Command) (v : VarNum) (s : State) :
    SameOutside s (planCopy k c v s) := by
  have use : ∀ i, SameOutside s (useEntry k i s) := fun i => (SameOutside.rfl' s).useEntry k i
  have hit : ∀ i, SameOutside s (completeApplied k (applyCopy c v i (useEntry k i s))) := fun i =>
    ((use i).trans (sameOutside_applyCopy c v i _)).trans (sameOutside_completeApplied _ _)
  unfold planCopy
  split
  · split
    · exact (SameOutside.rfl' s).setTracker _
    · split
      · exact (use _).sendFrame _ _
      · exact hit _
      · exact (use _).sendFrame _ _
      · exact hit _
  · split
    · split
      · exact (SameOutside.rfl' s).setTracker _
      · exact sameOutside_planEvict _ _ _ _ _
    · exact sameOutside_allocate _ _ _ _

theorem sameOutside_planRelease (k : SlotIx) (v : VarNum) (s : State) : SameOutside s (planRelease k v s) := by
  unfold planRelease
  split
  · exact sameOutside_complete _ _ _ _
  · split
    · exact sameOutside_complete _ _ _ _
    · split
      · exact sameOutside_complete _ _ _ _
      · split
        · exact (SameOutside.rfl' s).setTracker _
        · split
          · exact sameOutside_complete _ _ _ _
          · exact (sameOutside_vacate _ s).trans (sameOutside_complete _ _ _ _)
          · exact ((SameOutside.rfl' s).useEntry _ _).sendFrame _ _

theorem sameOutside_cancelQueue (s : State) : SameOutside s (cancelQueue s) := by
  have fold : ∀ (l : List Command) (t : State), SameOutside t (l.foldl
      (fun s c => freeCredits (c.body.credits - 1) (post (slotRecord c 0 ⟨.cancelled, none⟩ none) s)) t) := by
    intro l
    induction l with
    | nil => exact fun t => SameOutside.rfl' t
    | cons c rest ih =>
      intro t
      exact (((SameOutside.rfl' t).post _).freeCredits _).trans (ih _)
  exact ((SameOutside.rfl' s).setPort _).trans (fold _ _)

theorem sameOutside_countDiscards (n : Nat) (s : State) : SameOutside s (countDiscards n s) :=
  ((SameOutside.rfl' s).setCompletion _).setCompletion _

theorem sameOutside_leaveFinal (k : SlotIx) (s : State) : SameOutside s (leaveFinal k s) := by
  unfold leaveFinal
  exact (((((SameOutside.rfl' s).setCopy _).trans (sameOutside_countDiscards _ _)).setParticipation _).trans
    (sameOutside_complete _ _ _ _)).trans (sameOutside_cancelQueue _)

theorem sameOutside_barrierEnd (k : SlotIx) (b : Body) (s : State) : SameOutside s (barrierEnd k b s) := by
  unfold barrierEnd
  split
  · split
    · exact (SameOutside.rfl' s).setTracker _
    · exact sameOutside_leaveFinal _ _
  · exact sameOutside_complete _ _ _ _

theorem sameOutside_planDrain (k : SlotIx) (b : Body) (s : State) : SameOutside s (planDrain k b s) := by
  refine SameOutside.trans (t := pruneStranded k (dropCopies s))
    (((SameOutside.rfl' s).setCopy _).writeSlot _ _) ?_
  unfold planDrain drainStep
  split
  · exact (SameOutside.rfl' _).waitFor _ _
  · split
    · exact (SameOutside.rfl' _).waitFor _ _
    · split
      · exact ((SameOutside.rfl' _).useEntry _ _).sendFrame _ _
      · exact sameOutside_barrierEnd _ _ _
  · split
    · exact (SameOutside.rfl' _).waitFor _ _
    · exact sameOutside_barrierEnd _ _ _

/-- A slot that is no FLUSH or LEAVE in PLAN takes no plan for a hold's removal. -/
theorem planWoken_of_not_drains {j : SlotIx} {s : State} (h : (s.slotBody j).any Body.drains = false) :
    planWoken j s = s := by
  unfold planWoken
  split
  · rename_i e; rw [e] at h; cases h
  · rename_i e; rw [e] at h; cases h
  · rfl

/-- Below slot 0 no slot is woken: an UNHOLD there posts its record first. -/
theorem planWokenBelow_zero (s : State) : planWokenBelow 0 s = s := rfl

/-- With no FLUSH or LEAVE below slot `k`, an UNHOLD there ends alone. -/
theorem planWokenBelow_of_not_drains {k : SlotIx} {s : State}
    (h : ∀ j : SlotIx, j < k → (s.slotBody j).any Body.drains = false) : planWokenBelow k s = s := by
  have fold : ∀ l : List SlotIx, l.foldl (fun s j => if j < k then planWoken j s else s) s = s := by
    intro l
    induction l with
    | nil => rfl
    | cons j rest ih =>
      rw [List.foldl_cons]
      split
      · rename_i lt; rw [planWoken_of_not_drains (h j lt)]; exact ih
      · exact ih
  exact fold _

theorem sameOutside_planWokenBelow (k : SlotIx) (s : State) : SameOutside s (planWokenBelow k s) := by
  have one : ∀ (j : SlotIx) (t : State), SameOutside t (planWoken j t) := by
    intro j t
    unfold planWoken
    split
    · exact sameOutside_planDrain _ _ _
    · exact sameOutside_planDrain _ _ _
    · exact SameOutside.rfl' t
  have fold : ∀ (l : List SlotIx) (t : State), SameOutside t
      (l.foldl (fun s j => if j < k then planWoken j s else s) t) := by
    intro l
    induction l with
    | nil => exact fun t => SameOutside.rfl' t
    | cons j rest ih =>
      intro t
      rw [List.foldl_cons]
      split
      · exact (one j t).trans (ih _)
      · exact ih _
  exact fold _ _

theorem sameOutside_planUnhold (k : SlotIx) (v : VarNum) (s : State) : SameOutside s (planUnhold k v s) := by
  unfold planUnhold
  split
  · exact (((SameOutside.rfl' s).removeHold _).freeCredits 1).trans
      ((sameOutside_planWokenBelow _ _).trans (sameOutside_complete _ _ _ _))
  · exact sameOutside_complete _ _ _ _

theorem sameOutside_planVar (k : SlotIx) (c : Command) (v : VarNum) (s : State) :
    SameOutside s (planVar k c v s) := by
  unfold planVar
  have forgotten : SameOutside s (forgetEntry k v s) := (SameOutside.rfl' s).setTracker _
  split
  · exact forgotten.waitFor _ _
  · split
    · exact forgotten.trans (sameOutside_planRelease _ _ _)
    · exact sameOutside_planHome _ _ _ _
    · split
      · exact sameOutside_planHome _ _ _ _
      · exact forgotten.trans (sameOutside_planCopy _ _ _ _)

/-- A plan touches nothing outside the blocks `SameOutside` names. -/
theorem sameOutside_planSlot (k : SlotIx) (s : State) : SameOutside s (planSlot k s) := by
  unfold planSlot
  split
  · exact (SameOutside.rfl' s).setTracker _
  · split
    · exact sameOutside_planUnhold _ _ _
    · exact (SameOutside.rfl' s).setTracker _
    · exact (SameOutside.rfl' s).setTracker _
    · exact sameOutside_planDrain _ _ _
    · exact sameOutside_planDrain _ _ _
    · exact sameOutside_planVar _ _ _ _
    · exact sameOutside_planVar _ _ _ _
    · exact sameOutside_planVar _ _ _ _
    · exact sameOutside_planVar _ _ _ _
    · exact sameOutside_planVar _ _ _ _
    · exact sameOutside_planVar _ _ _ _

/-- A start touches nothing outside the blocks `SameOutside` names. -/
theorem sameOutside_startNext {s t : State} (h : startNext s = some t) : SameOutside s t := by
  unfold startNext at h
  split at h
  · cases h
  · split at h
    · cases h
    · cases h
      have h1 : ∀ k c q, SameOutside s (writeSlot k { Slot.idle with phase := .plan, command := some c }
          (s.setPort { s.port with queue := q })) := fun k c q => ((SameOutside.rfl' s).setPort _).writeSlot _ _
      unfold startSlot startParticipation
      split
      · exact ⟨rfl, rfl, rfl, rfl, rfl, rfl, rfl, rfl⟩
      · exact (h1 _ _ _).setParticipation _
      · exact h1 _ _ _

/-- The rounds of plans and starts touch nothing outside the blocks `SameOutside` names. -/
theorem sameOutside_settle (s : State) : SameOutside s (settle s) :=
  settle_keeps (SameOutside s) (fun k _ h => h.trans (sameOutside_planSlot k _))
    (fun _ _ h e => h.trans (sameOutside_startNext e)) s (SameOutside.rfl' s)

end Sys2Proof.Machine
end

