-- ==== Sys2Proof/Tests/Slice0.lean ====
section
/-!
SUPPORT. The well-formedness smoke test, one-step tests with values from the spec's examples, and for each statement with
hypotheses a theorem that shows states and operands meeting them, clause by clause and at the boundaries of the ranges.
-/

namespace Sys2Proof.Tests

open Sys2Proof Sys2Proof.Machine

/-! ## Small states -/

/-- A warm ONLINE node, otherwise as after POR. -/
def node (id : NodeId) : State := { State.reset with nodeId := id, participation := .online, cold := false }

/-- The state a command leaves. -/
def after (c : Instr) (s : State) : State :=
  match exec c s with
  | .next t => t
  | _ => s

/-- A value with one halfword set. -/
def value0 (x : Halfword) : Value := Value.zero.set 0 x

/-- A home record in a state, guard open. -/
def recordAs (st : HomeState) : HomeRecord := ⟨value0 7, st, .openAccess⟩

/-- A copy entry of rank `age`. -/
def entryAs (st : CopyState) (v : VarNum) (age : Nat) : CopyEntry := ⟨st, some v, value0 9, age, none⟩

/-- An active hold record with so much of its timer left. -/
def holdAs (v : VarNum) (remaining micros : Nat) : Option HoldRecord := some ⟨v, 0x40, remaining, micros⟩

/-- All four hold records active, none naming a variable of nodes 3 or 5. -/
def fourHolds : Vector (Option HoldRecord) 4 :=
  Vector.ofFn fun r => holdAs (0xC00#12 + BitVec.ofNat 12 r.val) 5 0

/-- Every entry COPY, of the variables of node 5 from 0x580 on; entry 31 is oldest. -/
def fullTable (st : CopyState) : CopyUnit :=
  ⟨Vector.ofFn fun i => entryAs st (0x580#12 + BitVec.ofNat 12 i.val) i.val, []⟩

/-- The link unit in a phase. -/
def onLink (phase : LinkPhase) (wordOpen : Bool) (index : Nat) (tn : Option Tenure) (s : State) : State :=
  s.setLink { s.link with phase := phase, wordOpen := wordOpen, wordIndex := index, tenure := tn }

/-- A tenure whose header has been taken. -/
def heard (h0 h1 : Halfword) : Tenure := ⟨h0, some h1, namedVar h0 h1, quietLines, false, 0, quietLines, none, 0⟩

/-- A tenure with its outcome and present mask. -/
def ended (h0 h1 : Halfword) (present : NodeMask) (o : TenureOutcome) : Tenure :=
  { heard h0 h1 with present := present, outcome := some o }

/-- The command tagged 0x77 whose tenure slot 1 sends. -/
def sent (b : Body) : Command := ⟨0x77, 0, b⟩

/-- Slot 1 in LINK for `b`, with the node's link unit in `phase` of its tenure. -/
def sending (b : Body) (unsuccessful : Nat) (entry : Option EntryIx) (phase : LinkPhase) (tn : Tenure) (s : State) :
    State :=
  let x : Slot := { Slot.idle with
    phase := .link, command := some (sent b), tenures := 1, unsuccessful := unsuccessful, entry := entry }
  let s1 := onLink phase (phase != .close) 0 (some tn) (writeSlot 1 x s)
  s1.setLink { s1.link with sender := some 1 }

/-! ## Well-formedness -/

theorem test_registerWrite_odd_offset_refused : (Instr.registerWrite 0x11 0).wellFormed = false := by decide
theorem test_registerWrite_even_offset_accepted : (Instr.registerWrite 0x10 0).wellFormed = true := by decide
theorem test_badCodeSubmit_good_codes_refused :
    ∀ code : BitVec 4, 1 ≤ code.toNat → code.toNat ≤ 11 → (Instr.badCodeSubmit code 0).wellFormed = false := by decide
theorem test_badCodeSubmit_bad_codes_accepted :
    ∀ code ∈ ([0, 12, 13, 14, 15] : List (BitVec 4)), (Instr.badCodeSubmit code 0).wellFormed = true := by decide

/-! ## One step, against the spec's examples -/

/-- R198: IDENT at node 6. -/
theorem test_ident : (after (.porRelease 6) State.reset).hostRead 0x00 = some 0x1206 := by decide
/-- R198: STATE and CREDITS after POR. -/
theorem test_reset_reads : State.reset.hostRead 0x02 = some 0x0004 ∧ State.reset.hostRead 0x0E = some 0x0010 := by decide
/-- R198: STATE after the JOIN of a cold node is admitted. -/
theorem test_join_state : (after (.join 1) State.reset).hostRead 0x02 = some 0x0015 := by decide
/-- R181: the JOIN frame waits in SEND for a win. -/
theorem test_join_plans :
    ((after (.join 1) State.reset).tracker.slots[0]).frame = some ⟨.join, 0, []⟩ := by decide
/-- R202: code 13 reads back BAD-CODE and leaves CREDITS. -/
theorem test_badCode : (after (.badCodeSubmit 13 0) (node 3)).hostRead 0x28 = some 2 ∧
    (after (.badCodeSubmit 13 0) (node 3)).hostRead 0x0E = some 0x0010 := by decide
/-- R96: a JOIN at an ONLINE node is WRONG-STATE. -/
theorem test_join_online : (after (.join 1) (node 3)).hostRead 0x28 = some 4 := by decide
/-- R201: TIMING1 keeps bits 12 to 0; its POR value. -/
theorem test_timing1 : (after (.registerWrite 0x0A 0xFFFF) (node 3)).hostRead 0x0A = some 0x1FFF ∧
    (node 3).hostRead 0x0A = some 0x0F32 := by decide
/-- R203: a LOAD OK at the home of QUIET zeros, tag 0x21, no tenure. -/
theorem test_load_home : (after (.load 0x21 0x03A7) (node 3)).hostRead 0x30 = some 0x1121 ∧
    (after (.load 0x21 0x03A7) (node 3)).hostRead 0x34 = some 0x0900 := by decide
/-- Chapter 12.1: node 6's LOAD of 0x3A7 takes the lowest NONE entry in fetch form and leaves 15 credits. -/
theorem test_load_fetch : (after (.load 0x21 0x03A7) (node 6)).completion.free = 15 ∧
    ((after (.load 0x21 0x03A7) (node 6)).copy.entries[0]).reservedBy = some 0 := by decide
/-- R202: a STORE of h2 only. -/
theorem test_store_h2 :
    ((after (.store 0x11 0x03A7 0x0004 (Vector.replicate 8 5)) (node 3)).record 0x3A7).value =
      Value.zero.set 2 5 := by decide
/-- R96: a STORE with an empty mask is BAD-ARG. -/
theorem test_store_empty_mask :
    (after (.store 1 0x03A7 0xFF00 Value.zero) (node 3)).hostRead 0x28 = some 3 := by decide
/-- R105: a SWAP that does not match ends MISMATCH (2) with the value. -/
theorem test_swap_mismatch :
    (after (.swap 0x10 0x03A7 1 0 (value0 3)) (node 3)).hostRead 0x30 = some 0x2310 := by decide
/-- R107: a HOLD at the home leaves 14 free and one unread record (chapter 12.3). -/
theorem test_hold_home : (after (.hold 0x40 0x03A7 10) (node 3)).completion.free = 14 ∧
    (after (.hold 0x40 0x03A7 10) (node 3)).holds[0] = some ⟨0x3A7, 0x40, 10, 0⟩ := by decide
/-- R203: HOLD-EXPIRED for tag 0x40 on 0x511, alone in the queue. -/
theorem test_holdExpiry :
    let s := after (.holdExpiry 2) ((node 6).setHolds (emptyHolds.set 2 (holdAs 0x511 1 0)))
    s.hostRead 0x30 = some 0x8540 ∧ s.hostRead 0x32 = some 0x0511 ∧ s.hostRead 0x34 = some 0x0800 := by decide
/-- R108: an UNHOLD without a hold is LATE (9). -/
theorem test_unhold_late : (after (.unhold 0x42 0x0511) (node 6)).hostRead 0x30 = some 0x9642 := by decide
/-- R132: the record of a LEAVE in slot 0, with its CANCELLED one, stands before that of the UNHOLD in slot 1 that ends it. -/
theorem test_unhold_after_leave :
    let s := writeSlot 0 { Slot.idle with phase := .plan, command := some ⟨2, 0, .leave⟩, waiting := some .holds }
      (((node 3).setParticipation .draining).setHolds (emptyHolds.set 2 (holdAs 0x511 5 0)))
    let t := after (.unhold 0x42 0x0511) (s.setPort { s.port with queue := [⟨7, 1, .load 0x301⟩] })
    (t.completion.queue.map fun c => (c.tag, c.status)) = [(2, .ok), (7, .cancelled), (0x42, .ok)] ∧
      t.participation = .offline := by decide
/-- R73, R79: TAKEN frozen by POR at VALID's high level, after an empty word, follows VALID from the fall of LBUSY on. -/
theorem test_taken_thawed_by_fall :
    let s := (node 3).setLink { (node 3).link with phase := .arbitrate, valid := true }
    let t := after .earlyLbusyFall (after .por s)
    (after .por s).link.taken = .frozen true ∧ t.link.taken = .follows ∧ t.link.outside = .nothing := by decide
/-- R106: a RELEASE of a DIRTY entry plans WRITEBACK. -/
theorem test_release_dirty :
    ((after (.release 1 0x0511) (writeEntry 4 (entryAs .dirty 0x511 4) (node 6))).tracker.slots[0]).frame =
      some ⟨.writeback, 0x0511, []⟩ := by decide
/-- R21: GUARD PRIVATE on a SHARED record plans PURGE. -/
theorem test_guard_purge :
    ((after (.guard 1 0x0301 2) (writeRecord 0x301 (recordAs .shared) (node 3))).tracker.slots[0]).frame =
      some ⟨.purge, 0x0301, []⟩ := by decide
/-- R110 and chapter 8, Example: a NOTICE of three halfwords. -/
theorem test_notice_frame :
    ((after (.notice 1 0x1290 3 (value0 8)) (node 2)).tracker.slots[0]).frame = some ⟨.notice, 0x1290, [8, 0, 0]⟩ := by
  decide
/-- R114: the slot's record of entry 1 goes when that entry carries another variable's tag. -/
theorem test_stale_entry_forgotten :
    let s := writeSlot 0 { Slot.idle with phase := .backoff, command := some ⟨1, 0, .load 0x511⟩, entry := some 1 }
      ((writeEntry 1 (entryAs .copy 0x3A7 1) (node 6)).setLink { (node 6).link with roster := 0x20 })
    ((after (.backoffExpiry 0) s).tracker.slots[0]).entry = some 0 := by decide
/-- R190 and chapter 10.3: with entries 0 COPY and 1 DIRTY, a FLUSH drops entry 0 and plans WRITEBACK 0x511. -/
theorem test_flush :
    let s := after (.flush 0x50) (writeEntry 1 (entryAs .dirty 0x511 1) (writeEntry 0 (entryAs .copy 0x3A7 0) (node 6)))
    (s.copy.entries[0]).state = .none ∧ (s.tracker.slots[0]).frame = some ⟨.writeback, 0x0511, []⟩ := by decide
/-- R192: a LEAVE with nothing to drain goes OFFLINE within the submit. -/
theorem test_leave : (after (.leave 2) (node 3)).participation = .offline := by decide
/-- R169: the pop of the only record. -/
theorem test_cqpop : (after .cqpop (after (.load 1 0x0301) (node 3))).completion.free = 16 := by decide
/-- R204: a length 3 notice from node 2, alone, reads NQHEAD 0x0132. -/
theorem test_nqhead :
    ((node 3).setNotices ⟨[⟨2, [1, 2, 3]⟩], false, []⟩).hostRead 0x50 = some 0x0132 := by decide
/-- R204: sixteen records, the head from node 9 with length 8, read 0x1089. -/
theorem test_nqhead_full :
    ((node 3).setNotices ⟨List.replicate 16 ⟨9, List.replicate 8 1⟩, false, []⟩).hostRead 0x50 = some 0x1089 := by decide
/-- R175: setting CQE with a record unread asserts IRQ. -/
theorem test_irq : (after (.cqe true) (after (.load 1 0x0301) (node 3))).irq = true := by decide
/-- R48 and chapter 3, Example: node 6's OWN has H0 0x2600. -/
theorem test_header_own : formH0 6 false ⟨.own, 0x03A7, []⟩ 0 = 0x2600 := by decide
/-- Chapter 6, Example: node 3's second READ has H0 0x1308. -/
theorem test_header_retry : formH0 3 false ⟨.read, 0x03A7, []⟩ 1 = 0x1308 := by decide
/-- Chapter 8, Example: node 2's NOTICE of length 3 has H0 0x7202. -/
theorem test_header_notice : formH0 2 false ⟨.notice, 0x1290, [1, 2, 3]⟩ 0 = 0x7202 := by decide
/-- Chapter 4.3, phase A: nodes 2, 5 and 9 bid and node 2 wins. -/
theorem test_request_lowest : lowestBid 0x0224 = some 2 := by decide
/-- Chapter 3, Example: node 3 answers HOME alone to node 6's OWN of a record LENT to node 11. -/
theorem test_home_answers : homeAnswers .own true false (recordAs (.lent 11)) = ⟨false, false, false, true, false⟩ := by
  decide
/-- Chapter 3, Example: at the commit node 3's record becomes LENT(6). -/
theorem test_home_commit :
    ((after .tenureEnd (onLink .close false 0 (some (ended 0x2600 0x03A7 0x1848 .committed))
      (writeRecord 0x3A7 (recordAs (.lent 11)) (node 3)))).record 0x3A7).state = .lent 6 := by decide
/-- Chapter 3, Example: with the lender's bit clear the record is reclaimed and counted first (R13). -/
theorem test_home_reclaim :
    (after .tenureEnd (onLink .close false 0 (some (ended 0x2600 0x03A7 0x1048 .committed))
      (writeRecord 0x3A7 (recordAs (.lent 11)) (node 3)))).completion.counters.reclaim = 1 := by decide
/-- Chapter 3, Example: node 11's entry becomes NONE at that commit (R31). -/
theorem test_holder_commit :
    ((after .tenureEnd (onLink .close false 0 (some (ended 0x2600 0x03A7 0x1848 .committed))
      (writeEntry 7 (entryAs .dirty 0x3A7 7) (node 11)))).copy.entries[7]).state = .none := by decide
/-- R49, R71: H0 with kind 0 counts a protocol error. -/
theorem test_undefined_kind :
    (after (.h0Taken 0x0500) (onLink .header false 0 none (node 3))).completion.counters.proto = 1 := by decide
/-- R91: an idle participant counts an observed clear. -/
theorem test_linkClear : (after .linkClear (node 3)).completion.counters.clear = 1 := by decide
/-- R90: LINKCLEAR's pulse is driven, and its end takes the link unit to IDLE. -/
theorem test_linkclear_pulse : (after (.linkclear 2) (node 3)).pinLclr = true ∧
    (after .linkClearRelease (after (.linkclear 2) (node 3))).link.phase = .idle := by decide
/-- R72: VALID changes level at a word's opening. -/
theorem test_valid_changes : (after (.h0Taken 0x2600) (onLink .header false 0 none (node 3))).link.valid = true := by
  decide
/-- R86: after H1 a node that is not the requester waits for the response word to open. -/
theorem test_response_awaited :
    (after (.wordComplete 0x03A7) (onLink .header true 1 (some (heard 0x2600 0x03A7)) (node 3))).link.wait =
      some ⟨.nextWord, 50⟩ := by decide
/-- R90, R94: a soft reset in a tenure pulses LCLR; a LINKCLEAR after a JOIN within the pulse overlaps it, and one clear is
counted. -/
theorem test_clear_overlaps :
    (after (.linkclear 2) (after (.join 1) (after (.softreset 1) (onLink .header false 0 none (node 3))))).completion.counters.clear
      = 1 := by decide
/-- R200: a write of 0x0F00 clears every latched bit. -/
theorem test_causeClear : (after (.causeClear 0x0F00) (after .linkClear (node 3))).hostRead 0x08 = some 0 := by decide
/-- R177: a counter at its limit stays there. -/
theorem test_counter_saturates : satAdd 65535 1 = 65535 ∧ satAdd 65534 3 = 65535 := by decide
/-- R194, R198: a soft reset leaves a warm node's STATE at 0 and CREDITS at 0x0010. -/
theorem test_softreset : (after (.softreset 0) (after (.load 1 0x0501) (node 3))).hostRead 0x02 = some 0 ∧
    (after (.softreset 0) (after (.load 1 0x0501) (node 3))).hostRead 0x0E = some 0x0010 := by decide
/-- R197: while POR is asserted a read drives nothing. -/
theorem test_por_reads_nothing : (after .por (node 3)).hostRead 0x00 = none := by decide

/-! ## Witnesses: the hypotheses of each statement are met -/

theorem witness_StepRunsFrontCommand : ((node 3).setPending [.cqpop]).pending = .cqpop :: [] := by decide

/-- No hold; then one hold at the last microsecond but one of a tick, at the last of a tick, and at the last of all. -/
theorem witness_IdleStepRunsTimebase :
    let s := fun m n => (node 3).setHolds (emptyHolds.set 2 (holdAs 0x511 n m))
    ((node 3).pending = [] ∧ (node 3).atRest ∧ (node 3).link.wait = none ∧ (node 3).link.pulse = 0 ∧
      ∀ r : HoldIx, (node 3).holds[r] = none) ∧
    ((s 98 1).atRest ∧ (∀ q : HoldIx, q ≠ 2 → (s 98 1).holds[q] = none) ∧ 98 + 1 < 100) ∧
    ((s 99 2).holds[(2 : HoldIx)] = holdAs 0x511 2 99) ∧ (s 99 1).holds[(2 : HoldIx)] = holdAs 0x511 1 99 := by decide

/-- A pulse without a wait; a wait of either sort with two microseconds left and with one; a back-off likewise. -/
theorem witness_IdleStepRunsTimebase_waits :
    let p := (node 3).setLink { (node 3).link with pulse := 2, lclr := true }
    let w := fun kind n => (onLink .response true 0 none (node 3)).setLink
      { (onLink .response true 0 none (node 3)).link with wait := some ⟨kind, n⟩ }
    let b := fun n => writeSlot 2 { Slot.idle with
      phase := .backoff, command := some (sent (.load 0x301)), backoff := n } (node 3)
    (p.pending = [] ∧ p.atRest ∧ (∀ r : HoldIx, p.holds[r] = none) ∧ p.link.wait = none) ∧
    ((w .wordCompletion 2).pending = [] ∧ (w .wordCompletion 2).atRest ∧
      (∀ r : HoldIx, (w .wordCompletion 2).holds[r] = none) ∧ (w .wordCompletion 1).atRest ∧
      (w .noticeResponse 1).atRest ∧ (w .noticeResponse 1).link.wait = some ⟨.noticeResponse, 1⟩) ∧
    ((b 2).pending = [] ∧ (b 2).por = false ∧ (b 2).link.wait = none ∧ (b 2).link.pulse = 0 ∧
      (∀ r : HoldIx, (b 2).holds[r] = none) ∧ (∀ j : SlotIx, j ≠ 2 → (b 2).tracker.slots[j] = Slot.idle) ∧
      (b 2).tracker.slots[(2 : SlotIx)].phase = .backoff ∧ (b 2).tracker.slots[(2 : SlotIx)].waiting = none ∧
      2 ≤ (b 2).tracker.slots[(2 : SlotIx)].backoff ∧ (b 1).tracker.slots[(2 : SlotIx)].backoff = 1) := by decide

theorem witness_SubmitRowsStageAndSubmit : (node 3).por = false ∧ codeIsBad 0 = true ∧ codeIsBad 12 = true ∧
    codeIsBad 15 = true ∧ codeIsBad 1 = false ∧ codeIsBad 11 = false := by decide

/-- Staging registers of a node. -/
def staged (cmd cvar carg0 carg1 : Halfword) (s : State) : State :=
  s.setPort { s.port with staging := ⟨cmd, cvar, carg0, carg1, Value.zero⟩ }

/-- A LOAD staged with so many records queued and so many credits free. -/
def crowded (records free : Nat) : State :=
  let s := staged 0x0100 0x0301 0 0 (node 3)
  (s.setPort { s.port with queue := List.replicate records (sent .flush) }).setCompletion
    { s.completion with free := free }

/-- Steps 1 and 2 of R96 failing, at the ends of their ranges. -/
theorem witness_SubmitChecksInOrder_form :
    (staged 0x0000 0 0 0 (node 3)).codeFails ∧ (staged 0x0C00 0 0 0 (node 3)).codeFails ∧
    ¬ (staged 0x0B00 0 0 0 (node 3)).codeFails ∧ (staged 0x0200 0x0301 0xFF00 0 (node 3)).argFails ∧
    (staged 0x0500 0x0301 0 0 (node 3)).argFails ∧ (staged 0x0700 0x0401 0 0 (node 3)).argFails ∧
    (staged 0x0700 0x0301 3 0 (node 3)).argFails ∧ (staged 0x0800 0 0x0008 1 (node 3)).argFails ∧
    (staged 0x0800 0 0x0010 0 (node 3)).argFails ∧ (staged 0x0800 0 0x0010 9 (node 3)).argFails ∧
    ¬ (staged 0x0800 0 0x0010 8 (node 3)).argFails := by
  refine ⟨?_, ?_, ?_, ?_, ?_, ?_, ?_, ?_, ?_, ?_, ?_⟩ <;> decide

/-- Steps 3 and 4 failing, and none failing with the last place and the last credit free. -/
theorem witness_SubmitChecksInOrder_room :
    (staged 0x0A00 0 0 0 (node 3)).stateFails ∧ (staged 0x0100 0 0 0 State.reset).stateFails ∧
    (staged 0x0100 0 0 0 ((node 3).setParticipation .draining)).stateFails ∧
    ¬ (staged 0x0600 0 0 0 ((node 3).setParticipation .draining)).stateFails ∧
    (crowded 8 1).roomFails ∧ (crowded 7 0).roomFails ∧ ¬ (crowded 7 1).codeFails ∧ ¬ (crowded 7 1).argFails ∧
    ¬ (crowded 7 1).stateFails ∧ ¬ (crowded 7 1).roomFails := by
  refine ⟨?_, ?_, ?_, ?_, ?_, ?_, ?_, ?_, ?_, ?_⟩ <;> decide

/-- When the record at place `i` of the queue may start, as SubmitChecksInOrder spells it. -/
def mayStart (s : State) (i : Nat) (c : Command) : Bool :=
  let barrier := fun c : Command => c.body.code == .flush || c.body.code == .join || c.body.code == .leave
  let earlier := s.port.queue.take i
  let busy := fun p : Command → Bool => (List.finRange 4).any fun k => (s.tracker.slots[k].command).any p
  let names := fun d : Command => c.body.var?.isSome && d.body.var? == c.body.var?
  !(earlier.any names || busy names) &&
  (c.body.code == .unhold || !(earlier.any barrier || busy barrier)) &&
  (!(c.body.code == .notice || barrier c) || (earlier.isEmpty && !busy fun d => decide (d.seq < c.seq)))

/-- None of the first `n` queued records may start, as SubmitChecksInOrder spells it. -/
def noneBefore (s : State) (n : Nat) : Bool :=
  (List.range n).all fun i => (s.port.queue[i]?).all fun c => !mayStart s i c

/-- Slots 0 and 1 in SEND with the oldest commands, and so many records of `queue` queued behind them. -/
def behind (queue : List Command) : State :=
  let busy := fun b => { Slot.idle with phase := .send, command := some (sent b) }
  let s := writeSlot 1 (busy (.load 0x302)) (writeSlot 0 (busy (.load 0x303)) (crowded 0 1))
  s.setPort { s.port with queue := queue }

/-- An admitted LOAD stays queued: with every slot busy, and behind a FLUSH that older commands hold up. Slot 2, FREE, takes
the UNHOLD queued behind that FLUSH, and no record before it. -/
theorem witness_SubmitChecksInOrder_queue :
    let full := writeSlot 3 ((behind []).tracker.slots[(0 : SlotIx)])
      (writeSlot 2 ((behind []).tracker.slots[(0 : SlotIx)]) (behind []))
    let load : Command := ⟨0, 0, .load 0x301⟩
    let flush : Command := ⟨0x50, 3, .flush⟩
    let unhold : Command := ⟨0x51, 4, .unhold 0x501⟩
    let u := behind [flush, unhold]
    (¬ full.codeFails ∧ ¬ full.argFails ∧ ¬ full.stateFails ∧ ¬ full.roomFails ∧
      (∀ k : SlotIx, full.tracker.slots[k].phase ≠ .plan ∧ full.tracker.slots[k].phase ≠ .free)) ∧
    (¬ (behind [flush]).roomFails ∧ (∀ k : SlotIx, (behind [flush]).tracker.slots[k].phase ≠ .plan) ∧
      noneBefore (behind [flush, load]) 2 = true) ∧
    (u.port.queue[1]? = some unhold ∧ u.tracker.slots[(2 : SlotIx)].phase = .free ∧
      (∀ j : SlotIx, j < 2 → u.tracker.slots[j].phase ≠ .free) ∧ mayStart u 1 unhold = true ∧
      noneBefore u 1 = true) := by
  refine ⟨⟨?_, ?_, ?_, ?_, ?_⟩, ⟨?_, ?_, ?_⟩, ⟨?_, ?_, ?_, ?_, ?_⟩⟩ <;> decide

/-- A DENIED LOAD in slot 1, with a NOTICE and then a FLUSH queued behind it. -/
theorem witness_SubmitChecksInOrder_freed :
    let tn := ended 0x1300 0x0301 0x0808 .denied
    let s := sending (.load 0x301) 0 none .close tn (node 3)
    let d : Command := ⟨1, 1, .notice 0x1290 [1]⟩
    let rest : List Command := [⟨2, 2, .flush⟩]
    let q := s.setPort { s.port with queue := d :: rest }
    q.port.queue = d :: rest ∧ q.por = false ∧ q.link.phase = .close ∧ q.link.sender = some 1 ∧
    q.link.tenure = some tn ∧ tn.outcome = some .denied ∧ q.tracker.slots[(1 : SlotIx)].phase = .link ∧
    q.tracker.slots[(1 : SlotIx)].command = some (sent (.load 0x301)) ∧
    (∀ j : SlotIx, j ≠ 1 → q.tracker.slots[j] = Slot.idle) ∧
    (rest.all fun e => (e.body.code == .notice || e.body.code == .flush) && decide (d.seq < e.seq)) = true := by decide

/-- QUIET and SHARED own records; a matching and a mismatching compare. -/
theorem witness_HomeDataLocal :
    let s := fun st => writeRecord 0x3FF (recordAs st) (node 3)
    (s .quiet).ready ∧ (s .shared).ready ∧ homeOf (operandVar 0xF3FF) = (s .quiet).nodeId ∧
    (s .quiet).boundVar ≠ some (operandVar 0xF3FF) ∧ ((s .quiet).record 0x3FF).state = .quiet ∧
    ((s .shared).record 0x3FF).state = .shared ∧ operandByte 0x0180 ≠ 0 ∧
    (((s .quiet).record 0x3FF).value[0] = 7 ∧ ((s .quiet).record 0x3FF).value[1] = 0) ∧
    ¬ (((s .quiet).record 0x3FF).value[0] = 7 ∧ ((s .quiet).record 0x3FF).value[1] = 1) := by decide

theorem witness_HomeRecallPlans :
    let s := fun st free => (writeRecord 0x301 (recordAs st) (node 3)).setCompletion
      { (node 3).completion with free := free }
    (s (.lent 5) 1).ready ∧ homeOf (operandVar 0x0301) = (3 : NodeId) ∧ (s (.lent 5) 1).boundVar ≠ some 0x301 ∧
    (((s (.lent 5) 2).record 0x301).state.isLent = true ∧ Kind.own = .own) ∧
    (((s .shared 2).record 0x301).state = .shared ∧ Kind.purge = .purge) ∧ (s .shared 2).ready ∧
    operandByte 1 ≠ 0 ∧ 2 ≤ (s .shared 2).completion.free := by decide

theorem witness_HomeHoldLocal :
    let s := fun holds => ((node 3).setHolds holds).setCompletion { (node 3).completion with free := 2 }
    let one := emptyHolds.set 3 (holdAs 0x301 5 0)
    let three := fourHolds.set 3 none
    ((s one).ready ∧ 2 ≤ (s one).completion.free ∧ homeOf (operandVar 0x0301) = (3 : NodeId) ∧
      (s one).boundVar ≠ some 0x301 ∧ ((s one).record 0x301).state = .quiet ∧ operandByte 0xFF ≠ 0 ∧
      (s one).held (operandVar 0x0301) = true) ∧
    ((s fourHolds).held 0x301 = false ∧ (s fourHolds).freeHold = none) ∧
    ((s three).held 0x301 = false ∧ (s three).freeHold = some 3) := by decide

theorem witness_GuardPlans :
    let s := fun st => writeRecord 0x301 (recordAs st) (node 3)
    (s .quiet).ready ∧ homeOf (operandVar 0x0301) = (3 : NodeId) ∧ (s .quiet).boundVar ≠ some 0x301 ∧
    ((0xFFFE : Halfword).extractLsb' 0 2 = Guard.privateAccess.number ∧ ((s .quiet).record 0x301).state = .quiet) ∧
    ((4 : Halfword).extractLsb' 0 2 = Guard.openAccess.number ∧ ((s (.lent 5)).record 0x301).state.isLent = true) ∧
    ((1 : Halfword).extractLsb' 0 2 = Guard.homeOnly.number ∧ ((s .shared).record 0x301).state = .shared) := by decide

theorem witness_ReleasePlans :
    let s := fun st => writeEntry 31 (entryAs st 0x501 31) (node 3)
    ((node 3).setHolds (emptyHolds.set 0 (holdAs 0x501 5 0))).held (operandVar 0x0501) = true ∧
    ((node 3).held (operandVar 0x0301) = false ∧ homeOf (operandVar 0x0301) = (node 3).nodeId) ∧
    ((node 3).ready ∧ (node 3).held 0x501 = false ∧ homeOf (operandVar 0x0501) ≠ (node 3).nodeId ∧
      (node 3).entryOf 0x501 = none ∧ (node 3).boundVar ≠ some 0x501) ∧
    ((s .copy).ready ∧ (s .copy).entryOf 0x501 = some 31 ∧ ((s .copy).copy.entries[31]).state = .copy) ∧
    ((s .owned).ready ∧ (s .owned).entryOf 0x501 = some 31 ∧ ((s .owned).copy.entries[31]).state = .owned) ∧
    ((s .dirty).ready ∧ (s .dirty).entryOf 0x501 = some 31 ∧ ((s .dirty).copy.entries[31]).state = .dirty) := by decide

theorem witness_UnholdEndsHold :
    let s := (node 3).setHolds (emptyHolds.set 3 (holdAs 0x501 5 0))
    (s.ready ∧ s.holdOf (operandVar 0x0501) = some 3) ∧ ((node 3).ready ∧ (node 3).held 0x501 = false) := by decide

/-- A FLUSH in slot 0, and a DRAINING node's LEAVE in slot 3, each waiting for one hold alone. -/
theorem witness_UnholdEndsHold_barrier :
    let waits := fun k b s => writeSlot k { Slot.idle with
      phase := .plan, command := some (sent b), waiting := some .holds, tenures := 2 }
      ((s : State).setHolds (emptyHolds.set 3 (holdAs 0x501 5 0)))
    let f := waits 0 .flush (node 3)
    let l := waits 3 .leave ((node 3).setParticipation .draining)
    (f.por = false ∧ f.participation = .online ∧ f.inTenure = false ∧ 1 ≤ f.completion.free ∧ f.port.queue = [] ∧
      (∀ j : SlotIx, j ≠ 0 → f.tracker.slots[j] = Slot.idle) ∧ f.tracker.slots[(0 : SlotIx)].phase = .plan ∧
      f.tracker.slots[(0 : SlotIx)].waiting = some .holds ∧ f.tracker.slots[(0 : SlotIx)].command = some (sent .flush) ∧
      (∀ i : EntryIx, f.copy.entries[i].state = .none ∧ f.copy.entries[i].reservedBy = none) ∧
      f.holdOf (operandVar 0x0501) = some 3 ∧ (∀ q : HoldIx, q ≠ 3 → f.holds[q] = none)) ∧
    (l.participation = .draining ∧ l.inTenure = false ∧ (∀ j : SlotIx, j ≠ 3 → l.tracker.slots[j] = Slot.idle) ∧
      l.tracker.slots[(3 : SlotIx)].command = some (sent .leave) ∧ l.holdOf (operandVar 0x0501) = some 3 ∧
      (∀ q : HoldIx, q ≠ 3 → l.holds[q] = none)) := by
  refine ⟨?_, ?_⟩ <;> decide

theorem witness_CopyHits :
    let s := fun st => writeEntry 31 (entryAs st 0x501 31) (node 3)
    let v := operandVar 0xF501
    ((s .copy).ready ∧ homeOf v ≠ (s .copy).nodeId ∧ (s .copy).boundVar ≠ some v ∧ (s .copy).entryOf v = some 31 ∧
      ((s .copy).copy.entries[31]).state ≠ .none) ∧
    ((s .owned).ready ∧ (s .owned).entryOf v = some 31 ∧ ((s .owned).copy.entries[31]).state = .owned ∧
      operandByte 0x80 ≠ 0) ∧
    ((s .dirty).ready ∧ (s .dirty).entryOf v = some 31 ∧ ((s .dirty).copy.entries[31]).state = .dirty ∧
      ((s .dirty).copy.entries[31]).value[0] = 9 ∧ ((s .dirty).copy.entries[31]).value[1] = 0) := by decide

theorem witness_CopyHoldHit :
    let s := fun holds => (writeEntry 0 (entryAs .owned 0x501 0) (node 3)).setHolds holds
    let one := emptyHolds.set 3 (holdAs 0x501 5 0)
    ((s one).ready ∧ 2 ≤ (s one).completion.free ∧ homeOf (operandVar 0x0501) ≠ (s one).nodeId ∧
      (s one).boundVar ≠ some 0x501 ∧ (s one).entryOf 0x501 = some 0 ∧ ((s one).copy.entries[0]).state = .owned ∧
      operandByte 0x01 ≠ 0 ∧ (s one).held 0x501 = true) ∧
    ((s fourHolds).held 0x501 = false ∧ (s fourHolds).freeHold = none) ∧
    ((s emptyHolds).held 0x501 = false ∧ (s emptyHolds).freeHold = some 0) := by decide

/-- The one NONE entry left is the last; and a COPY of the variable. -/
theorem witness_CopyFetchPlans :
    let s := (node 3).setCopy { fullTable .copy with
      entries := (fullTable .copy).entries.set 31 ⟨.none, none, Value.zero, 31, none⟩ }
    (s.ready ∧ homeOf (operandVar 0x0501) ≠ s.nodeId ∧ s.boundVar ≠ some 0x501 ∧ s.entryOf 0x501 = none ∧
      s.freeEntry = some 31 ∧ operandByte 1 ≠ 0 ∧ 2 ≤ s.completion.free) ∧
    (s.entryOf (operandVar 0x0580) = some 0 ∧ (s.copy.entries[0]).state = .copy) := by decide

/-- A command on a variable bound here, own and not, and one on an entry that slot 2 has reserved as its victim. -/
theorem witness_CopyFetchPlans_waits :
    let bound := fun id => onLink .header false 0 (some (heard 0x1900 0x03A7)) (node id)
    let r := writeSlot 2 { Slot.idle with phase := .link, command := some (sent (.load 0x501)), victim := some 5 }
      (writeEntry 5 { entryAs .owned 0x3A7 5 with reservedBy := some 2 } (node 6))
    ((bound 3).slotZeroOpen ∧ (∀ j : SlotIx, (bound 3).slotVar j ≠ some 0x3A7) ∧
      (bound 3).boundVar = some (operandVar 0x03A7) ∧ homeOf 0x3A7 = (bound 3).nodeId ∧
      (2 : Halfword).extractLsb' 0 2 = Guard.privateAccess.number) ∧
    ((bound 6).slotZeroOpen ∧ (bound 6).boundVar = some (operandVar 0x03A7) ∧ homeOf 0x3A7 ≠ (bound 6).nodeId ∧
      operandByte 1 ≠ 0 ∧ 2 ≤ (bound 6).completion.free) ∧
    (r.slotZeroOpen ∧ (∀ j : SlotIx, r.slotVar j ≠ some 0x3A7) ∧ r.boundVar ≠ some 0x3A7 ∧ homeOf 0x3A7 ≠ r.nodeId ∧
      r.entryOf 0x3A7 = some 5 ∧ (r.copy.entries[5]).reservedBy ≠ none ∧ r.held 0x3A7 = false) := by
  refine ⟨?_, ?_, ?_⟩ <;> decide

/-- The conditions of R41 step 2 on a victim, as EvictionPlans spells them. -/
def canEvict (s : State) (k : SlotIx) (i : EntryIx) : Bool := (s.copy.entries[i].tag).any fun w =>
  s.copy.entries[i].state != .none && s.copy.entries[i].reservedBy == none
    && (List.finRange 4).all (fun r => (s.holds[r]).all fun h => h.var != w)
    && (s.link.tenure).all (fun tn => tn.bound != some w)
    && (List.finRange 4).all (fun j => j == k || (s.slotVar j != some w
      && !((s.slotBody j == some .flush || s.slotBody j == some .leave) && s.tracker.slots[j].entry == some i)))
    && s.link.roster.getLsbD (homeOf w).toNat

/-- A full table beside a busy slot 2: no home present, then an oldest COPY, OWNED and DIRTY victim. Entry 31, reserved by
slot 2, entry 30, its tag held, and entry 29, tagged with slot 2's variable, are passed over. -/
def crowdedTable (st : CopyState) (roster : NodeMask) : State :=
  let s := (((node 3).setCopy (fullTable st)).setLink { (node 3).link with roster := roster }).setHolds
    (emptyHolds.set 1 (holdAs 0x59E 5 0))
  let s := writeSlot 2 { Slot.idle with phase := .send, command := some (sent (.load 0x59D)) } s
  writeEntry 31 ⟨.none, none, Value.zero, 31, some 2⟩ s

theorem witness_EvictionPlans_open : (crowdedTable .copy 0).slotZeroOpen ∧ (crowdedTable .copy 0x28).slotZeroOpen ∧
    (crowdedTable .owned 0x28).slotZeroOpen ∧ (crowdedTable .dirty 0x28).slotZeroOpen ∧
    homeOf (operandVar 0x0501) ≠ (node 3).nodeId ∧ (crowdedTable .copy 0).boundVar ≠ some 0x501 ∧
    (∀ j : SlotIx, (crowdedTable .copy 0).slotVar j ≠ some 0x501) ∧ operandByte 1 ≠ 0 ∧
    2 ≤ (crowdedTable .copy 0).completion.free := by
  refine ⟨?_, ?_, ?_, ?_, ?_, ?_, ?_, ?_, ?_⟩ <;> decide

theorem witness_EvictionPlans_full : (∀ i : EntryIx, (crowdedTable .copy 0).copy.entries[i].tag ≠ some 0x501) ∧
    (∀ i : EntryIx, (crowdedTable .copy 0).copy.entries[i].state = .none →
      (crowdedTable .copy 0).copy.entries[i].reservedBy ≠ none) ∧
    (∀ i : EntryIx, canEvict (crowdedTable .copy 0) 0 i = false) ∧ (crowdedTable .copy 0).oldestVictim 0 = none := by
  refine ⟨?_, ?_, ?_, ?_⟩ <;> decide

theorem witness_EvictionPlans_victim :
    let oldest := fun st => canEvict (crowdedTable st 0x28) 0 28 = true ∧
      ∀ i : EntryIx, canEvict (crowdedTable st 0x28) 0 i = true → i ≠ 28 →
        (crowdedTable st 0x28).copy.entries[i].age < (crowdedTable st 0x28).copy.entries[(28 : EntryIx)].age
    oldest .copy ∧ oldest .owned ∧ oldest .dirty ∧
    (crowdedTable .copy 0x28).copy.entries[(28 : EntryIx)].tag = some 0x59C ∧
    (crowdedTable .dirty 0x28).copy.entries[(28 : EntryIx)].state = .dirty ∧
    (crowdedTable .copy 0x28).oldestVictim 0 = some 28 := by
  refine ⟨?_, ?_, ?_, ?_, ?_, ?_⟩ <;> decide

theorem witness_NoticePlans : (node 3).ready ∧ (0x8000 : Halfword) ≠ 0 ∧
    (0x8000 : Halfword).getLsbD (node 3).nodeId.toNat = false ∧ 1 ≤ ((1 : Halfword).extractLsb' 0 4).toNat ∧
    1 ≤ ((8 : Halfword).extractLsb' 0 4).toNat ∧ ((8 : Halfword).extractLsb' 0 4).toNat ≤ 8 := by decide

/-- The entries R187 step 3 may offer, as DrainPlans spells them. -/
def canOffer (s : State) (i : EntryIx) : Bool :=
  (s.copy.entries[i].state == .owned || s.copy.entries[i].state == .dirty)
    && (s.copy.entries[i].tag).any fun w => (List.finRange 4).all fun r => (s.holds[r]).all fun h => h.var != w

/-- With nothing to offer: no hold, in a tenure or not, and a hold on the one DIRTY entry. Then an OWNED entry offered past
that one. -/
theorem witness_DrainPlans :
    let b := onLink .header false 0 none (node 3)
    let h := (writeEntry 4 (entryAs .dirty 0x502 4) (node 3)).setHolds (emptyHolds.set 1 (holdAs 0x502 5 0))
    let e := writeEntry 31 (entryAs .owned 0x501 31) h
    ((node 3).ready ∧ (node 3).boundVar = none ∧ (∀ i : EntryIx, canOffer (node 3) i = false) ∧
      (∀ r : HoldIx, (node 3).holds[r] = none) ∧ (node 3).inTenure = false) ∧
    (b.ready ∧ b.boundVar = none ∧ (∀ i : EntryIx, canOffer b i = false) ∧ b.inTenure = true) ∧
    (h.ready ∧ (∀ i : EntryIx, canOffer h i = false) ∧ h.holds[(1 : HoldIx)] ≠ none) ∧
    (e.ready ∧ canOffer e 31 = true ∧ (∀ j : EntryIx, j < 31 → canOffer e j = false) ∧
      (e.copy.entries[31]).tag = some 0x501) := by
  refine ⟨?_, ?_, ?_, ?_⟩ <;> decide

theorem witness_JoinPlans :
    State.reset.atRest ∧ State.reset.participation = .offline ∧ 1 ≤ State.reset.completion.free := by decide

theorem witness_LeaveFinalStepEnds :
    let x : Slot := { Slot.idle with
      phase := .plan, command := some (sent .leave), waiting := some .tenureEnd, stranded := [4] }
    let s := writeSlot 3 x ((node 3).setPort { (node 3).port with queue := [sent (.hold 0x501 3)] })
    s.por = false ∧ s.inTenure = false ∧ (∀ j : SlotIx, j ≠ 3 → s.tracker.slots[j] = Slot.idle) ∧
    s.tracker.slots[3].phase = .plan ∧ s.tracker.slots[3].command = some (sent .leave) ∧
    s.tracker.slots[3].waiting = some .tenureEnd ∧ ∀ i : EntryIx, s.copy.entries[i].reservedBy = none := by decide

theorem witness_CompletionPop :
    let s := (node 3).setCompletion { (node 3).completion with queue := [⟨1, .load, .var 0x301, .ok, 0, none, none⟩] }
    (node 3).por = false ∧ (node 3).completion.queue = [] ∧ s.por = false ∧
      s.completion.queue = ⟨1, .load, .var 0x301, .ok, 0, none, none⟩ :: [] := by decide

theorem witness_HeadRegistersRead :
    let c : Completion := ⟨1, .notice, .listeners 0x0290, .ok, 1, none, some 0x0290⟩
    let s := ((node 3).setCompletion { (node 3).completion with queue := [c] }).setNotices ⟨[⟨2, [1, 2, 3]⟩], false, []⟩
    ((node 3).por = false ∧ (node 3).completion.queue = [] ∧ (node 3).notices.inbound = []) ∧
    (s.por = false ∧ s.completion.queue = c :: [] ∧ c.subject = .listeners 0x0290 ∧
      s.notices.inbound = ⟨2, [1, 2, 3]⟩ :: []) ∧ (s.setPor true).por = true := by decide

/-- The last of 16 records' places, and a queue with room. -/
theorem witness_NoticePop :
    let s := fun taken reserved npause => (((node 3).setNotices ⟨List.replicate 16 ⟨2, [1]⟩, reserved, []⟩).setLink
      { (node 3).link with taken := taken }).setControl { (node 3).control with npause := npause }
    ((node 3).por = false ∧ (node 3).notices.inbound = []) ∧
    ((s .follows false false).notices.inbound = ⟨2, [1]⟩ :: List.replicate 15 ⟨2, [1]⟩ ∧
      (List.replicate 15 (⟨2, [1]⟩ : NoticeRecord)).length < 16 ∧ (s .follows false false).link.taken ≠ .withheld) ∧
    ((s .withheld false false).link.taken = .withheld ∧ (s .withheld false false).notices.reserved = false ∧
      (s .withheld false false).control.npause = false) ∧
    ((s .withheld false true).link.taken = .withheld ∧ (s .withheld false true).control.npause = true) := by decide

theorem witness_SoftResetEffects : (onLink .header false 0 none (node 3)).por = false ∧
    (onLink .header false 0 none (node 3)).inTenure = true ∧ (node 3).inTenure = false := by decide

theorem witness_ControlWrites :
    let s := ((node 3).setLink { (node 3).link with taken := .withheld }).setNotices ⟨[], true, []⟩
    (node 3).por = false ∧ (2 : Halfword).getLsbD 0 = false ∧ (3 : Halfword).getLsbD 0 = true ∧
    (s.por = false ∧ s.link.taken = .withheld ∧ s.notices.reserved = true) := by decide

theorem witness_IrqIsLevel : (node 3).por = false := by decide

theorem witness_CauseRegister : (node 3).por = false ∧ (after .por (node 3)).por = true ∧
    exec (.porRelease 6) (after .por (node 3)) = .next (after (.porRelease 6) (after .por (node 3))) ∧
    exec (.softreset 1) (node 3) = .next (after (.softreset 1) (node 3)) ∧
    exec (.causeClear 1) (node 3) = .next (after (.causeClear 1) (node 3)) ∧
    ((node 3).cq && (node 3).control.cqe) = false ∧ ((node 3).nq && (node 3).control.nqe) = false ∧
    (after (.causeClear 1) (node 3)).completion.latched.any = false := by
  refine ⟨by decide, by decide, rfl, rfl, rfl, by decide, by decide, by decide⟩

theorem witness_CounterRegisters :
    let s := (node 3).setCompletion { (node 3).completion with counters := ⟨65535, 65534, 0, 0, 0⟩ }
    s.por = false ∧ s.completion.counters.get .retry = 65535 ∧ s.completion.counters.get .clear ≠ 65535 ∧
    (after .por s).por = true ∧ exec (.porRelease 6) (after .por s) = .next (after (.porRelease 6) (after .por s)) ∧
    exec (.softreset 1) s = .next (after (.softreset 1) s) := by
  refine ⟨by decide, by decide, by decide, by decide, rfl, rfl⟩

theorem witness_StatusRegisters : (node 3).por = false ∧ (after .por (node 3)).por = true ∧ State.reset.atRest ∧
    State.reset.participation = .offline ∧ 1 ≤ State.reset.completion.free := by decide

theorem witness_RegisterWritesByClass : (node 3).por = false ∧
    exec (.registerWrite 0x10 5) (node 3) = .next (after (.registerWrite 0x10 5) (node 3)) ∧
    exec (.registerWrite 0x0A 5) (node 3) = .next (after (.registerWrite 0x0A 5) (node 3)) ∧
    ((0x0710 : Halfword).getLsbD 0 = false ∧ (0x0710 : Halfword).getLsbD 1 = false) ∧
    ((3 : Halfword).getLsbD 0 = true ∧ (3 : Halfword).getLsbD 1 = true) := by
  refine ⟨by decide, rfl, rfl, by decide, by decide⟩

theorem witness_PorSilences : (after .por (node 3)).por = true := by decide

theorem witness_PhaseOpens :
    let b := writeSlot 3 { Slot.idle with phase := .send } (node 3)
    let c := (node 3).setLink { (node 3).link with lclr := true }
    let o := (node 3).setLink { (node 3).link with outside := .phase }
    ((node 3).por = false ∧ (node 3).link.phase = .idle ∧ (node 3).link.lclr = false ∧ (node 3).link.outside = .nothing ∧
      (node 3).leaveDue = none ∧ (node 3).participation ≠ .offline ∧ (node 3).frameReady = false) ∧
    (State.reset.link.phase = .idle ∧ State.reset.link.lclr = false ∧ State.reset.link.outside = .nothing ∧
      State.reset.leaveDue = none ∧ State.reset.participation = .offline) ∧
    (b.por = false ∧ b.link.phase = .idle ∧ b.link.lclr = false ∧ b.link.outside = .nothing ∧ b.leaveDue = none ∧
      b.participation ≠ .offline ∧ b.frameReady = true) ∧
    (c.por = false ∧ c.link.phase = .idle ∧ c.link.lclr = true) ∧
    (o.por = false ∧ o.link.phase = .idle ∧ o.link.lclr = false ∧ o.link.outside = .phase) := by decide

/-- The pointer past the only slot in SEND: it is reached last. -/
theorem witness_WinSendsFrame :
    let f : Frame := ⟨.own, 0x03A7, []⟩
    let x : Slot := { Slot.idle with phase := .send, frame := some f }
    let s := onLink .arbitrate true 0 none ((node 6).setTracker ⟨(node 6).tracker.slots.set 1 x, 2⟩)
    let s := s.setLink { s.link with bidding := true }
    s.por = false ∧ s.link.phase = .arbitrate ∧ s.link.wordOpen = true ∧ s.link.bidding = true ∧
    (∀ i : Fin 16, i.val < s.nodeId.toNat → (0x0840 : Halfword).getLsbD i.val = false) ∧
    s.tracker.slots[(1 : SlotIx)].phase = .send ∧ s.tracker.slots[(1 : SlotIx)].frame = some f ∧
    ∀ d : Fin 4, d.val < ((1 : SlotIx) - s.tracker.pointer).val →
      s.tracker.slots[s.tracker.pointer + d].phase ≠ .send := by decide

theorem witness_RequestWordNotWon :
    let s := onLink .arbitrate true 0 none (node 6)
    let r := writeSlot 0 { Slot.idle with phase := .send } s
    (s.por = false ∧ s.link.phase = .arbitrate ∧ s.link.wordOpen = true ∧ s.link.bidding = false ∧
      s.frameReady = false) ∧
    (r.link.phase = .arbitrate ∧ r.link.wordOpen = true ∧ r.link.bidding = false ∧ r.frameReady = true) ∧
    ((0x0020 : Halfword).getLsbD 5 = true ∧ 5 < (node 6).nodeId.toNat) := by decide

theorem witness_HeaderPacks : kindOf 0x9000 = none ∧ kindOf 0x8FFF = some .join ∧ kindOf 0x1000 = some .read ∧
    kindOf 0x0FFF = none := by decide

theorem witness_H0Taken :
    let s := onLink .header false 0 none (node 3)
    let o := (node 3).setLink { (node 3).link with outside := .tenure }
    s.por = false ∧ s.awaitsHeader 0 = true ∧ 1 ≤ ((0x1600 : Halfword).extractLsb' 12 4).toNat ∧
    ((0x8600 : Halfword).extractLsb' 12 4).toNat ≤ 8 ∧ ((0x0600 : Halfword).extractLsb' 12 4).toNat = 0 ∧
    9 ≤ ((0x9600 : Halfword).extractLsb' 12 4).toNat ∧
    ((node 3).awaitsHeader 0 = false ∧ (node 3).link.outside = .nothing) ∧
    (o.link.phase = .idle ∧ o.link.outside ≠ .nothing ∧ o.link.wordOpen = false) := by decide

theorem witness_HomeAnswers :
    let tn : Tenure := { heard 0x3600 0x03A7 with h1 := none, bound := none }
    let s := onLink .header false 1 (some tn) (writeRecord 0x3A7 (recordAs (.lent 11)) (node 3))
    s.por = false ∧ s.awaitsHeader 1 = true ∧ s.link.tenure = some tn ∧ kindOf tn.h0 = some .claim ∧
    Kind.claim.isVar = true ∧ (s.participation = .online ∨ s.participation = .draining) ∧
    homeOf (h1Var 0xF3A7) = s.nodeId ∧ sourceOf tn.h0 ≠ s.nodeId ∧
    (decide (Kind.claim = .claim) && (s.record 0x3A7).state.isLent) = true := by decide

theorem witness_OtherAnswers :
    let tn : Tenure := { heard 0x1600 0x0511 with h1 := none, bound := none }
    let s := onLink .header false 1 (some tn) (writeEntry 31 (entryAs .dirty 0x511 31) (node 3))
    let n := writeEntry 31 { entryAs .none 0x511 31 with reservedBy := some 2 } s
    let j := s.setParticipation .joining
    let asKind := fun h0 => onLink .header false 1 (some { tn with h0 := h0 }) (node 3)
    (s.por = false ∧ s.awaitsHeader 1 = true ∧ s.link.tenure = some tn ∧ kindOf tn.h0 = some .read ∧
      Kind.read.isVar = true ∧ s.participation = .online ∧ homeOf (h1Var 0x0511) ≠ s.nodeId ∧
      s.entryOf 0x511 = some 31 ∧ (s.copy.entries[31]).state ≠ .none ∧ s.entryOf 0x512 = none) ∧
    (n.entryOf 0x511 = some 31 ∧ (n.copy.entries[31]).state = .none) ∧
    (j.awaitsHeader 1 = true ∧ j.participation = .joining) ∧
    ((asKind 0x7600).awaitsHeader 1 = true ∧ kindOf 0x7600 = some .notice ∧ kindOf 0x8600 = some .join ∧
      kindOf 0x9600 = none) := by decide

/-- Each header word at the requester and at another node, the requester's second for a NOTICE too. -/
theorem witness_HeaderWordCompletes :
    let tn := heard 0x1600 0x03A7
    let s := fun index sender => (onLink .header true index (some tn) (node 6)).setLink
      { (onLink .header true index (some tn) (node 6)).link with sender := sender }
    ((s 0 (some 1)).por = false ∧ (s 0 (some 1)).link.phase = .header ∧ (s 0 (some 1)).link.wordOpen = true ∧
      (s 0 (some 1)).link.tenure = some tn ∧ (s 0 (some 1)).link.wordIndex = 0 ∧
      (s 0 (some 1)).link.sender.isSome = true ∧ tn.h1 = some 0x03A7 ∧ (0x1600 : Halfword) ||| tn.h0 = tn.h0) ∧
    ((s 0 none).link.wordIndex = 0 ∧ (s 0 none).link.sender = none) ∧
    ((s 1 none).link.wordIndex = 1 ∧ (s 1 none).link.sender = none) ∧
    ((s 1 (some 1)).link.wordIndex = 1 ∧ (s 1 (some 1)).link.sender.isSome = true ∧
      (0x03A7 : Halfword) ||| 0x03A7 = 0x03A7 ∧ kindOf 0x1600 ≠ some .notice ∧ kindOf 0x7600 = some .notice) := by
  decide

/-- A requester that is the home; and the header of a NOTICE. -/
theorem witness_HeaderWordCompletes_home :
    let tn := heard 0x2300 0x03A7
    let s := (onLink .header true 0 (some tn) (node 3)).setLink
      { (onLink .header true 0 (some tn) (node 3)).link with sender := some 1 }
    s.por = false ∧ s.link.phase = .header ∧ s.link.wordOpen = true ∧ s.link.tenure = some tn ∧ s.link.wordIndex = 0 ∧
    s.link.sender.isSome = true ∧ tn.h1 = some 0x03A7 ∧ (0x0300 : Halfword) ||| tn.h0 = tn.h0 ∧
    kindOf tn.h0 = some .own ∧ Kind.own.isVar = true ∧ homeOf (h1Var 0x03A7) = s.nodeId ∧ sourceOf tn.h0 = s.nodeId ∧
    s.participation = .online ∧ kindOf 0x7302 = some .notice ∧ Kind.notice.isVar = false := by decide

theorem witness_NoticeResponseOpens :
    let s := fun addressed inbound npause => (onLink .response false 0
      (some { heard 0x7202 0x1290 with addressed := addressed }) ((node 4).setNotices
        ⟨List.replicate inbound ⟨2, [1]⟩, false, []⟩)).setControl { (node 4).control with npause := npause }
    ((s false 0 false).por = false ∧ (s false 0 false).link.phase = .response ∧
      (s false 0 false).link.wordOpen = false ∧ kindOf 0x7202 = some .notice ∧
      (s false 0 false).notices.reserved = false) ∧
    ((s true 15 false).notices.inbound.length < 16 ∧ (s true 15 false).control.npause = false) ∧
    ((s true 15 true).control.npause = true ∧ 16 ≤ (s true 16 false).notices.inbound.length) ∧
    kindOf 0x2600 ≠ some .notice := by decide

theorem witness_ResponseLatched :
    let tn := heard 0x2600 0x03A7
    let s := fun wordOpen => onLink .response wordOpen 0 (some tn) (node 3)
    ((s true).por = false ∧ (s true).link.phase = .response ∧ (s true).link.wordOpen = true ∧
      (s true).link.taken ≠ .withheld ∧ (s true).link.tenure = some tn ∧ tn.h1 = some 0x03A7 ∧
      ¬ ((s true).link.sender.isSome = true ∧ kindOf tn.h0 = some .join ∧
        (0x1848 : NodeMask).getLsbD (s true).nodeId.toNat = true)) ∧
    ((s false).link.phase = .response ∧ kindOf tn.h0 ≠ some .notice) := by
  decide

theorem witness_DuplicateIdEndsJoin :
    let tn := heard 0x8601 0
    let s := fun phase => (sending .join 0 none phase tn (node 6)).setParticipation .joining
    ((s .response).sendingAlone 1 (sent .join) ∧ (∀ i : EntryIx, (s .response).copy.entries[i].reservedBy = none) ∧
      (s .response).link.tenure = some tn ∧ kindOf tn.h0 = some .join ∧ tn.h1 = some 0 ∧
      (s .response).link.wordOpen = true ∧ (s .response).link.phase = .response ∧
      (s .response).link.taken ≠ .withheld ∧ (s .response).participation = .joining ∧
      (0x0040 : NodeMask).getLsbD (s .response).nodeId.toNat = true) ∧
    ((s .header).sendingAlone 1 (sent .join) ∧ (s .header).link.phase = .header ∧ (s .header).link.wordIndex = 0 ∧
      (0x8681 : Halfword) ||| tn.h0 ≠ tn.h0) := by decide

/-- A home, a WRITEBACK's sender and a NOTICE's sender at the last word, and two nodes that supply nothing. -/
theorem witness_DataWordsSent :
    let at7 := fun (tn : Tenure) (s : State) => onLink .data true 7 (some { tn with dataLength := 8 }) s
    let r := at7 { heard 0x2600 0x03A7 with answers := ⟨false, false, false, true, false⟩ } (node 3)
    let m := at7 { heard 0x2600 0x03A7 with
      answers := ⟨true, true, false, false, false⟩, lines := ⟨true, true, false, true, false⟩ }
      (writeEntry 7 (entryAs .dirty 0x3A7 7) (node 11))
    let w := (sending .flush 0 (some 7) .data { heard 0x4B00 0x03A7 with dataLength := 8 }
      (writeEntry 7 (entryAs .dirty 0x3A7 7) (node 11)))
    let n := writeSlot 1 { Slot.idle with frame := some ⟨.notice, 0x1290, [1, 2, 3]⟩ }
      (sending (.notice 0x1290 [1, 2, 3]) 0 none .data { heard 0x7202 0x1290 with dataLength := 3 } (node 2))
    (r.por = false ∧ r.link.phase = .data ∧ r.link.wordOpen = true ∧ r.link.wordIndex = 7 ∧ r.link.sender = none ∧
      r.pinLd = 0 ∧ r.drivesValid = true ∧ 8 ≤ 7 + 1) ∧
    (m.entryOf 0x3A7 = some 7 ∧ m.drivesValid = true) ∧
    (w.link.sender.isSome = true ∧ w.entryOf (h1Var 0x03A7) = some 7 ∧ w.pinLd = 9 ∧ 0 + 1 < 8) ∧
    (n.link.sender = some 1 ∧ n.tracker.slots[(1 : SlotIx)].frame = some ⟨.notice, 0x1290, [1, 2, 3]⟩ ∧
      ([1, 2, 3] : List Halfword)[0]? = some 1 ∧ n.pinLd = 1) ∧
    (at7 (heard 0x4B00 0x03A7) (node 3)).drivesValid = false ∧ (at7 (heard 0x2600 0x03A7) (node 6)).pinLd = 0 := by
  decide

/-- The home keeping and discarding, the requester, an addressed listener, and a bystander. -/
theorem witness_DataWordKept :
    let word := fun tn s => onLink .data false 0 (some tn) s
    let mod : Tenure := { heard 0x1600 0x03A7 with lines := ⟨true, true, false, true, false⟩, present := 0x0848 }
    let h := word mod (writeRecord 0x3A7 (recordAs (.lent 11)) (node 3))
    let wb := word (heard 0x4B00 0x03A7) (writeRecord 0x3A7 (recordAs (.lent 11)) (node 3))
    let stray := word (heard 0x4B00 0x03A7) (node 3)
    let req := (sending (.load 0x3A7) 0 none .data mod (node 6))
    let req := req.setLink { req.link with wordOpen := false }
    let lis := word { heard 0x7202 0x1290 with addressed := true } (node 4)
    (h.por = false ∧ h.link.phase = .data ∧ h.link.wordOpen = false ∧ h.dataSource = none ∧
      homeOf (h1Var 0x03A7) = h.nodeId ∧ mod.lines.modLine = true ∧ (h.record 0x3A7).state = .lent 11 ∧
      mod.present.getLsbD 11 = true) ∧
    (wb.dataSource = none ∧ (wb.record 0x3A7).state = .lent (sourceOf 0x4B00)) ∧
    (stray.dataSource = none ∧ (stray.record 0x3A7).state ≠ .lent (sourceOf 0x4B00)) ∧
    (req.dataSource = none ∧ req.link.wordOpen = false ∧ req.link.sender.isSome = true ∧
      homeOf (h1Var 0x03A7) ≠ req.nodeId) ∧
    (lis.dataSource = none ∧ kindOf 0x7202 = some .notice) ∧ (word mod (node 12)).dataSource = none := by decide

theorem witness_HomeCommits :
    let tn := ended 0x2600 0x03A7 0x1848 .committed
    let s := onLink .close false 0 (some tn) (writeRecord 0x3A7 (recordAs (.lent 11)) (node 3))
    s.atRest ∧ s.homeCanonical ∧ (s.participation = .online ∨ s.participation = .draining) ∧ s.link.phase = .close ∧
    s.link.sender = none ∧ s.link.tenure = some tn ∧ tn.h1 = some 0x03A7 ∧ tn.outcome = some .committed ∧
    kindOf tn.h0 = some .own ∧ Kind.own.isVar = true ∧ homeOf (h1Var 0x03A7) = s.nodeId ∧
    sourceOf tn.h0 ≠ s.nodeId := by decide

/-- Slot 1 with `b`: in SEND with a frame, or in PLAN waiting on binding. -/
def planning (b : Body) (sends : Bool) (s : State) : State :=
  writeSlot 1 (if sends then { Slot.idle with phase := .send, command := some (sent b), frame := some ⟨.own, 0, []⟩ }
    else { Slot.idle with phase := .plan, command := some (sent b), waiting := some .binding }) s

/-- A LOAD in SEND finds its record given back, and one waiting on the binding finds it lent anew; a STORE finds it SHARED
and lent. -/
theorem witness_HomeCommits_plans :
    let s := fun h0 lines b sends => onLink .close false 0
      (some { ended h0 0x03A7 0x1848 .committed with lines := lines })
      (planning b sends (writeRecord 0x3A7 (recordAs (.lent 11)) (node 3)))
    let copies : RespLines := ⟨true, false, false, true, false⟩
    let store := Body.store 0x3A7 1 Value.zero
    ((s 0x5B00 quietLines (.load 0x3A7) true).planningAlone 1 (sent (.load 0x3A7)) ∧ kindOf 0x5B00 = some .giveBack ∧
      (⟨value0 7, .quiet, .openAccess⟩ : HomeRecord) ≠ (s 0x5B00 quietLines (.load 0x3A7) true).record 0x3A7 ∧
      ((after .tenureEnd (s 0x5B00 quietLines (.load 0x3A7) true)).record 0x3A7).state = .quiet) ∧
    ((s 0x2600 quietLines (.load 0x3A7) false).planningAlone 1 (sent (.load 0x3A7)) ∧
      ((after .tenureEnd (s 0x2600 quietLines (.load 0x3A7) false)).record 0x3A7).state = .lent 6) ∧
    ((s 0x1600 copies store true).planningAlone 1 (sent store) ∧ store.code = .store ∧ store.var? = some 0x3A7 ∧
      ((after .tenureEnd (s 0x1600 copies store true)).record 0x3A7).state = .shared) ∧
    ((s 0x2600 quietLines store false).planningAlone 1 (sent store) ∧
      ((after .tenureEnd (s 0x2600 quietLines store false)).record 0x3A7).state = .lent 6) := by
  refine ⟨?_, ?_, ?_, ?_⟩ <;> decide

theorem witness_HolderCommits :
    let tn := ended 0x2600 0x03A7 0x1848 .committed
    let s := onLink .close false 0 (some tn) (writeEntry 31 (entryAs .dirty 0x3A7 31) (node 11))
    s.atRest ∧ (s.participation = .online ∨ s.participation = .draining) ∧ s.link.phase = .close ∧
    s.link.sender = none ∧ s.link.tenure = some tn ∧ tn.h1 = some 0x03A7 ∧ tn.outcome = some .committed ∧
    kindOf tn.h0 = some .own ∧ Kind.own.isVar = true ∧ homeOf (h1Var 0x03A7) ≠ s.nodeId ∧
    s.entryOf 0x3A7 = some 31 ∧ (s.copy.entries[31]).state ≠ .none := by decide

/-- A STORE whose COPY is dropped, a RELEASE whose OWNED entry becomes COPY, and a LOAD whose DIRTY victim is taken away. -/
theorem witness_HolderCommits_plans :
    let closing := fun h0 s => onLink .close false 0 (some (ended h0 0x03A7 0x1848 .committed)) s
    let own := fun b s => closing 0x2600 (planning b true s)
    let store := Body.store 0x3A7 1 Value.zero
    let c := own store (writeEntry 1 (entryAs .copy 0x3A7 1) (writeEntry 0 (entryAs .copy 0x501 0) (node 11)))
    let r := closing 0x1600 (planning (.release 0x3A7) false (writeEntry 31 (entryAs .owned 0x3A7 31) (node 11)))
    let v := own (.load 0x501) (writeEntry 31 { entryAs .dirty 0x3A7 31 with reservedBy := some 1 } (node 11))
    let v := writeSlot 1 { v.tracker.slots[(1 : SlotIx)] with victim := some 31 } v
    (c.planningAlone 1 (sent store) ∧ c.entryOf 0x3A7 = some 1 ∧
      (∀ m : EntryIx, c.copy.entries[m].reservedBy = none) ∧ c.tracker.slots[(1 : SlotIx)].victim = none ∧
      store.var? = some 0x3A7 ∧ store.code = .store ∧
      (∀ m : EntryIx, c.copy.entries[m].tag = some 0x3A7 → m = 1) ∧
      (∀ m : EntryIx, m < 1 → c.copy.entries[m].state ≠ .none)) ∧
    (r.planningAlone 1 (sent (.release 0x3A7)) ∧ r.entryOf 0x3A7 = some 31 ∧ r.held 0x3A7 = false ∧
      (r.copy.entries[31]).state = .owned ∧ (∀ m : EntryIx, r.copy.entries[m].tag = some 0x3A7 → m = 31)) ∧
    (v.planningAlone 1 (sent (.load 0x501)) ∧ v.entryOf 0x3A7 = some 31 ∧ Code.load.needsEntry ∧
      homeOf 0x501 ≠ v.nodeId ∧ (∀ m : EntryIx, v.copy.entries[m].tag ≠ some 0x501) ∧
      v.tracker.slots[(1 : SlotIx)].victim = some 31 ∧ (v.copy.entries[31]).reservedBy = some 1 ∧
      (v.copy.entries[31]).state = .dirty) := by
  refine ⟨?_, ?_, ?_⟩ <;> decide

theorem witness_RequesterReadCommits :
    let tn := ended 0x1600 0x03A7 0x0848 .committed
    let s := sending (.load 0x3A7) 0 (some 5) .close tn
      (writeEntry 5 { entryAs .none 0x3A7 5 with reservedBy := some 1 } (node 6))
    s.sendingAlone 1 (sent (.load 0x3A7)) ∧ homeOf 0x3A7 ≠ s.nodeId ∧ s.participation = .online ∧
    s.link.phase = .close ∧ s.link.tenure = some tn ∧ kindOf tn.h0 = some .read ∧
    tn.h1 = some ((0x3A7 : VarNum).setWidth 16) ∧ tn.outcome = some .committed ∧
    s.tracker.slots[(1 : SlotIx)].entry = some 5 ∧ s.tracker.slots[(1 : SlotIx)].victim = none ∧
    (s.copy.entries[5]).state = .none ∧ (s.copy.entries[5]).tag = some 0x3A7 ∧
    (s.copy.entries[5]).reservedBy = some 1 ∧ ∀ j : EntryIx, j ≠ 5 → s.copy.entries[j].reservedBy = none := by decide

/-- An OWN that fetched, a CLAIM, a RELEASE's WRITEBACK, and an eviction's RETURN. -/
theorem witness_RequesterReadCommits_entry :
    let closing := fun h0 b entry s => sending b 0 entry .close (ended h0 0x03A7 0x0848 .committed) s
    let store := Body.store 0x3A7 1 Value.zero
    let f := closing 0x2600 store (some 5) (writeEntry 5 { entryAs .none 0x3A7 5 with reservedBy := some 1 } (node 6))
    let c := closing 0x3600 (.swap 0x3A7 9 Value.zero) (some 5) (writeEntry 5 (entryAs .copy 0x3A7 5) (node 6))
    let r := closing 0x4600 (.release 0x3A7) (some 5) (writeEntry 5 (entryAs .dirty 0x3A7 5) (node 6))
    let v := closing 0x5600 (.hold 0x501 3) none
      (writeEntry 5 { entryAs .owned 0x3A7 5 with reservedBy := some 1 } (node 6))
    let v := writeSlot 1 { v.tracker.slots[(1 : SlotIx)] with victim := some 5 } v
    (f.sendingAlone 1 (sent store) ∧ f.participation = .online ∧ kindOf 0x2600 = some .own ∧
      f.tracker.slots[(1 : SlotIx)].entry = some 5 ∧ (f.copy.entries[5]).reservedBy = some 1) ∧
    (c.sendingAlone 1 (sent (.swap 0x3A7 9 Value.zero)) ∧ kindOf 0x3600 = some .claim ∧ c.entryOf 0x3A7 = some 5 ∧
      (c.copy.entries[5]).value[1] ++ (c.copy.entries[5]).value[0] = 9#32) ∧
    (r.sendingAlone 1 (sent (.release 0x3A7)) ∧ kindOf 0x4600 = some .writeback ∧ r.entryOf 0x3A7 = some 5 ∧
      (r.copy.entries[5]).state = .dirty ∧ (r.copy.entries[5]).reservedBy = none) ∧
    (v.sendingAlone 1 (sent (.hold 0x501 3)) ∧ kindOf 0x5600 = some .giveBack ∧ v.entryOf 0x3A7 = some 5 ∧
      Code.hold.needsEntry ∧ homeOf 0x501 ≠ v.nodeId ∧ (∀ j : EntryIx, v.copy.entries[j].tag ≠ some 0x501) ∧
      v.tracker.slots[(1 : SlotIx)].victim = some 5) := by
  refine ⟨?_, ?_, ?_, ?_⟩ <;> decide

/-- A FLUSH gives back entry 5 beside a stranded entry 7: with entry 9 to offer, with that entry held instead, with none
left, and with nothing stranded; and a LEAVE of a DRAINING node, its entry 7 stranded. -/
theorem witness_RequesterReadCommits_drain :
    let s := fun b (stranded : List EntryIx) n =>
      let s := sending b 0 (some 5) .close (ended 0x4600 0x03A7 0x0848 .committed)
        (writeEntry 5 (entryAs .dirty 0x3A7 5) n)
      writeSlot 1 { s.tracker.slots[(1 : SlotIx)] with stranded := stranded } s
    let seven := writeEntry 7 (entryAs .owned 0x511 7) (node 6)
    let nine := s .flush [7] (writeEntry 9 (entryAs .dirty 0x502 9) seven)
    let held := nine.setHolds (emptyHolds.set 2 (holdAs 0x502 5 0))
    let l := s .leave [7] (seven.setParticipation .draining)
    let common := fun (t : State) b => t.sendingAlone 1 (sent b) ∧ t.entryOf 0x3A7 = some 5 ∧
      (t.copy.entries[5]).state = .dirty ∧ (t.copy.entries[5]).reservedBy = none
    (common nine .flush ∧ (nine.copy.entries[9]).state = .dirty ∧ (nine.copy.entries[9]).tag = some 0x502 ∧
      (∀ r : HoldIx, nine.holds[r] = none) ∧
      ∀ m : EntryIx, m < 9 → m = 5 ∨ m = 7 ∨ nine.copy.entries[m].state = .none) ∧
    (common held .flush ∧ held.holds[(2 : HoldIx)] ≠ none ∧
      (∀ m : EntryIx, m ≠ 9 → m = 5 ∨ m = 7 ∨ held.copy.entries[m].state = .none)) ∧
    (common (s .flush [7] seven) .flush ∧ (∀ r : HoldIx, (s .flush [7] seven).holds[r] = none) ∧
      (s .flush [7] seven).tracker.slots[(1 : SlotIx)].stranded = [7] ∧
      (∀ m : EntryIx, m = 5 ∨ m = 7 ∨ (s .flush [7] seven).copy.entries[m].state = .none)) ∧
    (common (s .flush [] (node 6)) .flush ∧ (s .flush [] (node 6)).tracker.slots[(1 : SlotIx)].stranded = []) ∧
    (common l .leave ∧ l.participation = .draining ∧ (∀ r : HoldIx, l.holds[r] = none) ∧
      l.tracker.slots[(1 : SlotIx)].stranded = [7] ∧ (l.copy.entries[7]).state = .owned ∧
      ∀ m : EntryIx, m = 5 ∨ m = 7 ∨ l.copy.entries[m].state = .none) := by
  refine ⟨⟨?_, ?_⟩, ⟨?_, ?_⟩, ⟨?_, ?_⟩, ⟨?_, ?_⟩, ⟨?_, ?_⟩⟩ <;> decide

/-- The home's own READ and OWN of a lent record, and its PURGE of a SHARED one. -/
theorem witness_RequesterReadCommits_home :
    let s := fun h0 b st => sending b 0 none .close (ended h0 0x03A7 0x0848 .committed)
      (writeRecord 0x3A7 (recordAs st) (node 3))
    ((s 0x1300 (.load 0x3A7) (.lent 11)).sendingAlone 1 (sent (.load 0x3A7)) ∧ homeOf 0x3A7 = (node 3).nodeId ∧
      (s 0x1300 (.load 0x3A7) (.lent 11)).homeCanonical ∧ sourceOf 0x1300 = (node 3).nodeId ∧
      ((s 0x1300 (.load 0x3A7) (.lent 11)).record 0x3A7).state.isLent = true ∧
      ∀ j : EntryIx, (s 0x1300 (.load 0x3A7) (.lent 11)).copy.entries[j].reservedBy = none) ∧
    ((s 0x2300 (.hold 0x3A7 3) (.lent 11)).sendingAlone 1 (sent (.hold 0x3A7 3)) ∧
      (s 0x2300 (.hold 0x3A7 3) (.lent 11)).held 0x3A7 = false ∧
      (s 0x2300 (.hold 0x3A7 3) (.lent 11)).freeHold = some 0) ∧
    ((s 0x6300 (.guard 0x3A7 .privateAccess) .shared).sendingAlone 1 (sent (.guard 0x3A7 .privateAccess)) ∧
      kindOf 0x6300 = some .purge ∧
      ((s 0x6300 (.guard 0x3A7 .privateAccess) .shared).record 0x3A7).state.isLent = false) := by
  refine ⟨?_, ?_, ?_⟩ <;> decide

/-- Below the limit and at it, by RETRIED and by a clear; the limit is 15. -/
theorem witness_UnsuccessfulAttempt :
    let s := fun n phase o => sending (.load 0x301) n none phase (ended 0x1300 0x0301 0x0808 o) (node 3)
    ((s 13 .close .retried).sendingAlone 1 (sent (.load 0x301)) ∧ (s 13 .close .retried).link.phase = .close ∧
      13 + 1 < max 1 (s 13 .close .retried).timing.retryLimit.toNat) ∧
    ((s 14 .data .committed).sendingAlone 1 (sent (.load 0x301)) ∧ (s 14 .data .committed).inTenure = true ∧
      max 1 (s 14 .data .committed).timing.retryLimit.toNat ≤ 14 + 1) := by decide

theorem witness_OutcomeEndsCommand :
    let s := fun phase o => sending (.notice 0x1290 [1]) 0 none phase (ended 0x7300 0x1290 0x0808 o) (node 3)
    let w := fun kind => (s .response .committed).setLink { (s .response .committed).link with wait := some ⟨kind, 1⟩ }
    ((s .close .denied).sendingAlone 1 (sent (.notice 0x1290 [1])) ∧ (s .close .denied).link.phase = .close) ∧
    ((s .close .noHome).tracker.slots[(1 : SlotIx)].victim = none ∧ (s .close .noHome).link.phase = .close ∧
      Body.notice 0x1290 [1] ≠ .flush ∧ Body.notice 0x1290 [1] ≠ .leave) ∧
    ((w .wordCompletion).sendingAlone 1 (sent (.notice 0x1290 [1])) ∧ (w .wordCompletion).inTenure = true ∧
      (w .wordCompletion).link.wait = some ⟨.wordCompletion, 1⟩ ∧ WaitKind.wordCompletion ≠ .noticeResponse) ∧
    (w .noticeResponse).link.wait = some ⟨.noticeResponse, 1⟩ := by decide

/-- An eviction's NO-HOME, entry 5 its victim, with a NONE entry and with none; a FLUSH's, with another entry to offer and
with none. -/
theorem witness_OutcomeEndsCommand_noHome :
    let tn := ended 0x4600 0x03A7 0 .noHome
    let v := fun s => (fun s => writeSlot 1 { s.tracker.slots[(1 : SlotIx)] with victim := some 5 } s)
      (sending (.load 0x501) 0 none .close tn (writeEntry 5 { entryAs .dirty 0x3A7 5 with reservedBy := some 1 } s))
    let full := v ((node 6).setCopy (fullTable .copy))
    let f := sending .flush 0 (some 5) .close tn (writeEntry 5 (entryAs .dirty 0x3A7 5) (node 6))
    let g := writeEntry 7 (entryAs .owned 0x511 7) f
    ((v (node 6)).sendingAlone 1 (sent (.load 0x501)) ∧ (v (node 6)).link.tenure = some tn ∧
      ((v (node 6)).copy.entries[5]).state = .dirty ∧ homeOf 0x501 ≠ (node 6).nodeId ∧
      (∀ j : EntryIx, (v (node 6)).copy.entries[j].tag ≠ some 0x501) ∧
      (∀ j : EntryIx, j ≠ 5 → (v (node 6)).copy.entries[j].reservedBy = none) ∧
      ((v (node 6)).copy.entries[0]).state = .none) ∧
    (full.sendingAlone 1 (sent (.load 0x501)) ∧ (∀ j : EntryIx, full.copy.entries[j].state ≠ .none) ∧
      (∀ j : EntryIx, full.copy.entries[j].tag ≠ some 0x501) ∧ full.link.roster = 0) ∧
    (f.sendingAlone 1 (sent .flush) ∧ f.tracker.slots[(1 : SlotIx)].entry = some 5 ∧
      (∀ r : HoldIx, f.holds[r] = none) ∧ (∀ j : EntryIx, f.copy.entries[j].reservedBy = none) ∧
      (∀ j : EntryIx, f.copy.entries[j].state ≠ .copy) ∧
      (∀ j : EntryIx, j ≠ 5 → f.copy.entries[j].state = .none)) ∧
    (g.sendingAlone 1 (sent .flush) ∧ (g.copy.entries[7]).state = .owned ∧
      (∀ m : EntryIx, m < 7 → m = 5 ∨ g.copy.entries[m].state = .none)) := by
  refine ⟨?_, ?_, ?_, ?_⟩ <;> decide

theorem witness_NoticeCommits :
    let tn := { ended 0x7202 0x1290 0x0294 .committed with addressed := true }
    let l := onLink .close false 0 (some tn) (node 4)
    let s := sending (.notice 0x1290 [1, 2, 3]) 0 none .close { tn with addressed := false } (node 2)
    (l.atRest ∧ l.link.phase = .close ∧ l.link.sender = none ∧ l.link.tenure = some tn ∧
      kindOf tn.h0 = some .notice ∧ tn.outcome = some .committed) ∧
    (s.sendingAlone 1 (sent (.notice 0x1290 [1, 2, 3])) ∧ (∀ i : EntryIx, s.copy.entries[i].reservedBy = none) ∧
      s.link.phase = .close ∧ tn.h1 = some 0x1290) := by decide

/-- The joiner, and a participant that loses an entry, its hold and a loan to it. -/
theorem witness_JoinCommits :
    let tn := ended 0x8B01 0 0x0848 .committed
    let j := sending .join 0 none .close tn ((node 11).setParticipation .joining)
    let s := onLink .close false 0 (some tn) ((writeEntry 31 (entryAs .dirty 0xB01 31)
      (writeRecord 0x301 (recordAs (.lent 11)) (node 3))).setHolds (emptyHolds.set 3 (holdAs 0xB01 5 0)))
    (j.sendingAlone 1 (sent .join) ∧ (∀ i : EntryIx, j.copy.entries[i].reservedBy = none) ∧ j.link.phase = .close ∧
      j.link.tenure = some tn ∧ kindOf tn.h0 = some .join ∧ tn.outcome = some .committed) ∧
    (s.atRest ∧ s.homeCanonical ∧ s.link.phase = .close ∧ s.link.sender = none ∧ s.link.tenure = some tn ∧
      (after .tenureEnd s).completion.counters.discard = 1 ∧
      (after .tenureEnd s).completion.counters.reclaim = 1) := by decide

theorem witness_LinkClearObserved :
    let a := onLink .arbitrate true 0 none (node 3)
    let d := onLink .data true 0 (some (heard 0x2600 0x03A7)) (node 3)
    let w := fun kind => a.setLink { a.link with wait := some ⟨kind, 1⟩ }
    let l := (node 3).setLink { (node 3).link with lclr := true }
    ((node 3).por = false ∧ (node 3).atRest ∧ (node 3).link.sender = none ∧ (node 3).link.phase = .idle ∧
      (node 3).link.outside = .nothing ∧ (node 3).participation ≠ .offline ∧ (node 3).link.lclr = false ∧ d.atRest ∧
      d.inTenure = true) ∧
    (State.reset.link.phase = .idle ∧ State.reset.participation = .offline) ∧
    (l.por = false ∧ l.link.phase = .idle ∧ l.link.lclr = true) ∧
    (onLink .clear false 0 none (node 3)).link.phase = .clear ∧ (d.link.sender = none ∧ d.link.phase = .data) ∧
    (a.link.phase = .arbitrate ∧ a.frameReady = false ∧ a.link.wordOpen = true ∧
      (onLink .arbitrate false 0 none (node 3)).link.wordOpen = false) ∧
    ((w .firstRequest).link.sender = none ∧ (w .firstRequest).link.wait = some ⟨.firstRequest, 1⟩ ∧
      (w .noticeResponse).link.wait = some ⟨.noticeResponse, 1⟩ ∧ (node 3).link.wait = none) := by decide

/-- POR in a phase without a winner, between its words and in one; in a tenure; and the fall that loses it. -/
theorem witness_LinkClearObserved_fall :
    let p := fun phase wordOpen => after .por (onLink phase wordOpen 0 none (node 3))
    let l := after .earlyLbusyFall (p .header true)
    ((p .arbitrate false).link.phase = .idle ∧ (p .arbitrate false).link.outside = .phase ∧
      (p .arbitrate false).link.wordOpen = false ∧ (p .arbitrate false).link.taken = .frozen false) ∧
    ((p .arbitrate true).link.outside = .phase ∧ (p .arbitrate true).link.wordOpen = true) ∧
    ((p .header false).link.outside = .tenure ∧ (p .header false).link.wordOpen = false) ∧
    (l.link.phase = .idle ∧ l.link.outside = .lost ∧ l.link.wordOpen = true ∧ l.link.tenure = none) ∧
    (node 3).link.outside = .nothing := by
  refine ⟨?_, ?_, ?_, ?_, ?_⟩ <;> decide

theorem witness_HoldExpiryPosts :
    let s := (node 3).setHolds (emptyHolds.set 3 (holdAs 0x301 1 0))
    let f := writeSlot 2 { Slot.idle with phase := .plan, command := some (sent .flush), waiting := some .holds } s
    (s.por = false ∧ s.holds[(0 : HoldIx)] = none ∧ s.holds[(3 : HoldIx)] = holdAs 0x301 1 0 ∧ s.atRest) ∧
    (f.port.queue = [] ∧ (∀ j : SlotIx, j ≠ 2 → f.tracker.slots[j] = Slot.idle) ∧
      (∀ i : EntryIx, f.copy.entries[i].state = .none ∧ f.copy.entries[i].reservedBy = none) ∧
      (∀ q : HoldIx, q ≠ 3 → f.holds[q] = none) ∧ f.tracker.slots[(2 : SlotIx)].phase = .plan ∧
      f.tracker.slots[(2 : SlotIx)].command = some (sent .flush) ∧
      f.tracker.slots[(2 : SlotIx)].waiting = some .holds) := by decide

theorem witness_BackoffExpiryPlans :
    let s := fun st => writeSlot 2 { Slot.idle with
      phase := .backoff, command := some (sent (.load 0x301)), backoff := 8, unsuccessful := 1, tenures := 1 }
      (writeRecord 0x301 (recordAs st) (node 3))
    ((s .quiet).por = false ∧ (s .quiet).tracker.slots[(0 : SlotIx)].phase ≠ .backoff) ∧
    ((s .quiet).port.queue = [] ∧ (∀ j : SlotIx, j ≠ 2 → (s .quiet).tracker.slots[j] = Slot.idle) ∧
      (∀ i : EntryIx, (s .quiet).copy.entries[i].reservedBy = none) ∧
      (s .quiet).tracker.slots[(2 : SlotIx)].phase = .backoff ∧
      (s .quiet).tracker.slots[(2 : SlotIx)].command = some (sent (.load 0x301)) ∧
      homeOf 0x301 = (s .quiet).nodeId ∧ (s .quiet).boundVar ≠ some 0x301 ∧
      ((s .quiet).record 0x301).state.isLent = false) ∧
    ((s (.lent 11)).record 0x301).state.isLent = true := by decide

/-- Slot 2 backing off. -/
def backing (b : Body) (entry victim : Option EntryIx) (s : State) : State :=
  writeSlot 2 { Slot.idle with
    phase := .backoff
    command := some (sent b)
    backoff := 8
    unsuccessful := 1
    tenures := 1
    entry := entry
    victim := victim } s

/-- A NOTICE; a JOIN; a bound variable, its entry 31 gone; a STORE and a GUARD at the home. -/
theorem witness_BackoffExpiryPlans_sent :
    let store := Body.store 0x301 1 Value.zero
    let h := fun b st => backing b none none (writeRecord 0x301 (recordAs st) (node 3))
    let bound := backing (.load 0x501) (some 31) none (onLink .header false 0 (some (heard 0x1900 0x0501)) (node 3))
    let join := backing .join none none (State.reset.setParticipation .joining)
    ((node 3).port.queue = [] ∧ (h store .quiet).tracker.slots[(2 : SlotIx)].phase = .backoff ∧
      (∀ j : SlotIx, j ≠ 2 → (h store .quiet).tracker.slots[j] = Slot.idle) ∧
      (h (.notice 0x1290 [1]) .quiet).tracker.slots[(2 : SlotIx)].command = some (sent (.notice 0x1290 [1])) ∧
      join.tracker.slots[(2 : SlotIx)].command = some (sent .join) ∧ join.por = false ∧ join.port.queue = []) ∧
    ((Body.load 0x501).var? = some 0x501 ∧ (Body.load 0x501).code ≠ .unhold ∧ bound.boundVar = some 0x501 ∧
      bound.tracker.slots[(2 : SlotIx)].entry = some 31 ∧ (bound.copy.entries[31]).tag ≠ some 0x501) ∧
    (store.var? = some 0x301 ∧ store.code = .store ∧ ((h store .shared).record 0x301).state = .shared ∧
      homeOf 0x301 = (h store .shared).nodeId ∧ (h store .shared).boundVar ≠ some 0x301) ∧
    ((h (.guard 0x301 .homeOnly) (.lent 5)).record 0x301).state.isLent = true := by
  refine ⟨?_, ?_, ?_, ?_⟩ <;> decide

/-- For 0x501, homed elsewhere: its reserved entry 31, its COPY, its OWNED entry for a RELEASE; with no entry of its own, a
DIRTY victim, entry 31 free, and the oldest victim of a full table. For a FLUSH: entry 31, past a stranded entry 4. -/
theorem witness_BackoffExpiryPlans_entry :
    let at31 := fun e (b : Body) entry victim => backing b entry victim (writeEntry 31 e (node 3))
    let f := at31 { entryAs .none 0x501 31 with reservedBy := some 2 } (.load 0x501) (some 31) none
    let c := at31 (entryAs .copy 0x501 31) (.hold 0x501 3) (some 31) none
    let r := at31 (entryAs .owned 0x501 31) (.release 0x501) (some 31) none
    let v := at31 { entryAs .dirty 0x511 31 with reservedBy := some 2 } (.load 0x501) none (some 31)
    let full := fun entries roster => (backing (.load 0x501) none none ((node 3).setCopy ⟨entries, []⟩)).setLink
      { (node 3).link with roster := roster }
    let none31 := full ((fullTable .copy).entries.set 31 ⟨.none, none, Value.zero, 31, none⟩) 0
    let old := full (fullTable .owned).entries 0x20
    let d := backing .flush none none (writeEntry 4 (entryAs .owned 0x511 4)
      (writeEntry 31 (entryAs .dirty 0x501 31) (node 3)))
    let d := writeSlot 2 { d.tracker.slots[(2 : SlotIx)] with stranded := [4] } d
    (f.por = false ∧ homeOf 0x501 ≠ f.nodeId ∧ f.boundVar ≠ some 0x501 ∧ f.entryOf 0x501 = some 31 ∧
      Code.load.needsEntry ∧ (f.copy.entries[31]).state = .none ∧ (f.copy.entries[31]).reservedBy = some 2 ∧
      f.port.queue = [] ∧ (∀ j : SlotIx, j ≠ 2 → f.tracker.slots[j] = Slot.idle) ∧
      f.tracker.slots[(2 : SlotIx)].phase = .backoff) ∧
    (c.entryOf 0x501 = some 31 ∧ (c.copy.entries[31]).state = .copy ∧ (c.copy.entries[31]).reservedBy = none) ∧
    (r.entryOf 0x501 = some 31 ∧ r.held 0x501 = false ∧ (r.copy.entries[31]).state = .owned ∧
      (r.copy.entries[31]).reservedBy = none) ∧
    ((∀ j : EntryIx, v.copy.entries[j].tag ≠ some 0x501) ∧ v.tracker.slots[(2 : SlotIx)].victim = some 31 ∧
      (v.copy.entries[31]).tag = some 0x511 ∧ (v.copy.entries[31]).state = .dirty) ∧
    ((∀ j : EntryIx, none31.copy.entries[j].tag ≠ some 0x501) ∧ none31.freeEntry = some 31 ∧
      none31.tracker.slots[(2 : SlotIx)].victim = none) ∧
    ((∀ j : EntryIx, old.copy.entries[j].tag ≠ some 0x501) ∧ old.freeEntry = none ∧ old.oldestVictim 2 = some 31 ∧
      (old.copy.entries[31]).tag = some 0x59F ∧ (old.copy.entries[31]).state = .owned) ∧
    (d.boundVar = none ∧ (∀ i : EntryIx, d.copy.entries[i].reservedBy = none) ∧ canOffer d 31 = true ∧
      d.tracker.slots[(2 : SlotIx)].stranded = [4] ∧
      (∀ j : EntryIx, j < 31 → j = 4 ∨ canOffer d j = false)) := by
  refine ⟨?_, ?_, ?_, ?_, ?_, ?_, ?_⟩ <;> decide

/-- A node with a loan, an owned entry, a queued command, an unread record, a hold and a reservation. -/
def busyNode : State :=
  let s := writeRecord 0x301 (recordAs (.lent 11)) (writeEntry 3 (entryAs .owned 0x501 3) (node 3))
  let s := (s.setHolds (emptyHolds.set 1 (holdAs 0x501 5 0))).setPort { s.port with queue := [⟨1, 0, .load 0x502⟩] }
  let s := s.setCompletion { s.completion with free := 13, queue := [⟨2, .load, .var 0x302, .ok, 0, none, none⟩] }
  s.setNotices ⟨List.replicate 15 ⟨2, [1]⟩, true, []⟩

theorem witness_CreditLawKept : busyNode.creditLaw ∧ ∃ t, step busyNode = .next t :=
  ⟨⟨by decide, by unfold State.freeSlotsEmpty; decide⟩, _, rfl⟩

theorem witness_HomeStoreLawKept : busyNode.homeCanonical ∧ busyNode.noOwnLoan ∧ ∃ t, step busyNode = .next t :=
  ⟨by decide, by unfold State.noOwnLoan; decide, _, rfl⟩

theorem witness_NoticeRoomKept : busyNode.noticeRoom ∧ ∃ t, step busyNode = .next t := by
  refine ⟨⟨by decide, ?_, by decide⟩, _, rfl⟩
  intro t h
  have hn : busyNode.link.tenure = none := by decide
  rw [hn] at h
  cases h

theorem witness_TablesKeepTheirLaws : busyNode.agesRanked ∧ busyNode.holdsDistinct ∧ busyNode.queueFits ∧
    ∃ t, step busyNode = .next t := by
  refine ⟨by unfold State.agesRanked; decide, ?_, by unfold State.queueFits; decide, _, rfl⟩
  have only : ∀ r : HoldIx, r ≠ 1 → busyNode.holds[r] = none := by decide
  intro r q h g hr hq _
  by_cases h1 : r = 1
  · by_cases h2 : q = 1
    · rw [h1, h2]
    · rw [only q h2] at hq
      cases hq
  · rw [only r h1] at hr
    cases hr

/-- `busyNode` with slot 2 fetching 0x511 into entry 9, and slot 3 evicting entry 3, for 0x512. -/
def fetchingNode : State :=
  let s := writeEntry 9 { entryAs .none 0x511 9 with reservedBy := some 2 } busyNode
  let s := writeEntry 3 { s.copy.entries[3] with reservedBy := some 3 } s
  let s := writeSlot 2 { Slot.idle with phase := .send, command := some (sent (.load 0x511)), entry := some 9 } s
  writeSlot 3 { Slot.idle with phase := .send, command := some (sent (.load 0x512)), victim := some 3 } s

theorem fetchingNode_tags : fetchingNode.tagsUnique ∧ fetchingNode.tagsForeign := by
  have others : ∀ i : EntryIx, i = 3 ∨ i = 9 ∨ fetchingNode.copy.entries[i].tag = none := by decide
  have three : fetchingNode.copy.entries[(3 : EntryIx)].tag = some 0x501 := by decide
  have nine : fetchingNode.copy.entries[(9 : EntryIx)].tag = some 0x511 := by decide
  constructor
  · intro i j v hi hj
    rcases others i with rfl | rfl | h <;> rcases others j with rfl | rfl | g <;>
      simp_all <;> subst hi <;> exact absurd hj (by decide)
  · intro i v hi
    rcases others i with rfl | rfl | h
    · cases three.symm.trans hi; decide
    · cases nine.symm.trans hi; decide
    · rw [h] at hi; cases hi

theorem fetchingNode_reservations : fetchingNode.oneReservation ∧ fetchingNode.reservationsBacked := by
  have others : ∀ i : EntryIx, i = 3 ∨ i = 9 ∨ fetchingNode.copy.entries[i].reservedBy = none := by decide
  have three : fetchingNode.copy.entries[(3 : EntryIx)].reservedBy = some 3 := by decide
  have nine : fetchingNode.copy.entries[(9 : EntryIx)].reservedBy = some 2 := by decide
  constructor
  · intro i j k hi hj
    rcases others i with rfl | rfl | h <;> rcases others j with rfl | rfl | g <;>
      simp_all <;> subst hi <;> exact absurd hj (by decide)
  · intro i k hi
    rcases others i with rfl | rfl | h
    · cases three.symm.trans hi
      exact ⟨0x512, by decide, by decide, .inr ⟨by decide, by decide⟩⟩
    · cases nine.symm.trans hi
      exact ⟨0x511, by decide, by decide, .inl (by decide)⟩
    · rw [h] at hi; cases hi

theorem witness_TablesKeepTheirLaws_copyLaw : fetchingNode.copyLaw ∧ ∃ t, step fetchingNode = .next t := by
  refine ⟨⟨fetchingNode_tags.1, fetchingNode_tags.2, fetchingNode_reservations.1, fetchingNode_reservations.2, ?_,
    by unfold State.freeSlotsEmpty; decide⟩, _, rfl⟩
  have others : ∀ k : SlotIx, k = 2 ∨ k = 3 ∨ fetchingNode.slotVar k = none := by decide
  have two : fetchingNode.slotVar 2 = some 0x511 := by decide
  have three : fetchingNode.slotVar 3 = some 0x512 := by decide
  intro j k v hj hk
  rcases others j with rfl | rfl | h <;> rcases others k with rfl | rfl | g <;> simp_all

/-- A command that is no TENURE_END, a TENURE_END whose outcome is RETRIED, and the idle step. -/
theorem witness_OnlyCommitsGrant :
    let retried := onLink .close false 0 (some (ended 0x2600 0x0301 0 .retried)) busyNode
    let idle := busyNode.setPending []
    (Instr.cqpop ≠ .tenureEnd ∧ busyNode.homeCanonical ∧ exec .cqpop busyNode = .next (after .cqpop busyNode)) ∧
    (retried.homeCanonical ∧ retried.link.phase = .close ∧ TenureOutcome.retried ≠ .committed ∧
      exec .tenureEnd retried = .next (after .tenureEnd retried)) ∧
    (idle.pending = [] ∧ idle.homeCanonical ∧ ∃ t, step idle = .next t) :=
  ⟨⟨by decide, by decide, rfl⟩, ⟨by decide, by decide, by decide, rfl⟩, ⟨by decide, by decide, _, rfl⟩⟩

theorem witness_OnlyTheseChange : exec .cqpop busyNode = .next (after .cqpop busyNode) ∧
    (∀ x, Instr.cqpop ≠ .porRelease x) ∧ Instr.cqpop ≠ .tenureEnd ∧
    (∀ o w, o &&& 0x7E = 0x0A ∨ o &&& 0x7E = 0x0C → Instr.cqpop ≠ .registerWrite o w) ∧
    (∀ w, Instr.cqpop ≠ .softreset w) ∧ (∀ p l, Instr.cqpop ≠ .responseWord p l) :=
  ⟨rfl, fun _ => Instr.noConfusion, by decide, fun _ _ _ => Instr.noConfusion, fun _ => Instr.noConfusion,
    fun _ _ => Instr.noConfusion⟩

end Sys2Proof.Tests
end

/-!
PROOF. The completion queue at the host's side: the pop of CQPOP, its meeting with a post, and the CQ bit of CAUSE
(R169, R173, R200).
-/

namespace Sys2Proof.Machine

/-! ## The rules of a pop and a post -/

/-- A pop of an empty queue is ignored (R169). -/
theorem popCompletion_of_empty {s : State} (h : s.completion.queue = []) : popCompletion s = s := by
  simp only [popCompletion, h]

/-- A pop removes the head and returns its credit; nothing else moves (R169, R170). -/
theorem popCompletion_of_cons {s : State} {c : Completion} {rest : List Completion}
    (h : s.completion.queue = c :: rest) :
    popCompletion s = s.setCompletion { s.completion with queue := rest, free := s.completion.free + 1 } := by
  simp only [popCompletion, h]

/-- A pop leaves POR, the notice unit and the latched causes as they are: CAUSE can change in CQ only (R169, R200). -/
theorem popCompletion_frame (s : State) :
    (popCompletion s).por = s.por ∧ (popCompletion s).notices = s.notices ∧
      (popCompletion s).completion.latched = s.completion.latched := by
  cases h : s.completion.queue with
  | nil => rw [popCompletion_of_empty h]; exact ⟨rfl, rfl, rfl⟩
  | cons c rest => rw [popCompletion_of_cons h]; exact ⟨rfl, rfl, rfl⟩

/-- Popped on any queue: the queue is its tail (R169). -/
theorem popCompletion_queue (s : State) : (popCompletion s).completion.queue = s.completion.queue.tail := by
  cases h : s.completion.queue with
  | nil => rw [popCompletion_of_empty h, h, List.tail_nil]
  | cons c rest => rw [popCompletion_of_cons h]; rfl

/-- A posted record stands at the tail (R167). -/
@[simp] theorem post_queue (c : Completion) (s : State) :
    (post c s).completion.queue = s.completion.queue ++ [c] := rfl

/-- While a record is there to be popped, the post and the pop act on opposite ends of the queue, so their order does
not matter (R169). -/
theorem popCompletion_post_comm {s : State} {c d : Completion} {rest : List Completion}
    (h : s.completion.queue = d :: rest) : popCompletion (post c s) = post c (popCompletion s) := by
  have posted : (post c s).completion.queue = d :: (rest ++ [c]) := by rw [post_queue, h, List.cons_append]
  rw [popCompletion_of_cons posted, popCompletion_of_cons h]
  rfl

/-! ## The host's access -/

/-- Outside POR a host write takes effect (R196, R197). -/
theorem hostWrite_of_por_clear {s : State} (h : s.por = false) (f : State → State) : hostWrite f s = f s := by
  simp [hostWrite, h]

/-- Outside POR a host read answers the register (R196, R197). -/
theorem hostRead_of_por_clear {s : State} (h : s.por = false) (offset : BitVec 7) :
    s.hostRead offset = some (readRegister s (registerOffset offset)) := by
  simp [State.hostRead, h]

/-- A write to CQPOP, whatever the word, is the command CQPOP (R169, R197). -/
theorem exec_registerWrite_cqpop (s : State) (word : Halfword) :
    exec (.registerWrite 0x48 word) s = exec .cqpop s := rfl

/-- Outside POR the command CQPOP pops the completion queue (R169). -/
theorem exec_cqpop_of_por_clear {s : State} (h : s.por = false) : exec .cqpop s = .next (popCompletion s) :=
  congrArg Host.Outcome.next (hostWrite_of_por_clear h popCompletion)

/-! ## The CQ bit of CAUSE -/

/-- CQ is the complement of an empty completion queue (R173). -/
theorem cq_eq_false_iff (s : State) : s.cq = false ↔ s.completion.queue = [] := by
  simp [State.cq]

/-- Bit 0 of CAUSE is the low end of the word, so a mask of it leaves the word with that flag as 0 (R200). -/
theorem append_flagBit_and_mask (x : BitVec 15) (b : Bool) :
    (x ++ flagBit b) &&& 0xFFFE#16 = x ++ flagBit false := by
  have mask : 0xFFFE#16 = BitVec.allOnes 15 ++ 0#1 := by decide
  rw [mask, BitVec.and_append, BitVec.and_allOnes, BitVec.and_zero]
  rfl

/-- Two states that latch the same causes and agree on NQ read the same CAUSE but for CQ, which reads 0 where the
completion queue is empty (R173, R200). -/
theorem regCause_of_empty {s t : State} (latched : t.completion.latched = s.completion.latched)
    (notices : t.notices = s.notices) (empty : t.completion.queue = []) :
    regCause t = regCause s &&& 0xFFFE#16 := by
  have nq : t.nq = s.nq := congrArg (fun n : NoticeUnit => !n.inbound.isEmpty) notices
  simp only [regCause, latched, nq, (cq_eq_false_iff t).mpr empty]
  exact (append_flagBit_and_mask _ _).symm

/-! ## The obligation -/

/-- CQPOP on a queue with a head: the next state, the count one lower, and CQ reading 0 after the last record (R169). -/
theorem exec_cqpop_of_cons {s : State} (por : s.por = false) {c : Completion} {rest : List Completion}
    (queue : s.completion.queue = c :: rest) :
    ∃ t, exec .cqpop s = .next t ∧
      t = s.setCompletion { s.completion with queue := rest, free := s.completion.free + 1 } ∧
      t.completion.queue.length + 1 = s.completion.queue.length ∧
      (rest = [] → t.hostRead 0x08 = some (regCause s &&& 0xFFFE#16)) := by
  refine ⟨popCompletion s, exec_cqpop_of_por_clear por, popCompletion_of_cons queue, ?_, fun last => ?_⟩
  · rw [popCompletion_queue, queue]; rfl
  · obtain ⟨samePor, sameNotices, sameLatched⟩ := popCompletion_frame s
    have empty : (popCompletion s).completion.queue = [] := by rw [popCompletion_queue, queue, List.tail_cons, last]
    rw [hostRead_of_por_clear (samePor.trans por), ← regCause_of_empty sameLatched sameNotices empty]
    rfl

/-- Settles O19: CQPOP by the rules of the pop, with and without a head, and the two orders of R169's table by the
commutation of a pop and a post. -/
theorem completionPop : Obligations.CompletionPop := by
  refine ⟨fun s word por => ⟨exec_registerWrite_cqpop s word, fun empty => ?_, fun c rest => exec_cqpop_of_cons por⟩,
    fun s c empty => ⟨?_, ?_⟩, fun s c d rest queue => ⟨?_, popCompletion_post_comm queue⟩⟩
  · rw [exec_cqpop_of_por_clear por, popCompletion_of_empty empty]
  · rw [popCompletion_of_empty empty, post_queue, empty, List.nil_append]
  · rw [popCompletion_queue, post_queue, empty, List.nil_append, List.tail_cons]
  · rw [post_queue, popCompletion_queue, queue, List.tail_cons]

end Sys2Proof.Machine

/-!
PROOF. What the host reads: the register behind each offset of the window, and its word field by field (R196 to R205).
-/

namespace Sys2Proof.Machine

/-! ## The words, field by field

The lemmas on appended words speak of widths that are sums, so `simp` is kept from adding the widths up
(`-Nat.reduceAdd`). -/

/-- A flag is bit 0 of the bit it is packed into. -/
@[simp] theorem flagBit_getLsbD_zero (b : Bool) : (flagBit b).getLsbD 0 = b := by
  cases b <;> rfl

/-- The fields of CQHEAD (R203). -/
theorem cqHeadWord_fields (status code : BitVec 4) (tag : Tag) :
    let word := status ++ code ++ tag
    word.extractLsb' 12 4 = status ∧ word.extractLsb' 8 4 = code ∧ word.extractLsb' 0 8 = tag := by
  simp [BitVec.extractLsb'_append_eq_of_le, BitVec.extractLsb'_append_eq_of_add_le, -Nat.reduceAdd]

/-- The fields of CQINFO (R203). -/
theorem cqInfoWord_fields (count attempts : BitVec 5) (hasValue : Bool) :
    let word := count ++ 0#2 ++ flagBit hasValue ++ 0#3 ++ attempts
    word.extractLsb' 11 5 = count ∧ word.getLsbD 8 = hasValue ∧ word.extractLsb' 0 5 = attempts ∧
      word.extractLsb' 5 3 = 0#3 ∧ word.extractLsb' 9 2 = 0#2 := by
  simp [BitVec.extractLsb'_append_eq_of_le, BitVec.extractLsb'_append_eq_of_add_le, BitVec.getLsbD_append,
    -BitVec.getLsbD_eq_getElem, -Nat.reduceAdd]

/-- The fields of NQHEAD (R204). -/
theorem nqHeadWord_fields (count : BitVec 5) (length sender : BitVec 4) :
    let word := 0#3 ++ count ++ length ++ sender
    word.extractLsb' 8 5 = count ∧ word.extractLsb' 4 4 = length ∧ word.extractLsb' 0 4 = sender ∧
      word.extractLsb' 13 3 = 0#3 := by
  simp [BitVec.extractLsb'_append_eq_of_le, BitVec.extractLsb'_append_eq_of_add_le, -Nat.reduceAdd]

/-- The fields of CAUSE (R200). -/
theorem causeWord_fields (roster discard reclaim linkErr nq cq : Bool) :
    let word := 0#4 ++ flagBit roster ++ flagBit discard ++ flagBit reclaim ++ flagBit linkErr ++ 0#6 ++ flagBit nq
      ++ flagBit cq
    word.getLsbD 0 = cq ∧ word.getLsbD 1 = nq ∧ word.extractLsb' 2 6 = 0#6 ∧ word.getLsbD 8 = linkErr ∧
      word.getLsbD 9 = reclaim ∧ word.getLsbD 10 = discard ∧ word.getLsbD 11 = roster ∧
      word.extractLsb' 12 4 = 0#4 := by
  simp [BitVec.extractLsb'_append_eq_of_le, BitVec.extractLsb'_append_eq_of_add_le, BitVec.getLsbD_append,
    -BitVec.getLsbD_eq_getElem, -Nat.reduceAdd]

/-- The fields of STATE (R198). -/
theorem stateWord_fields (draining cold : Bool) (busy : BitVec 3) (participation : BitVec 2) :
    let word := 0#8 ++ flagBit draining ++ busy ++ 0#1 ++ flagBit cold ++ participation
    word.extractLsb' 0 2 = participation ∧ word.getLsbD 2 = cold ∧ word.getLsbD 3 = false ∧
      word.extractLsb' 4 3 = busy ∧ word.getLsbD 7 = draining ∧ word.extractLsb' 8 8 = 0#8 := by
  simp [BitVec.extractLsb'_append_eq_of_le, BitVec.extractLsb'_append_eq_of_add_le, BitVec.getLsbD_append,
    -BitVec.getLsbD_eq_getElem, -Nat.reduceAdd]

/-- The fields of CREDITS (R198). -/
theorem creditsWord_fields (queued : BitVec 4) (free : BitVec 5) :
    let word := 0#4 ++ queued ++ 0#3 ++ free
    word.extractLsb' 0 5 = free ∧ word.extractLsb' 8 4 = queued ∧ word.extractLsb' 5 3 = 0#3 ∧
      word.extractLsb' 12 4 = 0#4 := by
  simp [BitVec.extractLsb'_append_eq_of_le, BitVec.extractLsb'_append_eq_of_add_le, -Nat.reduceAdd]

/-- IDENT is the version in bits 15 to 8 and the node ID in bits 3 to 0 (R198). -/
theorem regIdent_eq (s : State) : regIdent s = 0x1200#16 ||| s.nodeId.setWidth 16 := by
  have version : 0x1200#16 = (Config.version ++ 0#4) ++ 0#4 := by decide
  have nodeId : s.nodeId.setWidth 16 = 0#12 ++ s.nodeId := BitVec.setWidth_eq_append (by decide)
  rw [version, nodeId, BitVec.or_append, BitVec.or_zero, BitVec.zero_or]
  rfl

/-- With every slot idle none is busy and none drains (R114, R179). -/
theorem busySlots_draining_of_idle {s : State} (idle : ∀ k : SlotIx, s.tracker.slots[k] = Slot.idle) :
    s.busySlots = 0 ∧ s.draining = false := by
  simp only [State.busySlots, State.draining, State.slotBody, idle]
  exact ⟨List.countP_eq_zero.mpr fun _ _ => Bool.false_ne_true, List.any_eq_false.mpr fun _ _ => Bool.false_ne_true⟩

/-! ## The head registers of an empty queue and of one with a head -/

/-- The completion head registers of an empty queue hold zeros (R203). -/
theorem completionHead_of_empty {s : State} (empty : s.completion.queue = []) :
    regCqHead s = 0#16 ∧ regCqVar s = 0#16 ∧ regCqInfo s = 0#16 ∧ regCqMask s = 0#16 ∧
      ∀ k : Fin 8, regCqVal s k = 0#16 := by
  simp only [regCqHead, regCqVar, regCqInfo, regCqMask, regCqVal, empty, implies_true, and_true]

/-- The notice head registers of an empty queue hold zeros (R204). -/
theorem noticeHead_of_empty {s : State} (empty : s.notices.inbound = []) :
    regNqHead s = 0#16 ∧ ∀ k : Nat, regNqData s k = 0#16 := by
  simp only [regNqHead, regNqData, empty, implies_true, and_true]

section
variable {s : State} {c : Completion} {rest : List Completion} (queue : s.completion.queue = c :: rest)
include queue

/-- CQHEAD of a head record (R203). -/
theorem regCqHead_of_cons : regCqHead s = c.status.number ++ c.code.number ++ c.tag := by
  simp only [regCqHead, queue]

/-- CQINFO of a head record (R203). -/
theorem regCqInfo_of_cons : regCqInfo s =
    BitVec.ofNat 5 (rest.length + 1) ++ 0#2 ++ flagBit c.value.isSome ++ 0#3 ++ BitVec.ofNat 5 c.attempts := by
  simp only [regCqInfo, queue]

/-- CQVAR is the head record's variable, its listener mask, or 0 where it has neither (R203). -/
theorem regCqVar_of_cons :
    (∀ v, c.subject = .var v → regCqVar s = v.setWidth 16) ∧ (∀ m, c.subject = .listeners m → regCqVar s = m) ∧
      (c.subject = .absent → regCqVar s = 0#16) := by
  refine ⟨fun v subject => ?_, fun m subject => ?_, fun subject => ?_⟩ <;> simp only [regCqVar, queue, subject]

/-- CQMASK is the head record's delivered mask, 0 where it has none (R203). -/
theorem regCqMask_of_cons : regCqMask s = c.delivered.getD 0#16 := by
  simp only [regCqMask, queue]

/-- CQVALk is the head record's halfword k, 0 where it has no value (R203). -/
theorem regCqVal_of_cons (k : Fin 8) : regCqVal s k = c.value.elim 0#16 fun x => x[k] := by
  simp only [regCqVal, queue]

end

section
variable {s : State} {n : NoticeRecord} {rest : List NoticeRecord} (inbound : s.notices.inbound = n :: rest)
include inbound

/-- NQHEAD of a head record (R204). -/
theorem regNqHead_of_cons :
    regNqHead s = 0#3 ++ BitVec.ofNat 5 (rest.length + 1) ++ BitVec.ofNat 4 n.payload.length ++ n.sender := by
  simp only [regNqHead, inbound]

/-- NQDATAk is the head record's payload halfword k, 0 past its length (R204). -/
theorem regNqData_of_cons (k : Nat) : regNqData s k = n.payload.getD k 0#16 := by
  simp only [regNqData, inbound]

end

/-! ## The offsets of the window -/

section
variable {s : State} (por : s.por = false)
include por

/-- The completion head registers stand at 0x30 to 0x36 (R203). -/
theorem hostRead_completionHead :
    s.hostRead 0x30 = some (regCqHead s) ∧ s.hostRead 0x32 = some (regCqVar s) ∧
      s.hostRead 0x34 = some (regCqInfo s) ∧ s.hostRead 0x36 = some (regCqMask s) :=
  ⟨hostRead_of_por_clear por 0x30, hostRead_of_por_clear por 0x32, hostRead_of_por_clear por 0x34,
    hostRead_of_por_clear por 0x36⟩

/-- CQVAL0 to CQVAL7 stand from 0x38 on (R203). -/
theorem hostRead_cqVal (k : Fin 8) : s.hostRead (BitVec.ofNat 7 (0x38 + 2 * k.val)) = some (regCqVal s k) := by
  rw [hostRead_of_por_clear por]
  fin_cases k <;> rfl

/-- NQHEAD stands at 0x50 (R204). -/
theorem hostRead_nqHead : s.hostRead 0x50 = some (regNqHead s) := hostRead_of_por_clear por 0x50

/-- NQDATA0 to NQDATA7 stand from 0x52 on (R204). -/
theorem hostRead_nqData (k : Fin 8) : s.hostRead (BitVec.ofNat 7 (0x52 + 2 * k.val)) = some (regNqData s k) := by
  rw [hostRead_of_por_clear por]
  fin_cases k <;> rfl

/-- IDENT, STATE, ROSTER, CAUSE and CREDITS stand at 0x00, 0x02, 0x04, 0x08 and 0x0E (R198, R200). -/
theorem hostRead_status :
    s.hostRead 0x00 = some (regIdent s) ∧ s.hostRead 0x02 = some (regState s) ∧
      s.hostRead 0x04 = some s.link.roster ∧ s.hostRead 0x08 = some (regCause s) ∧
      s.hostRead 0x0E = some (regCredits s) :=
  ⟨hostRead_of_por_clear por 0x00, hostRead_of_por_clear por 0x02, hostRead_of_por_clear por 0x04,
    hostRead_of_por_clear por 0x08, hostRead_of_por_clear por 0x0E⟩

end

end Sys2Proof.Machine

/-!
PROOF. What both resets leave behind the register window, and what the registers then read (R178, R194, R195).
-/

namespace Sys2Proof.Machine

/-- The blocks behind the register window as either reset leaves them: the queues empty, no slot busy, all credits free,
no cause latched, an empty roster, and the node OFFLINE (R194, R195). -/
structure ResetContent (t : State) : Prop where
  por : t.por = false
  participation : t.participation = .offline
  commands : t.port.queue = []
  tracker : t.tracker = Tracker.empty
  inbound : t.notices.inbound = []
  completions : t.completion.queue = []
  free : t.completion.free = Config.credits
  latched : t.completion.latched = Latched.clear
  roster : t.link.roster = 0

/-! ## The two resets -/

/-- A release of POR leaves the reset content (R195). -/
theorem resetContent_releasePor (straps : NodeId) (s : State) : ResetContent (releasePor straps s) :=
  ⟨rfl, rfl, rfl, rfl, rfl, rfl, rfl, rfl, rfl⟩

/-- The clear a soft reset pulses raises CNT-CLEAR alone of the counters, and only at a participant; POR, node ID and cold
flag are not touched (R91, R194). -/
theorem softResetClear_keeps (s : State) :
    (softResetClear s).por = s.por ∧ (softResetClear s).nodeId = s.nodeId ∧ (softResetClear s).cold = s.cold ∧
      (softResetClear s).completion.counters =
        if s.inTenure = true then s.completion.counters.set (satAdd s.completion.counters.clear 1) .clear
        else s.completion.counters := by
  unfold softResetClear
  split
  · simp [countLinkClear, latch, raiseCounter, clearLink, drivePulse, Counters.get]
  · exact ⟨rfl, rfl, rfl, rfl⟩

/-- The blocks that a soft reset empties are none of POR, node ID, cold flag and counters (R194). -/
theorem softResetBlocks_keeps (s : State) :
    (softResetBlocks s).por = s.por ∧ (softResetBlocks s).nodeId = s.nodeId ∧ (softResetBlocks s).cold = s.cold ∧
      (softResetBlocks s).completion.counters = s.completion.counters :=
  ⟨rfl, rfl, rfl, rfl⟩

/-- A soft reset leaves POR, node ID and cold flag, and of the counters it raises CNT-CLEAR alone, at a participant
(R194). -/
theorem softReset_keeps (s : State) :
    (softReset s).por = s.por ∧ (softReset s).nodeId = s.nodeId ∧ (softReset s).cold = s.cold ∧
      (softReset s).completion.counters =
        if s.inTenure = true then s.completion.counters.set (satAdd s.completion.counters.clear 1) .clear
        else s.completion.counters := by
  obtain ⟨por, nodeId, cold, counters⟩ := softResetClear_keeps s
  obtain ⟨por', nodeId', cold', counters'⟩ := softResetBlocks_keeps (softResetClear s)
  exact ⟨por'.trans por, nodeId'.trans nodeId, cold'.trans cold, counters'.trans counters⟩

/-- An OFFLINE node in IDLE takes its own pulse from outside: only the link unit changes, and the roster stands
(R90, R92). -/
theorem hostPulse_of_offline {s : State} (idle : s.link.phase = .idle) (offline : s.participation = .offline) :
    ∃ link : LinkUnit, hostPulse s = s.setLink link ∧ link.roster = s.link.roster := by
  have unobserved : (drivePulse s).observesClear = false := by
    simp [State.observesClear, State.inTenure, drivePulse, idle, offline]
  obtain ⟨observed, _⟩ | ⟨_, outside⟩ := abortLink_cases .cleared (drivePulse s)
  · rw [unobserved] at observed; cases observed
  · exact ⟨_, outside, rfl⟩

/-- Where TAKEN follows VALID there is no holdoff to end (R76, R154). -/
theorem tryTake_of_follows {s : State} (follows : s.link.taken = .follows) : tryTake s = s := by
  have holding : s.holdingOff = false := by simp [State.holdingOff, follows]
  simp [tryTake, holding]

/-- A write of CONTROL with SOFTRESET as 1 is a soft reset, the kept fields, and the host's pulse where LINKCLEAR is 1
too: the reset leaves no holdoff for the fields to end (R194, R199). -/
theorem writeControl_softreset {word : Halfword} (bit : word.getLsbD 0 = true) (s : State) :
    writeControl word s =
      if word.getLsbD 1 then hostPulse ((softReset s).setControl (controlOf word))
      else (softReset s).setControl (controlOf word) := by
  have follows : ((softReset s).setControl (controlOf word)).link.taken = .follows := by
    rw [State.setControl_link, softReset, softResetBlocks, softResetLink, LinkUnit.reset]
  simp only [writeControl, bit, if_true, tryTake_of_follows follows]

/-- The command SOFTRESET is a soft reset; the write of CONTROL it is part of goes on to change the kept fields and, with
LINKCLEAR in the word, the link unit (R194, R199). -/
theorem exec_softreset {s : State} (por : s.por = false) (word : Halfword) :
    ∃ (control : Control) (link : LinkUnit),
      exec (.softreset word) s = .next (((softReset s).setControl control).setLink link) ∧ link.roster = 0 := by
  have write : exec (.softreset word) s = .next (writeControl (word ||| 1#16) s) :=
    congrArg Host.Outcome.next (hostWrite_of_por_clear por _)
  have bit : (word ||| 1#16).getLsbD 0 = true := by simp
  rw [write, writeControl_softreset bit]
  split
  · obtain ⟨link, pulse, roster⟩ :=
      hostPulse_of_offline (s := (softReset s).setControl (controlOf (word ||| 1#16))) rfl rfl
    exact ⟨_, link, congrArg Host.Outcome.next pulse, roster⟩
  · exact ⟨controlOf (word ||| 1#16), (softReset s).link, rfl, rfl⟩

/-- A SOFTRESET leaves the reset content and, with it, what a soft reset keeps (R194). -/
theorem exec_softreset_content {s : State} (por : s.por = false) (word : Halfword) :
    ∃ t, exec (.softreset word) s = .next t ∧ ResetContent t ∧ t.nodeId = s.nodeId ∧ t.cold = s.cold ∧
      t.completion.counters = (softReset s).completion.counters := by
  obtain ⟨control, link, next, roster⟩ := exec_softreset por word
  obtain ⟨samePor, nodeId, cold, _⟩ := softReset_keeps s
  exact ⟨_, next, ⟨samePor.trans por, rfl, rfl, rfl, rfl, rfl, rfl, rfl, roster⟩, nodeId, cold, rfl⟩

/-! ## What the registers read after a reset -/

section
variable {t : State} (reset : ResetContent t)
include reset

/-- CAUSE reads 0 after a reset (R178, R200). -/
theorem ResetContent.hostRead_cause : t.hostRead 0x08 = some 0 := by
  obtain ⟨_, _, _, read, _⟩ := hostRead_status reset.por
  rw [read]
  simp only [regCause, State.cq, State.nq, reset.latched, reset.inbound, reset.completions]
  rfl

/-- STATE reads the cold flag alone after a reset (R198). -/
theorem ResetContent.hostRead_state : t.hostRead 0x02 = some (if t.cold = true then 0x0004 else 0x0000) := by
  obtain ⟨_, read, _⟩ := hostRead_status reset.por
  have idle : ∀ k : SlotIx, t.tracker.slots[k] = Slot.idle := fun k => by
    simp only [reset.tracker, Tracker.empty, Fin.getElem_fin, Vector.getElem_replicate]
  obtain ⟨busy, draining⟩ := busySlots_draining_of_idle idle
  rw [read, regState, busy, draining, reset.participation]
  cases t.cold <;> rfl

/-- ROSTER reads 0 after a reset (R198). -/
theorem ResetContent.hostRead_roster : t.hostRead 0x04 = some 0 := by
  obtain ⟨_, _, read, _⟩ := hostRead_status reset.por
  rw [read, reset.roster]

/-- CREDITS reads 16 free credits and no queued record after a reset (R172, R198). -/
theorem ResetContent.hostRead_credits : t.hostRead 0x0E = some 0x0010 := by
  obtain ⟨_, _, _, _, read⟩ := hostRead_status reset.por
  rw [read]
  simp only [regCredits, reset.commands, reset.free]
  rfl

end

end Sys2Proof.Machine

/-!
PROOF. The head registers of both queues (R203, R204), with the pops and the resets that move their heads.
-/

namespace Sys2Proof.Machine

/-- The end of a holdoff leaves POR and the inbound records as they are (R154). -/
theorem tryTake_frame (s : State) :
    (tryTake s).por = s.por ∧ (tryTake s).notices.inbound = s.notices.inbound := by
  obtain ⟨_, same⟩ | ⟨_, b, _, _, reserves | ⟨_, _, takes⟩⟩ := tryTake_cases s
  · rw [same]; exact ⟨rfl, rfl⟩
  · rw [reserves]; exact ⟨rfl, rfl⟩
  · rw [takes]; exact ⟨rfl, rfl⟩

/-- A notice pop leaves POR; the inbound queue is its tail (R162). -/
theorem popNotice_frame (s : State) :
    (popNotice s).por = s.por ∧ (popNotice s).notices.inbound = s.notices.inbound.tail := by
  cases inbound : s.notices.inbound with
  | nil => simp only [popNotice, inbound, List.tail_nil, and_self]
  | cons n rest =>
    obtain ⟨por, queue⟩ := tryTake_frame (s.setNotices { s.notices with inbound := rest })
    simp only [popNotice, inbound]
    exact ⟨por, queue⟩

/-- Outside POR a write to NQPOP, whatever the word, pops the inbound notice queue (R162, R197). -/
theorem exec_registerWrite_nqpop {s : State} (por : s.por = false) (word : Halfword) :
    exec (.registerWrite 0x62 word) s = .next (popNotice s) :=
  congrArg Host.Outcome.next (hostWrite_of_por_clear por popNotice)

/-- Settles O20: each head register by its offset and its word, the new heads by the rules of the two pops, and the empty
queues by the content both resets leave. -/
theorem headRegistersRead : Obligations.HeadRegistersRead := by
  refine ⟨fun s por empty => ?_, fun s c rest por queue => ?_, fun s por empty => ?_, fun s n rest por inbound => ?_,
    fun s word por => ⟨?_, ?_⟩, fun s straps word => ⟨fun _ => ?_, fun por => ?_⟩⟩
  · obtain ⟨head, var, info, mask⟩ := hostRead_completionHead por
    obtain ⟨head0, var0, info0, mask0, val0⟩ := completionHead_of_empty empty
    rw [head, var, info, mask, head0, var0, info0, mask0]
    exact ⟨rfl, rfl, rfl, rfl, fun k => by rw [hostRead_cqVal por, val0]; rfl⟩
  · obtain ⟨head, var, info, mask⟩ := hostRead_completionHead por
    obtain ⟨status, code, tag⟩ := cqHeadWord_fields c.status.number c.code.number c.tag
    obtain ⟨count, hasValue, attempts, zeros, zeros'⟩ :=
      cqInfoWord_fields (BitVec.ofNat 5 (rest.length + 1)) (BitVec.ofNat 5 c.attempts) c.value.isSome
    obtain ⟨ofVar, ofListeners, ofAbsent⟩ := regCqVar_of_cons queue
    rw [regCqHead_of_cons queue] at head
    rw [regCqInfo_of_cons queue] at info
    refine ⟨_, _, head, info, status, code, tag, count, hasValue, attempts, zeros, zeros', fun v subject => ?_,
      fun m subject => ?_, fun subject => ?_, ?_, fun k => ?_⟩
    · rw [var, ofVar v subject]
    · rw [var, ofListeners m subject]
    · rw [var, ofAbsent subject]; rfl
    · rw [mask, regCqMask_of_cons queue]; rfl
    · rw [hostRead_cqVal por, regCqVal_of_cons queue]
      cases c.value <;> rfl
  · obtain ⟨head0, data0⟩ := noticeHead_of_empty empty
    rw [hostRead_nqHead por, head0]
    exact ⟨rfl, fun k => by rw [hostRead_nqData por, data0]; rfl⟩
  · obtain ⟨count, length, sender, zeros⟩ :=
      nqHeadWord_fields (BitVec.ofNat 5 (rest.length + 1)) (BitVec.ofNat 4 n.payload.length) n.sender
    have head := hostRead_nqHead por
    rw [regNqHead_of_cons inbound] at head
    exact ⟨⟨_, head, count, length, sender, zeros⟩, fun k => by
      rw [hostRead_nqData por, regNqData_of_cons inbound]; rfl⟩
  · obtain ⟨samePor, _⟩ := popCompletion_frame s
    exact ⟨_, exec_cqpop_of_por_clear por, samePor.trans por, popCompletion_queue s⟩
  · obtain ⟨samePor, queue⟩ := popNotice_frame s
    exact ⟨_, exec_registerWrite_nqpop por word, samePor.trans por, queue⟩
  · have reset := resetContent_releasePor straps s
    exact ⟨_, rfl, reset.por, reset.completions, reset.inbound⟩
  · obtain ⟨t, next, reset, _⟩ := exec_softreset_content por word
    exact ⟨t, next, reset.por, reset.completions, reset.inbound⟩

end Sys2Proof.Machine

/-!
PROOF. CAUSE (R200) and the statistics counters (R177, R205).
-/

namespace Sys2Proof.Machine

/-! ## CAUSE -/

/-- Outside POR the command CAUSE_CLEAR clears the causes its word names (R200). -/
theorem exec_causeClear_of_por_clear {s : State} (por : s.por = false) (word : Halfword) :
    exec (.causeClear word) s = .next (clearCauses word s) :=
  congrArg Host.Outcome.next (hostWrite_of_por_clear por _)

/-- A word with none of bits 11 to 8 clears no cause (R200). -/
theorem clearCauses_of_unset {word : Halfword} (linkErr : word.getLsbD 8 = false) (reclaim : word.getLsbD 9 = false)
    (discard : word.getLsbD 10 = false) (roster : word.getLsbD 11 = false) (s : State) : clearCauses word s = s := by
  simp only [clearCauses, linkErr, reclaim, discard, roster, Bool.not_false, Bool.and_true]
  rfl

/-- A word with all of bits 11 to 8 clears every cause (R200). -/
theorem clearCauses_of_set {word : Halfword} (linkErr : word.getLsbD 8 = true) (reclaim : word.getLsbD 9 = true)
    (discard : word.getLsbD 10 = true) (roster : word.getLsbD 11 = true) (s : State) :
    clearCauses word s = s.setCompletion { s.completion with latched := Latched.clear } := by
  simp only [clearCauses, linkErr, reclaim, discard, roster, Bool.not_true, Bool.and_false]
  rfl

/-- A write of CAUSE leaves the queues and the enables: with those sources quiet and no cause left latched, IRQ is
deasserted (R175, R200). -/
theorem irq_clearCauses_of_quiet {s : State} {word : Halfword} (cq : (s.cq && s.control.cqe) = false)
    (nq : (s.nq && s.control.nqe) = false) (latched : (clearCauses word s).completion.latched.any = false) :
    (clearCauses word s).irq = false := by
  have sources : (clearCauses word s).irq =
      ((s.cq && s.control.cqe) || (s.nq && s.control.nqe) ||
        ((clearCauses word s).completion.latched.any && s.control.atte)) := rfl
  rw [sources, cq, nq, latched]
  rfl

/-- Settles O25: the read by CAUSE's fields, the write by the rule of `clearCauses`, the resets by the content both leave. -/
theorem causeRegister : Obligations.CauseRegister := by
  refine ⟨fun s por => ?_, fun s word por => ⟨rfl, exec_causeClear_of_por_clear por word⟩, fun s por => ⟨?_, ?_⟩,
    fun s t straps _ next => ?_, fun s t word por next => ?_, fun s t word por next cq nq latched => ?_⟩
  · obtain ⟨_, _, _, read, _⟩ := hostRead_status por
    exact ⟨_, read, causeWord_fields _ _ _ _ _ _⟩
  · rw [exec_causeClear_of_por_clear por, clearCauses_of_set (by decide) (by decide) (by decide) (by decide)]
    rfl
  · rw [exec_causeClear_of_por_clear por, clearCauses_of_unset (by decide) (by decide) (by decide) (by decide)]
  · cases next
    exact (resetContent_releasePor straps s).hostRead_cause
  · obtain ⟨u, next', reset, _⟩ := exec_softreset_content por word
    cases next'.symm.trans next
    exact reset.hostRead_cause
  · cases (exec_causeClear_of_por_clear por word).symm.trans next
    exact irq_clearCauses_of_quiet cq nq latched

/-! ## The counters -/

/-- The offset of a counter's register (R205). -/
def counterOffset : Counter → BitVec 7
  | .retry => 0x70
  | .clear => 0x72
  | .reclaim => 0x74
  | .discard => 0x76
  | .proto => 0x78

/-- A counter's register reads the counter (R205). -/
theorem hostRead_counterOffset {s : State} (por : s.por = false) (w : Counter) :
    s.hostRead (counterOffset w) = some (s.completion.counters.get w) := by
  rw [hostRead_of_por_clear por]
  cases w <;> rfl

/-- A write to a counter's register, whatever the word, is the command COUNTER_CLEAR (R177, R197). -/
theorem exec_registerWrite_counterOffset (s : State) (w : Counter) (word : Halfword) :
    exec (.registerWrite (counterOffset w) word) s = exec (.counterClear w) s := by
  cases w <;> rfl

/-- Outside POR the command COUNTER_CLEAR sets its counter to 0 (R177). -/
theorem exec_counterClear_of_por_clear {s : State} (por : s.por = false) (w : Counter) :
    exec (.counterClear w) s = .next (zeroCounter w s) :=
  congrArg Host.Outcome.next (hostWrite_of_por_clear por _)

/-- A change of one counter leaves the others. -/
theorem Counters.get_set (c : Counters) (w x : Counter) (value : BitVec 16) :
    (c.set value w).get x = if x = w then value else c.get x := by
  cases w <;> cases x <;> rfl

/-- A counter set to its own value changes nothing. -/
theorem Counters.set_get (c : Counters) (w : Counter) : c.set (c.get w) w = c := by
  cases w <;> rfl

/-- One increment: a counter at 65535 stays there, any other rises by one (R177). -/
theorem satAdd_one (c : BitVec 16) : satAdd c 1 = if c = 65535 then c else c + 1 := by
  apply BitVec.eq_of_toNat_eq
  by_cases full : c = 65535
  · subst full
    rfl
  · have below : c.toNat + 1 ≤ 65535 := by bv_omega
    rw [if_neg full, satAdd, Nat.min_eq_right below, BitVec.toNat_ofNat, BitVec.toNat_add]
    rfl

/-- The counter raised reads its saturating sum, the others as before (R176, R177). -/
theorem raiseCounter_get (w x : Counter) (n : Nat) (s : State) :
    (raiseCounter w n s).completion.counters.get x =
      if x = w then satAdd (s.completion.counters.get w) n else s.completion.counters.get x :=
  Counters.get_set _ _ _ _

/-- The counter cleared reads 0, the others as before (R177). -/
theorem zeroCounter_get (w x : Counter) (s : State) :
    (zeroCounter w s).completion.counters.get x = if x = w then 0 else s.completion.counters.get x :=
  Counters.get_set _ _ _ _

/-- An increment of a counter at 65535 changes nothing at all (R177). -/
theorem raiseCounter_of_full {s : State} {w : Counter} (full : s.completion.counters.get w = 65535) :
    raiseCounter w 1 s = s := by
  rw [raiseCounter, satAdd_one, if_pos full, Counters.set_get]
  rfl

/-- CNT-CLEAR after a soft reset's own clear, and the other counters kept (R177, R194). -/
theorem softReset_counters_get (s : State) (w : Counter) :
    (softReset s).completion.counters.get w =
      if w = .clear ∧ s.inTenure = true ∧ s.completion.counters.clear ≠ 65535 then s.completion.counters.clear + 1
      else s.completion.counters.get w := by
  obtain ⟨_, _, _, counters⟩ := softReset_keeps s
  rw [counters]
  by_cases inTenure : s.inTenure = true
  · rw [if_pos inTenure, Counters.get_set, satAdd_one]
    by_cases clear : w = .clear
    · subst clear
      simp [inTenure, Counters.get]
    · simp [clear]
  · simp [inTenure]

/-- Settles O26: reads and writes by the offset of each counter, saturation by `satAdd_one`, and the counters a soft reset
leaves. -/
theorem counterRegisters : Obligations.CounterRegisters := by
  unfold Obligations.CounterRegisters
  intro offset
  have offsets : offset = counterOffset := by
    funext w
    cases w <;> rfl
  rw [offsets]
  refine ⟨fun s w por => hostRead_counterOffset por w,
    fun s w word por => ⟨exec_registerWrite_counterOffset s w word, _, exec_counterClear_of_por_clear por w, rfl,
      fun x => zeroCounter_get w x s⟩,
    fun s w full => raiseCounter_of_full full, fun s w room => ?_, fun s w => ⟨?_, ?_⟩,
    fun s t straps w _ next => ?_, fun s t word por next => ?_⟩
  · rw [raiseCounter_get, if_pos rfl, satAdd_one, if_neg room]
  · rw [zeroCounter_get, if_pos rfl]
  · rw [raiseCounter_get, if_pos rfl, zeroCounter_get, if_pos rfl]
    rfl
  · cases next
    rw [hostRead_counterOffset (resetContent_releasePor straps s).por]
    cases w <;> rfl
  · obtain ⟨u, next', reset, _, _, counters⟩ := exec_softreset_content por word
    cases next'.symm.trans next
    exact ⟨congrArg Latched.linkErr reset.latched, fun w => by rw [counters, softReset_counters_get]⟩

end Sys2Proof.Machine

/-!
PROOF. IDENT, STATE, ROSTER and CREDITS (R198), and a cold node's JOIN as STATE shows it (R112, R181).
-/

namespace Sys2Proof.Machine

/-! ## A JOIN admitted at rest -/

/-- The code and the tag staged by a submit row (R95). -/
theorem cmdWord_fields (code : BitVec 4) (tag : Tag) :
    (cmdWord code tag).extractLsb' 8 4 = code ∧ (cmdWord code tag).extractLsb' 0 8 = tag := by
  obtain ⟨_, codeField, tagField⟩ := cqHeadWord_fields 0#4 code tag
  exact ⟨codeField, tagField⟩

/-- A staged JOIN passes every check at an OFFLINE node with an empty queue and a free credit (R96). -/
theorem checkSubmit_join {s : State} {tag : Tag} (staged : s.port.staging.cmd = cmdWord 10 tag)
    (offline : s.participation = .offline) (queue : s.port.queue = []) (free : 1 ≤ s.completion.free) :
    checkSubmit s = .ok .join := by
  obtain ⟨codeField, _⟩ := cmdWord_fields 10 tag
  have formed : formBody s.nodeId s.port.staging = .ok .join := by
    simp only [formBody, stagedCode, staged, codeField]
    rfl
  have room : hasRoom s .join = true := by
    simp [hasRoom, queue, Body.credits, free, Config.queueCapacity]
  simp only [checkSubmit, formed, offline, room, stateAdmits, if_true]

/-- The four slots in rising number (R114). -/
theorem slots_in_order : List.finRange 4 = ([0, 1, 2, 3] : List SlotIx) := by decide

/-- Where every slot is idle, a lone queued record starts in slot 0 (R100, R101). -/
theorem startNext_of_idle {s : State} {c : Command} (idle : ∀ k : SlotIx, s.tracker.slots[k] = Slot.idle)
    (queue : s.port.queue = [c]) : startNext s = some (startSlot 0 c [] s) := by
  have free : s.freeSlot = some 0 := by
    simp only [State.freeSlot, idle]
    decide
  have busy : s.busyCommands = [] := by
    simp only [State.busyCommands, idle]
    decide
  have alone : eligible [] [] c = true := by
    unfold eligible
    cases c.body <;> rfl
  simp [startNext, free, busy, queue, takeEligible, alone]

/-- A start touches of the slots its own alone, which is in PLAN from then on (R101). -/
theorem startSlot_slot (k j : SlotIx) (c : Command) (queue : List Command) (s : State) :
    (startSlot k c queue s).tracker.slots[j] =
      if k = j then { Slot.idle with phase := .plan, command := some c } else s.tracker.slots[j] := by
  have tracker : ∀ (b : Body) (s : State), (startParticipation b s).tracker = s.tracker := fun b s => by
    cases b <;> rfl
  simp only [startSlot, tracker]
  exact writeSlot_slot k j _ _

/-- A start of a JOIN takes the record off the queue and the node to JOINING (R101, R181). -/
theorem startSlot_join {c : Command} (join : c.body = .join) (k : SlotIx) (queue : List Command) (s : State) :
    (startSlot k c queue s).por = s.por ∧ (startSlot k c queue s).cold = s.cold ∧
      (startSlot k c queue s).port = { s.port with queue := queue } ∧
      (startSlot k c queue s).participation = .joining := by
  rw [startSlot, join]
  exact ⟨rfl, rfl, rfl, rfl⟩

/-- Slot 0 with a planned JOIN: in SEND, with its frame (R135). -/
def joinSlot (c : Command) : Slot :=
  { Slot.idle with phase := .send, command := some c, frame := some ⟨.join, 0, []⟩ }

section
variable {s : State} {c : Command}

/-- A started JOIN's plan is its frame (R135). -/
theorem planSlot_of_started_join (join : c.body = .join) :
    planSlot 0 (startSlot 0 c [] s) = writeSlot 0 (joinSlot c) (startSlot 0 c [] s) := by
  have started : (startSlot 0 c [] s).tracker.slots[(0 : SlotIx)] =
      { Slot.idle with phase := .plan, command := some c } := by rw [startSlot_slot, if_pos rfl]
  simp only [planSlot, started, join, sendFrame]
  rfl

/-- The slots once the JOIN has planned: no other is busy. -/
theorem joined_slot (idle : ∀ k : SlotIx, s.tracker.slots[k] = Slot.idle) (k : SlotIx) :
    (writeSlot 0 (joinSlot c) (startSlot 0 c [] s)).tracker.slots[k] =
      if 0 = k then joinSlot c else Slot.idle := by
  rw [writeSlot_slot, startSlot_slot, idle]
  split <;> rfl

/-- A queued JOIN starts, plans its frame, and nothing else moves in the event (R101, R116, R135). -/
theorem settle_of_join (idle : ∀ k : SlotIx, s.tracker.slots[k] = Slot.idle) (join : c.body = .join)
    (queue : s.port.queue = [c]) : settle s = writeSlot 0 (joinSlot c) (startSlot 0 c [] s) := by
  have quiet : s.nextDue = none := nextDue_of_no_plan fun k => by rw [idle]; decide
  have due : (startSlot 0 c [] s).nextDue = some 0 := by
    rw [State.nextDue, slots_in_order]
    exact List.find?_cons_of_pos (by rw [State.due, startSlot_slot]; rfl)
  have sent : (writeSlot 0 (joinSlot c) (startSlot 0 c [] s)).nextDue = none := nextDue_of_no_plan fun k => by
    rw [joined_slot idle]
    split <;> exact SlotPhase.noConfusion
  have empty : (writeSlot 0 (joinSlot c) (startSlot 0 c [] s)).port.queue = [] := by
    obtain ⟨_, _, port, _⟩ := startSlot_join join 0 [] s
    exact congrArg Port.queue port
  calc settle s
      = settleFor 63 (startSlot 0 c [] s) := settleFor_start quiet (startNext_of_idle idle queue) 63
    _ = settleFor 62 (planSlot 0 (startSlot 0 c [] s)) := settleFor_plan due 62
    _ = writeSlot 0 (joinSlot c) (startSlot 0 c [] s) := by
      rw [planSlot_of_started_join join]
      exact settleFor_quiet sent (startNext_of_queue_nil empty) 62

end

/-- The submit of a staged JOIN at an idle OFFLINE node: SUBMIT accepts, the node is JOINING, and slot 0 alone is busy, with
the JOIN (R97, R101, R112, R181). -/
theorem submit_join {s : State} {tag : Tag} (staged : s.port.staging.cmd = cmdWord 10 tag)
    (idle : ∀ k : SlotIx, s.tracker.slots[k] = Slot.idle) (offline : s.participation = .offline)
    (queue : s.port.queue = []) (free : 1 ≤ s.completion.free) :
    (submit s).por = s.por ∧ (submit s).cold = s.cold ∧ (submit s).port.result = .accepted ∧
      (submit s).participation = .joining ∧
      ∀ k : SlotIx, (submit s).tracker.slots[k] =
        if 0 = k then joinSlot ⟨tag, s.port.nextSeq, .join⟩ else Slot.idle := by
  have queued : (enqueue .join s).port.queue = [⟨tag, s.port.nextSeq, .join⟩] := by
    obtain ⟨_, tagField⟩ := cmdWord_fields 10 tag
    simp only [enqueue, State.setPort_port, stagedTag, staged, tagField, queue, List.nil_append]
  have planned : submit s = writeSlot 0 (joinSlot ⟨tag, s.port.nextSeq, .join⟩)
      (startSlot 0 ⟨tag, s.port.nextSeq, .join⟩ [] (enqueue .join s)) := by
    simp only [submit, checkSubmit_join staged offline queue free]
    exact settle_of_join idle rfl queued
  obtain ⟨por, cold, port, joining⟩ :=
    startSlot_join (c := ⟨tag, s.port.nextSeq, .join⟩) rfl 0 [] (enqueue .join s)
  rw [planned]
  exact ⟨por, cold, congrArg Port.result port, joining, joined_slot idle⟩

/-- The command JOIN at rest (R112, R181). -/
theorem exec_join {s : State} (resting : s.atRest) (offline : s.participation = .offline)
    (free : 1 ≤ s.completion.free) (tag : Tag) :
    ∃ t, exec (.join tag) s = .next t ∧ t.por = false ∧ t.cold = s.cold ∧ t.port.result = .accepted ∧
      t.participation = .joining ∧
      ∀ k : SlotIx, t.tracker.slots[k] = if 0 = k then joinSlot ⟨tag, s.port.nextSeq, .join⟩ else Slot.idle := by
  obtain ⟨por, queue, idle, _⟩ := resting
  obtain ⟨samePor, cold, accepted, joining, slots⟩ :=
    submit_join (s := setStaging (fun st => { st with cmd := cmdWord 10 tag }) s) rfl idle offline queue free
  exact ⟨_, congrArg Host.Outcome.next (hostWrite_of_por_clear por _), samePor.trans por, cold, accepted, joining,
    slots⟩

/-! ## The obligation -/

/-- The draining bit of STATE, spelled out: one of the slots carries a FLUSH or a LEAVE (R179, R198). -/
theorem draining_eq (s : State) : s.draining = (List.finRange 4).any fun k =>
    (s.tracker.slots[k].command).any fun c => c.body == .flush || c.body == .leave := by
  have drains : ∀ b : Body, b.drains = (b == .flush || b == .leave) := fun b => by cases b <;> rfl
  simp only [State.draining, State.slotBody, Option.any_map, drains]

/-- STATE while slot 0 alone is busy, with a JOIN, at a JOINING node (R198). -/
theorem regState_of_joining {s : State} {c : Command} (join : c.body = .join) (joining : s.participation = .joining)
    (slots : ∀ k : SlotIx, s.tracker.slots[k] = if 0 = k then joinSlot c else Slot.idle) :
    regState s = if s.cold = true then 0x0015 else 0x0011 := by
  have busy : s.busySlots = 1 := by
    simp only [State.busySlots, slots, slots_in_order]
    rfl
  have draining : s.draining = false := by
    simp [State.draining, State.slotBody, slots, slots_in_order, joinSlot, join, Body.drains, Slot.idle,
      -Fin.getElem_fin]
  rw [regState, busy, draining, joining]
  cases s.cold <;> rfl

/-- Settles O27: the four words field by field, the content both resets leave, and the JOIN's own slot in STATE. -/
theorem statusRegisters : Obligations.StatusRegisters := by
  refine ⟨fun s por => ?_, fun s straps _ => ?_, fun s word por => ?_, fun s tag resting offline free => ?_⟩
  · obtain ⟨ident, state, roster, _, credits⟩ := hostRead_status por
    obtain ⟨number, cold, zero, busy, draining, zeros⟩ :=
      stateWord_fields s.draining s.cold (BitVec.ofNat 3 s.busySlots) s.participation.number
    refine ⟨ident.trans (congrArg some (regIdent_eq s)), roster,
      ⟨_, state, number.trans ?_, cold, zero, busy, draining.trans (draining_eq s), zeros⟩,
      _, credits, creditsWord_fields _ _⟩
    cases s.participation <;> rfl
  · have reset := resetContent_releasePor straps s
    obtain ⟨ident, _⟩ := hostRead_status reset.por
    exact ⟨_, rfl, ident.trans (congrArg some (regIdent_eq _)), reset.hostRead_state, reset.hostRead_roster,
      reset.hostRead_credits⟩
  · obtain ⟨t, next, reset, nodeId, cold, _⟩ := exec_softreset_content por word
    obtain ⟨ident, _⟩ := hostRead_status por
    obtain ⟨ident', _⟩ := hostRead_status reset.por
    refine ⟨t, next, ?_, ?_, reset.hostRead_roster, reset.hostRead_credits⟩
    · rw [ident, ident', regIdent, nodeId, regIdent]
    · rw [← cold]
      exact reset.hostRead_state
  · obtain ⟨t, next, por, cold, result, joining, slots⟩ := exec_join resting offline free tag
    obtain ⟨_, state, _⟩ := hostRead_status por
    refine ⟨t, next, ?_, ?_⟩
    · rw [hostRead_of_por_clear por]
      show some t.port.result.number = some 0
      rw [result]
      rfl
    · rw [state, regState_of_joining rfl joining slots, cold]

end Sys2Proof.Machine

/-!
PROOF. The updates a plan is made of: every plan of a slot, whatever its command, is a chain of the moves named here, so a
law of the tables is kept by every plan once each move keeps it (R116 to R123).
-/

namespace Sys2Proof.Machine

/-! ## Blocks that an update leaves -/

@[simp] theorem promote_tracker (i : EntryIx) (s : State) : (promote i s).tracker = s.tracker := by
  rw [promote, State.setCopy_tracker]
@[simp] theorem promote_holds (i : EntryIx) (s : State) : (promote i s).holds = s.holds := by
  rw [promote, State.setCopy_holds]
@[simp] theorem writeEntry_tracker (i : EntryIx) (e : CopyEntry) (s : State) : (writeEntry i e s).tracker = s.tracker := rfl
@[simp] theorem writeRecord_tracker (v : VarNum) (r : HomeRecord) (s : State) : (writeRecord v r s).tracker = s.tracker :=
  rfl
@[simp] theorem releaseReservations_tracker (k : SlotIx) (s : State) :
    (releaseReservations k s).tracker = s.tracker := by rw [releaseReservations, State.setCopy_tracker]
@[simp] theorem dropCopies_tracker (s : State) : (dropCopies s).tracker = s.tracker := by
  rw [dropCopies, State.setCopy_tracker]
@[simp] theorem discardStranded_tracker (l : List EntryIx) (s : State) : (discardStranded l s).tracker = s.tracker := by
  rw [discardStranded, State.setCopy_tracker]
@[simp] theorem post_tracker (c : Completion) (s : State) : (post c s).tracker = s.tracker := rfl
@[simp] theorem freeCredits_tracker (n : Nat) (s : State) : (freeCredits n s).tracker = s.tracker := rfl
@[simp] theorem countDiscards_tracker (n : Nat) (s : State) : (countDiscards n s).tracker = s.tracker := rfl

/-! ## States that agree on the tables -/

/-- A slot that carries the same command and victim, and is FREE only where it was. -/
structure SlotAlike (x y : Slot) : Prop where
  command : y.command = x.command
  victim : y.victim = x.victim
  free : y.phase = .free → x.phase = .free

/-- Two states with the same node ID, records, entries, holds, queues and free credits, and with slots alike. -/
structure Alike (s t : State) : Prop where
  nodeId : t.nodeId = s.nodeId
  queue : t.port.queue = s.port.queue
  records : t.home.records = s.home.records
  entries : t.copy.entries = s.copy.entries
  holds : t.holds = s.holds
  completions : t.completion.queue = s.completion.queue
  credits : t.completion.free = s.completion.free
  slots : ∀ k : SlotIx, SlotAlike s.tracker.slots[k] t.tracker.slots[k]

theorem SlotAlike.refl (x : Slot) : SlotAlike x x := ⟨rfl, rfl, id⟩

/-- Nothing but blocks outside the tables differs. -/
theorem Alike.ofTracker {s t : State} (nodeId : t.nodeId = s.nodeId) (queue : t.port.queue = s.port.queue)
    (records : t.home.records = s.home.records) (entries : t.copy.entries = s.copy.entries) (holds : t.holds = s.holds)
    (completions : t.completion.queue = s.completion.queue) (credits : t.completion.free = s.completion.free)
    (slots : t.tracker.slots = s.tracker.slots) : Alike s t :=
  ⟨nodeId, queue, records, entries, holds, completions, credits, fun k => by rw [slots]; exact .refl _⟩

theorem Alike.refl (s : State) : Alike s s := .ofTracker rfl rfl rfl rfl rfl rfl rfl rfl

theorem Alike.trans {s t u : State} (h : Alike s t) (g : Alike t u) : Alike s u where
  nodeId := g.nodeId.trans h.nodeId
  queue := g.queue.trans h.queue
  records := g.records.trans h.records
  entries := g.entries.trans h.entries
  holds := g.holds.trans h.holds
  completions := g.completions.trans h.completions
  credits := g.credits.trans h.credits
  slots k := ⟨(g.slots k).command.trans (h.slots k).command, (g.slots k).victim.trans (h.slots k).victim,
    fun f => (h.slots k).free ((g.slots k).free f)⟩

theorem Alike.setLink (s : State) (x : LinkUnit) : Alike s (s.setLink x) := .ofTracker rfl rfl rfl rfl rfl rfl rfl rfl

theorem Alike.setParticipation (s : State) (x : Participation) : Alike s (s.setParticipation x) :=
  .ofTracker rfl rfl rfl rfl rfl rfl rfl rfl

theorem Alike.setNotices (s : State) (x : NoticeUnit) : Alike s (s.setNotices x) :=
  .ofTracker rfl rfl rfl rfl rfl rfl rfl rfl

/-- A slot written with its command and victim kept. -/
theorem Alike.writeSlot {s : State} {k : SlotIx} {x : Slot} (h : SlotAlike s.tracker.slots[k] x) :
    Alike s (writeSlot k x s) where
  nodeId := rfl
  queue := rfl
  records := rfl
  entries := rfl
  holds := rfl
  completions := rfl
  credits := rfl
  slots j := by
    rw [writeSlot_slot]
    split
    · rename_i same; subst same; exact h
    · exact .refl _

theorem Alike.waitFor (k : SlotIx) (w : Waiting) (s : State) : Alike s (waitFor k w s) :=
  .writeSlot ⟨rfl, rfl, SlotPhase.noConfusion⟩

theorem Alike.replan (k : SlotIx) (s : State) : Alike s (replan k s) := .writeSlot ⟨rfl, rfl, SlotPhase.noConfusion⟩

theorem Alike.sendFrame (k : SlotIx) (f : Frame) (s : State) : Alike s (sendFrame k f s) :=
  .writeSlot ⟨rfl, rfl, SlotPhase.noConfusion⟩

theorem Alike.useEntry (k : SlotIx) (i : EntryIx) (s : State) : Alike s (useEntry k i s) := .writeSlot ⟨rfl, rfl, id⟩

theorem Alike.forgetEntry (k : SlotIx) (v : VarNum) (s : State) : Alike s (forgetEntry k v s) :=
  .writeSlot ⟨rfl, rfl, id⟩

theorem Alike.pruneStranded (k : SlotIx) (s : State) : Alike s (pruneStranded k s) := .writeSlot ⟨rfl, rfl, id⟩

theorem Alike.countDiscards (n : Nat) (s : State) : Alike s (countDiscards n s) :=
  .ofTracker rfl rfl rfl rfl rfl rfl rfl rfl

/-- The variable a slot names goes with its command. -/
theorem slotVar_of_command {s t : State} {k : SlotIx}
    (h : t.tracker.slots[k].command = s.tracker.slots[k].command) : t.slotVar k = s.slotVar k := by
  simp only [State.slotVar, State.slotBody, h]

theorem slotVar_of_some {s : State} {k : SlotIx} {c : Command} (h : s.tracker.slots[k].command = some c) :
    s.slotVar k = c.body.var? := by
  simp only [State.slotVar, State.slotBody, h, Option.map_some, Option.bind_some]

/-- Whether a variable is held is read from the hold records alone. -/
theorem held_congr {s t : State} (h : t.holds = s.holds) (v : VarNum) : t.held v = s.held v := by
  have names : holdNames t v = holdNames s v := by funext r; simp only [holdNames, h]
  simp only [State.held, State.holdOf, names]

/-- The free hold record is read from the hold records alone. -/
theorem freeHold_congr {s t : State} (h : t.holds = s.holds) : t.freeHold = s.freeHold := by
  simp only [State.freeHold, h]

/-! ## The moves -/

/-- One update on behalf of slot `j`. -/
inductive Move (j : SlotIx) : State → State → Prop where
  /-- Frames, waits, phases, counters, participation: nothing of the tables. -/
  | alike {s t : State} (h : Alike s t) : Move j s t
  /-- The slot's command ends; a HOLD ends OK only with its hold entered. -/
  | finish (r : CmdResult) (d : Option NodeMask) (s : State)
      (h : r.status = .ok → ∀ c, s.tracker.slots[j].command = some c → c.body.code ≠ .hold) : Move j s (complete j r d s)
  /-- A HOLD ends OK: a free record becomes active (R139). -/
  | finishHold {c : Command} {n : BitVec 8} {w : VarNum} (v : VarNum) (r : HoldIx) (s : State)
      (command : s.tracker.slots[j].command = some c) (body : c.body = .hold w n) (free : s.holds[r] = none)
      (held : s.held v = false) :
      Move j s (complete j ⟨.ok, none⟩ none (s.setHolds (s.holds.set r (some ⟨v, c.tag, n.toNat, 0⟩))))
  | promote (i : EntryIx) (s : State) : Move j s (promote i s)
  /-- A value written to an entry, which is DIRTY only where it was OWNED or DIRTY (R35, R39). -/
  | hit (i : EntryIx) (x : Value) (st : CopyState) (s : State)
      (h : st = s.copy.entries[i].state ∨ (st = .dirty ∧ s.copy.entries[i].exclusive = true)) :
      Move j s (writeEntry i { s.copy.entries[i] with value := x, state := st } s)
  /-- A home record's value or guard written, its state as it was (R20, R21). -/
  | record (v : VarNum) (r : HomeRecord) (s : State) (h : r.state = (s.record v).state) : Move j s (writeRecord v r s)
  | vacate (i : EntryIx) (s : State) : Move j s (vacate i s)
  /-- A NONE entry reserved in fetch form for a slot that has no reservation (R26). -/
  | fetch (i : EntryIx) (v : VarNum) (s : State) (free : s.copy.entries[i].reservedBy = none)
      (var : s.slotVar j = some v) (foreign : homeOf v ≠ s.nodeId)
      (untagged : ∀ m : EntryIx, s.copy.entries[m].tag ≠ some v) (victim : s.tracker.slots[j].victim = none) :
      Move j s (reserveFetch j i v s)
  /-- An entry reserved as victim of a slot that has no reservation (R26). -/
  | reserve (i : EntryIx) (v : VarNum) (s : State) (free : s.copy.entries[i].reservedBy = none)
      (var : s.slotVar j = some v) (foreign : homeOf v ≠ s.nodeId)
      (untagged : ∀ m : EntryIx, s.copy.entries[m].tag ≠ some v) (victim : s.tracker.slots[j].victim = none) :
      Move j s (reserveVictim j i s)
  | release (s : State) : Move j s (releaseReservations j s)
  /-- A victim no longer reserved is forgotten (R43). -/
  | dropVictim (s : State) (h : ∀ i : EntryIx, s.copy.entries[i].reservedBy ≠ some j) :
      Move j s (writeSlot j { s.tracker.slots[j] with victim := none } s)
  | dropCopies (s : State) : Move j s (dropCopies s)
  | discard (stranded : List EntryIx) (s : State) : Move j s (discardStranded stranded s)
  | cancel (s : State) : Move j s (cancelQueue s)
  /-- An active hold removed, its credit freed (R142). -/
  | unhold (r : HoldIx) (h : HoldRecord) (s : State) (active : s.holds[r] = some h) :
      Move j s (freeCredits 1 (removeHold r s))

/-- A chain of moves on behalf of slots numbered up to `k`. -/
def Moves (k : SlotIx) : State → State → Prop := Relation.ReflTransGen fun s t => ∃ j : SlotIx, j ≤ k ∧ Move j s t

theorem Moves.refl (k : SlotIx) (s : State) : Moves k s s := Relation.ReflTransGen.refl

theorem Moves.trans {k : SlotIx} {s t u : State} (h : Moves k s t) (g : Moves k t u) : Moves k s u :=
  Relation.ReflTransGen.trans h g

theorem Moves.step {k : SlotIx} {s t u : State} (h : Moves k s t) (g : Move k t u) : Moves k s u :=
  Relation.ReflTransGen.tail h ⟨k, le_rfl, g⟩

theorem Move.moves {k : SlotIx} {s t : State} (h : Move k s t) : Moves k s t := (Moves.refl k s).step h

theorem Alike.moves {k : SlotIx} {s t : State} (h : Alike s t) : Moves k s t := (Move.alike h).moves

theorem Moves.mono {j k : SlotIx} (le : j ≤ k) {s t : State} (h : Moves j s t) : Moves k s t :=
  Relation.ReflTransGen.mono (fun _ _ ⟨i, hi, m⟩ => ⟨i, hi.trans le, m⟩) _ _ h

/-- What every move of slots up to `k` keeps, a chain of them keeps. -/
theorem Moves.keeps {k : SlotIx} {P : State → Prop} (keep : ∀ j s t, j ≤ k → Move j s t → P s → P t) {s t : State}
    (h : Moves k s t) (p : P s) : P t := by
  induction h with
  | refl => exact p
  | tail _ m ih =>
    obtain ⟨j, le, move⟩ := m
    exact keep j _ _ le move ih

/-! ## Slots that a move does not act for -/

theorem complete_slot (k j : SlotIx) (r : CmdResult) (d : Option NodeMask) (s : State) :
    (complete k r d s).tracker.slots[j] = if k = j then Slot.idle else s.tracker.slots[j] := by
  obtain ⟨_, e⟩ | ⟨c, _, e⟩ := complete_cases k r d s
  · rw [e, writeSlot_slot]
  · rw [e, writeSlot_slot]
    rfl

/-- An unreserved entry that becomes NONE loses its tag (R23). -/
theorem vacate_of_unreserved {i : EntryIx} {s : State} (h : s.copy.entries[i].reservedBy = none) :
    vacate i s = writeEntry i { s.copy.entries[i] with state := .none, tag := none } s := by
  simp only [vacate, h]

/-- A reserved entry that becomes NONE takes the fetch form of its slot (R23, R26). -/
theorem vacate_of_reserved {i : EntryIx} {k : SlotIx} {s : State} (h : s.copy.entries[i].reservedBy = some k) :
    vacate i s = writeSlot k { s.tracker.slots[k] with entry := some i, victim := none }
      (writeEntry i { s.copy.entries[i] with state := .none, tag := s.slotVar k } s) := by
  simp only [vacate, h]

theorem vacate_slot (i : EntryIx) (k : SlotIx) (s : State) :
    (vacate i s).tracker.slots[k] = if s.copy.entries[i].reservedBy = some k then
      { s.tracker.slots[k] with entry := some i, victim := none } else s.tracker.slots[k] := by
  cases reserved : s.copy.entries[i].reservedBy with
  | none => rw [vacate_of_unreserved reserved]; rfl
  | some m =>
    rw [vacate_of_reserved reserved, writeSlot_slot]
    by_cases same : m = k
    · subst same; rw [if_pos rfl, if_pos rfl]
    · rw [if_neg same, if_neg fun h => same (Option.some.inj h)]
      rfl

theorem vacate_command (i : EntryIx) (k : SlotIx) (s : State) :
    (vacate i s).tracker.slots[k].command = s.tracker.slots[k].command := by
  rw [vacate_slot]; split <;> rfl

theorem cancelQueue_tracker (s : State) : (cancelQueue s).tracker = s.tracker := by
  have fold : ∀ (l : List Command) (t : State), (l.foldl
      (fun s c => freeCredits (c.body.credits - 1) (post (slotRecord c 0 ⟨.cancelled, none⟩ none) s)) t).tracker
        = t.tracker := by
    intro l
    induction l with
    | nil => exact fun t => rfl
    | cons c rest ih => exact fun t => ih _
  exact fold _ _

theorem wakeHoldWaiters_slot (k : SlotIx) (s : State) :
    (wakeHoldWaiters s).tracker.slots[k] = if s.tracker.slots[k].waiting = some .holds then
      { s.tracker.slots[k] with waiting := none } else s.tracker.slots[k] := by
  simp only [wakeHoldWaiters, State.setTracker_tracker, Fin.getElem_fin, Vector.getElem_ofFn]

/-- The report of a hold's removal wakes slots, and changes nothing of the tables. -/
theorem Alike.wakeHoldWaiters (s : State) : Alike s (wakeHoldWaiters s) where
  nodeId := rfl
  queue := rfl
  records := rfl
  entries := rfl
  holds := rfl
  completions := rfl
  credits := rfl
  slots k := by
    rw [wakeHoldWaiters_slot]
    split
    · exact ⟨rfl, rfl, id⟩
    · exact .refl _

/-- A move leaves the commands of the slots it does not act for. -/
theorem Move.command {j k : SlotIx} {s t : State} (m : Move j s t) (ne : k ≠ j) :
    t.tracker.slots[k].command = s.tracker.slots[k].command := by
  have other : ∀ {α : Type} (x y : α), (if j = k then x else y) = y := fun x y => if_neg ne.symm
  cases m with
  | alike h => exact (h.slots k).command
  | finish r d s h => rw [complete_slot, other]
  | finishHold v r s command body free held => rw [complete_slot, other]; rfl
  | vacate i s => exact vacate_command i k s
  | fetch i v s => rw [reserveFetch, writeSlot_slot, other]; rfl
  | reserve i s => rw [reserveVictim, writeSlot_slot, other]; rfl
  | dropVictim s h => rw [writeSlot_slot, other]
  | cancel s => rw [cancelQueue_tracker]
  | unhold r h s active => exact ((Alike.wakeHoldWaiters _).slots k).command
  | promote | hit | record | release | dropCopies | discard => rfl

/-! ## A command applied, then ended -/

theorem Moves.finish_of_command {k : SlotIx} {c : Command} {s : State} (command : s.tracker.slots[k].command = some c)
    (r : CmdResult) (d : Option NodeMask) (h : r.status = .ok → c.body.code ≠ .hold) : Moves k s (complete k r d s) :=
  (Move.finish r d s fun ok c' e => by cases command.symm.trans e; exact h ok).moves

/-- A HOLD applied and ended: HELD, HOLD-FULL, or OK with its record entered (R139). -/
theorem moves_enterHold {k : SlotIx} {c : Command} {s : State} (command : s.tracker.slots[k].command = some c)
    {w : VarNum} {n : BitVec 8} (body : c.body = .hold w n) (v : VarNum) :
    Moves k s (complete k (enterHold v c.tag n s).2 none (enterHold v c.tag n s).1) := by
  obtain ⟨_, e⟩ | ⟨_, _, e⟩ | ⟨r, held, free, e⟩ := enterHold_cases v c.tag n s <;> rw [e]
  · exact .finish_of_command command _ _ Status.noConfusion
  · exact .finish_of_command command _ _ Status.noConfusion
  · exact (Move.finishHold v r s command body (freeHold_none free) held).moves

/-- A LOAD writes nothing. -/
theorem applyData_load (v : VarNum) (x : Value) : applyData (.load v) x = some (x, false, ⟨.ok, some x⟩) := rfl

/-- A HOLD at the home is entered (R139). -/
theorem applyHome_of_hold {c : Command} {w : VarNum} {n : BitVec 8} (body : c.body = .hold w n) (v : VarNum) (s : State) :
    applyHome c v s = ((enterHold v c.tag n s).1, some (enterHold v c.tag n s).2) := by
  simp only [applyHome, body]

/-- A GUARD at the home sets the level (R21). -/
theorem applyHome_of_guard {c : Command} {w : VarNum} {level : Guard} (body : c.body = .guard w level) (v : VarNum)
    (s : State) : applyHome c v s = (writeRecord v { s.record v with guard := level } s, some ⟨.ok, none⟩) := by
  simp only [applyHome, body]

/-- Any other command at the home is applied to the record's value, or is not applied (R20). -/
theorem applyHome_of_data {c : Command} (noHold : c.body.code ≠ .hold) (noGuard : c.body.code ≠ .guard) (v : VarNum)
    (s : State) : applyHome c v s = match applyData c.body (s.record v).value with
      | some (x, written, r) => (if written then writeRecord v { s.record v with value := x } s else s, some r)
      | none => (s, none) := by
  unfold applyHome
  cases body : c.body with
  | hold w n => rw [body] at noHold; exact absurd rfl noHold
  | guard w level => rw [body] at noGuard; exact absurd rfl noGuard
  | _ => rfl

/-- A HOLD on a copy entry is entered, and the entry promoted (R35, R39). -/
theorem applyCopy_of_hold {c : Command} {w : VarNum} {n : BitVec 8} (body : c.body = .hold w n) (v : VarNum) (i : EntryIx)
    (s : State) : applyCopy c v i s = (promote i (enterHold v c.tag n s).1, some (enterHold v c.tag n s).2) := by
  simp only [applyCopy, body]

/-- Any other command on a copy entry is applied to its value, and the entry promoted, or is not applied (R35, R39). -/
theorem applyCopy_of_data {c : Command} (noHold : c.body.code ≠ .hold) (v : VarNum) (i : EntryIx)
    (s : State) : applyCopy c v i s = match applyData c.body s.copy.entries[i].value with
      | some (x, written, r) =>
        (promote i (writeEntry i { s.copy.entries[i] with
          value := x
          state := if written then .dirty else s.copy.entries[i].state } s), some r)
      | none => (s, none) := by
  unfold applyCopy
  cases body : c.body with
  | hold w n => rw [body] at noHold; exact absurd rfl noHold
  | _ => rfl

/-- A promotion and a hold's entry change different blocks. -/
theorem promote_enterHold (i : EntryIx) (v : VarNum) (tag : Tag) (n : BitVec 8) (s : State) :
    (enterHold v tag n (promote i s)).1 = promote i (enterHold v tag n s).1 ∧
      (enterHold v tag n (promote i s)).2 = (enterHold v tag n s).2 := by
  unfold enterHold
  rw [held_congr (s := s) (t := promote i s) (promote_holds i s),
    freeHold_congr (s := s) (t := promote i s) (promote_holds i s)]
  split
  · exact ⟨rfl, rfl⟩
  · split <;> exact ⟨rfl, rfl⟩

/-- A body of code HOLD is a HOLD. -/
theorem Body.eq_hold_of_code {b : Body} (h : b.code = .hold) : ∃ w n, b = .hold w n := by
  cases b <;> first | exact ⟨_, _, rfl⟩ | cases h

/-- A command applied to a home record and ended. -/
theorem moves_applyHome {k : SlotIx} {c : Command} {s : State} (command : s.tracker.slots[k].command = some c)
    (v : VarNum) : Moves k s (completeApplied k (applyHome c v s)) := by
  have written : ∀ (r : HomeRecord) (x : CmdResult), r.state = (s.record v).state → c.body.code ≠ .hold →
      Moves k s (complete k x none (writeRecord v r s)) := fun r x h noHold =>
    (Move.record v r s h).moves.trans (.finish_of_command (s := writeRecord v r s) command x none fun _ => noHold)
  by_cases hold : c.body.code = .hold
  · obtain ⟨w, n, body⟩ := Body.eq_hold_of_code hold
    rw [applyHome_of_hold body]
    exact moves_enterHold command body v
  · cases body : c.body with
    | guard w level =>
      rw [applyHome_of_guard body]
      exact written _ _ rfl hold
    | _ =>
      rw [applyHome_of_data hold (by rw [body]; exact Code.noConfusion)]
      split
      · simp only [completeApplied]
        split
        · exact written _ _ rfl hold
        · exact .finish_of_command command _ _ fun _ => hold
      · exact Moves.refl k s

/-- A command applied to a copy entry and ended; what writes the value needs the entry OWNED or DIRTY. -/
theorem moves_applyCopy {k : SlotIx} {c : Command} {s : State} (command : s.tracker.slots[k].command = some c)
    (v : VarNum) (i : EntryIx) (h : (∃ w, c.body = .load w) ∨ s.copy.entries[i].exclusive = true) :
    Moves k s (completeApplied k (applyCopy c v i s)) := by
  by_cases hold : c.body.code = .hold
  · obtain ⟨w, n, body⟩ := Body.eq_hold_of_code hold
    obtain ⟨state, result⟩ := promote_enterHold i v c.tag n s
    rw [applyCopy_of_hold body, ← state, ← result]
    exact (Move.promote i s).moves.trans (moves_enterHold (s := promote i s) command body v)
  · rw [applyCopy_of_data hold]
    split
    · rename_i x written r applied
      have command' : (promote i (writeEntry i { s.copy.entries[i] with
          value := x
          state := if written then .dirty else s.copy.entries[i].state } s)).tracker.slots[k].command = some c := by
        rw [promote_tracker, writeEntry_tracker, command]
      refine Moves.trans (((Move.hit i x _ s ?_).moves).step (.promote i _))
        (.finish_of_command command' r none fun _ => hold)
      cases written
      · exact .inl rfl
      · obtain ⟨w, body⟩ | exclusive := h
        · rw [body, applyData_load] at applied; cases applied
        · exact .inr ⟨rfl, exclusive⟩
    · exact Moves.refl k s

/-! ## Plans -/

theorem moves_planHome {k : SlotIx} {c : Command} {s : State} (command : s.tracker.slots[k].command = some c)
    (v : VarNum) : Moves k s (planHome k c v s) := by
  unfold planHome
  split
  · exact moves_applyHome command v
  · exact (Alike.sendFrame _ _ _).moves

theorem moves_planEvict (k : SlotIx) (b : Body) (v : VarNum) (i : EntryIx) (s : State) :
    Moves k s (planEvict k b v i s) := by
  unfold planEvict
  simp only
  split
  · exact (Alike.sendFrame _ _ _).moves
  · exact (Move.vacate i s).moves.trans (Alike.sendFrame _ _ _).moves

theorem freeEntry_free {s : State} {i : EntryIx} (h : s.freeEntry = some i) :
    s.copy.entries[i].state = .none ∧ s.copy.entries[i].reservedBy = none := by
  simpa using List.find?_some h

/-- The best so far, or one of the entries gone through. -/
theorem olderOf_foldl_mem {s : State} (l : List EntryIx) (best : Option EntryIx) {i : EntryIx}
    (h : l.foldl (olderOf s) best = some i) : best = some i ∨ i ∈ l := by
  induction l generalizing best with
  | nil => exact .inl h
  | cons j rest ih =>
    obtain found | found := ih _ h
    · unfold olderOf at found
      split at found
      · cases found; exact .inr List.mem_cons_self
      · split at found
        · cases found; exact .inr List.mem_cons_self
        · exact .inl found
    · exact .inr (List.mem_cons_of_mem _ found)

theorem oldestVictim_eligible {s : State} {k : SlotIx} {i : EntryIx} (h : s.oldestVictim k = some i) :
    s.victimEligible k i = true := by
  obtain none' | found := olderOf_foldl_mem _ _ h
  · cases none'
  · exact (List.mem_filter.mp found).2

theorem victimEligible_unreserved {s : State} {k : SlotIx} {i : EntryIx} (h : s.victimEligible k i = true) :
    s.copy.entries[i].reservedBy = none := by
  unfold State.victimEligible at h
  split at h
  · cases h
  · simp only [Bool.and_eq_true, Option.isNone_iff_eq_none] at h
    obtain ⟨⟨⟨⟨⟨⟨_, unreserved⟩, _⟩, _⟩, _⟩, _⟩, _⟩ := h
    exact unreserved

section
variable {k : SlotIx} {c : Command} {v : VarNum} {s : State}

theorem moves_allocate (command : s.tracker.slots[k].command = some c) (var : c.body.var? = some v)
    (foreign : homeOf v ≠ s.nodeId) (untagged : s.entryOf v = none) (victim : s.tracker.slots[k].victim = none) :
    Moves k s (allocate k c.body v s) := by
  have var' : s.slotVar k = some v := (slotVar_of_some command).trans var
  unfold allocate
  split
  · rename_i i free
    exact (Move.fetch i v s (freeEntry_free free).2 var' foreign (entryOf_none untagged) victim).moves.trans
      (Alike.sendFrame _ _ _).moves
  · split
    · rename_i i oldest
      exact (Move.reserve i v s (victimEligible_unreserved (oldestVictim_eligible oldest)) var' foreign
        (entryOf_none untagged) victim).moves.trans (moves_planEvict _ _ _ _ _)
    · exact .finish_of_command command _ _ Status.noConfusion

theorem moves_planCopy (command : s.tracker.slots[k].command = some c) (var : c.body.var? = some v)
    (foreign : homeOf v ≠ s.nodeId) : Moves k s (planCopy k c v s) := by
  have used : ∀ i, (useEntry k i s).tracker.slots[k].command = some c := fun i =>
    ((Alike.useEntry k i s).slots k).command.trans command
  unfold planCopy
  split
  · rename_i i found
    have use : Moves k s (useEntry k i s) := (Alike.useEntry k i s).moves
    split
    · exact (Alike.waitFor _ _ _).moves
    · split
      · exact use.trans (Alike.sendFrame _ _ _).moves
      · rename_i load
        exact use.trans (moves_applyCopy (used i) v i (.inl ⟨_, load⟩))
      · exact use.trans (Alike.sendFrame _ _ _).moves
      · rename_i notNone notCopy _
        have exclusive : (useEntry k i s).copy.entries[i].exclusive = true := by
          show (s.copy.entries[i]).exclusive = true
          unfold CopyEntry.exclusive
          cases state : s.copy.entries[i].state with
          | none => exact (notNone state).elim
          | copy => exact (notCopy state).elim
          | owned => rfl
          | dirty => rfl
        exact use.trans (moves_applyCopy (used i) v i (.inr exclusive))
  · rename_i untagged
    split
    · split
      · exact (Alike.waitFor _ _ _).moves
      · exact moves_planEvict _ _ _ _ _
    · rename_i victim
      exact moves_allocate command var foreign untagged victim

theorem moves_planRelease (command : s.tracker.slots[k].command = some c) (release : c.body.code = .release) :
    Moves k s (planRelease k v s) := by
  have ends : ∀ r, Moves k s (complete k r none s) := fun r =>
    .finish_of_command command r none fun _ => by rw [release]; exact Code.noConfusion
  unfold planRelease
  split
  · exact ends _
  · split
    · exact ends _
    · split
      · exact ends _
      · rename_i i _
        split
        · exact (Alike.waitFor _ _ _).moves
        · split
          · exact ends _
          · exact (Move.vacate i s).moves.trans (.finish_of_command (s := vacate i s)
              ((vacate_command i k s).trans command) _ _ fun _ => by rw [release]; exact Code.noConfusion)
          · exact (Alike.useEntry k i s).moves.trans (Alike.sendFrame _ _ _).moves

theorem moves_planVar (command : s.tracker.slots[k].command = some c) (var : c.body.var? = some v)
    : Moves k s (planVar k c v s) := by
  have forgotten : Moves k s (forgetEntry k v s) := (Alike.forgetEntry k v s).moves
  have nodeId : (forgetEntry k v s).nodeId = s.nodeId := (Alike.forgetEntry k v s).nodeId
  have command' : (forgetEntry k v s).tracker.slots[k].command = some c :=
    ((Alike.forgetEntry k v s).slots k).command.trans command
  unfold planVar
  split
  · exact forgotten.trans (Alike.waitFor _ _ _).moves
  · split
    · rename_i body
      exact forgotten.trans (moves_planRelease command' (by rw [body]; rfl))
    · exact moves_planHome command v
    · split
      · exact moves_planHome command v
      · rename_i foreign
        exact forgotten.trans (moves_planCopy command' var fun own => foreign (by
        rw [nodeId] at own; simpa [State.ownsVar] using own))

end

/-- The body a slot carries is no HOLD. -/
def NoHold (k : SlotIx) (s : State) : Prop := ∀ c, s.tracker.slots[k].command = some c → c.body.code ≠ .hold

theorem NoHold.ofBody {k : SlotIx} {s : State} {b : Body} (h : s.slotBody k = some b) (code : b.code ≠ .hold) :
    NoHold k s := by
  intro c command
  rw [State.slotBody, command] at h
  cases h
  exact code

theorem NoHold.ofCommand {k : SlotIx} {s t : State} (h : NoHold k s)
    (same : t.tracker.slots[k].command = s.tracker.slots[k].command) : NoHold k t := fun c e => h c (same.symm.trans e)

theorem moves_leaveFinal {k : SlotIx} {s : State} (h : NoHold k s) : Moves k s (leaveFinal k s) := by
  unfold leaveFinal
  exact (((Move.discard _ s).moves.trans
    ((Alike.countDiscards _ _).trans (Alike.setParticipation _ _)).moves).step
      (.finish _ _ _ fun _ => h.ofCommand (by
        rw [State.setParticipation_tracker, countDiscards_tracker, discardStranded_tracker]))).step (.cancel _)

theorem moves_barrierEnd {k : SlotIx} {s : State} (h : NoHold k s) (b : Body) : Moves k s (barrierEnd k b s) := by
  unfold barrierEnd
  split
  · split
    · exact (Alike.waitFor _ _ _).moves
    · exact moves_leaveFinal h
  · exact (Move.finish _ _ s fun _ => h).moves

theorem moves_planDrain {k : SlotIx} {s : State} (h : NoHold k s) (b : Body) : Moves k s (planDrain k b s) := by
  have pruned : NoHold k (pruneStranded k (dropCopies s)) :=
    h.ofCommand (((Alike.pruneStranded k (dropCopies s)).slots k).command.trans (by rw [dropCopies_tracker]))
  refine ((Move.dropCopies s).moves.trans (Alike.pruneStranded k _).moves).trans ?_
  unfold planDrain drainStep
  split
  · exact (Alike.waitFor _ _ _).moves
  · split
    · exact (Alike.waitFor _ _ _).moves
    · split
      · exact (Alike.useEntry _ _ _).moves.trans (Alike.sendFrame _ _ _).moves
      · exact moves_barrierEnd pruned b
  · split
    · exact (Alike.waitFor _ _ _).moves
    · exact moves_barrierEnd pruned b

theorem moves_planWoken (j : SlotIx) (s : State) : Moves j s (planWoken j s) := by
  unfold planWoken
  split
  · rename_i body
    exact moves_planDrain (.ofBody body Code.noConfusion) _
  · rename_i body
    exact moves_planDrain (.ofBody body Code.noConfusion) _
  · exact Moves.refl j s

/-- The woken plans below slot `k` act for lower slots, so they leave its command. -/
theorem moves_planWokenBelow (k : SlotIx) (s : State) : Moves k s (planWokenBelow k s) ∧
    (planWokenBelow k s).tracker.slots[k].command = s.tracker.slots[k].command := by
  have fold : ∀ (l : List SlotIx) (t : State),
      Moves k t (l.foldl (fun s j => if j < k then planWoken j s else s) t) ∧
        (l.foldl (fun s j => if j < k then planWoken j s else s) t).tracker.slots[k].command
          = t.tracker.slots[k].command := by
    intro l
    induction l with
    | nil => exact fun t => ⟨Moves.refl k t, rfl⟩
    | cons j rest ih =>
      intro t
      rw [List.foldl_cons]
      split
      · rename_i lt
        have woken := moves_planWoken j t
        obtain ⟨moves, command⟩ := ih (planWoken j t)
        refine ⟨(woken.mono lt.le).trans moves, command.trans ?_⟩
        exact woken.keeps (P := fun u => u.tracker.slots[k].command = t.tracker.slots[k].command)
          (fun i u w le m e => (m.command (ne_of_gt (le.trans_lt lt))).trans e) rfl
      · exact ih t
  exact fold _ s

theorem moves_planUnhold {k : SlotIx} {s : State} (h : NoHold k s) (v : VarNum) : Moves k s (planUnhold k v s) := by
  unfold planUnhold
  split
  · rename_i r found
    obtain ⟨g, active, _⟩ := holdOf_names found
    have unhold := Move.unhold (j := k) r g s active
    obtain ⟨woken, command⟩ := moves_planWokenBelow k (freeCredits 1 (removeHold r s))
    exact (unhold.moves.trans woken).step (.finish _ _ _ fun _ => h.ofCommand
      (command.trans ((Alike.wakeHoldWaiters (s.setHolds (s.holds.set r none))).slots k).command))
  · exact (Move.finish _ _ s fun _ => h).moves

/-- A plan of slot `k` is a chain of moves (R116). -/
theorem moves_planSlot (k : SlotIx) (s : State) : Moves k s (planSlot k s) := by
  unfold planSlot
  cases command : s.tracker.slots[k].command with
  | none =>
    have idle : complete k ⟨.ok, none⟩ none s = writeSlot k Slot.idle s := by simp only [complete, command]
    simp only
    rw [← idle]
    exact (Move.finish _ _ s fun _ c e => by rw [command] at e; cases e).moves
  | some c =>
    have noHold : ∀ {b : Body}, c.body = b → b.code ≠ .hold → NoHold k s := fun body code d e => by
      cases command.symm.trans e; rw [body]; exact code
    cases body : c.body with
    | unhold v => simp only [body]; exact moves_planUnhold (noHold body Code.noConfusion) v
    | notice m p => simp only [body]; exact (Alike.sendFrame _ _ _).moves
    | join => simp only [body]; exact (Alike.sendFrame _ _ _).moves
    | flush => simp only [body]; exact moves_planDrain (noHold body Code.noConfusion) _
    | leave => simp only [body]; exact moves_planDrain (noHold body Code.noConfusion) _
    | load v | store v _ _ | swap v _ _ | release v | hold v _ | guard v _ =>
      simp only [body]; exact moves_planVar command (by rw [body]; rfl)

end Sys2Proof.Machine

/-!
PROOF. What one command, and one microsecond, can do to the tables: a chain of turns, each a move of a plan, a start, an
admission, a pop, a reset, a hold's end, the timers' tick, or the end of a COMMITTED tenure (R67, R101, R116, R132).
-/

namespace Sys2Proof.Machine

/-! ## Outcomes delivered -/

theorem Alike.raiseCounter (w : Counter) (n : Nat) (s : State) : Alike s (raiseCounter w n s) :=
  .ofTracker rfl rfl rfl rfl rfl rfl rfl rfl

/-- A chain of moves on behalf of slots below `k`. -/
def MovesBelow (k : SlotIx) : State → State → Prop := Relation.ReflTransGen fun s t => ∃ j : SlotIx, j < k ∧ Move j s t

/-- What every move of slots below `k` keeps, a chain of them keeps. -/
theorem MovesBelow.keeps {k : SlotIx} {P : State → Prop} (keep : ∀ j s t, j < k → Move j s t → P s → P t) {s t : State}
    (h : MovesBelow k s t) (p : P s) : P t := by
  induction h with
  | refl => exact p
  | tail _ m ih =>
    obtain ⟨j, lt, move⟩ := m
    exact keep j _ _ lt move ih

theorem Moves.below {j k : SlotIx} (lt : j < k) {s t : State} (h : Moves j s t) : MovesBelow k s t :=
  Relation.ReflTransGen.mono (fun _ _ ⟨i, hi, m⟩ => ⟨i, lt_of_le_of_lt hi lt, m⟩) _ _ h

theorem MovesBelow.moves {k : SlotIx} {s t : State} (h : MovesBelow k s t) : Moves k s t :=
  Relation.ReflTransGen.mono (fun _ _ ⟨i, hi, m⟩ => ⟨i, hi.le, m⟩) _ _ h

/-- The plans below a slot are moves of lower slots (R116). -/
theorem movesBelow_plansBelow (k : SlotIx) : ∀ n s, MovesBelow k s (plansBelow k n s)
  | 0, _ => Relation.ReflTransGen.refl
  | n + 1, s => by
    unfold plansBelow
    split
    · rename_i j found
      have lt : j < k := by
        have h := List.find?_some found
        simp only [Bool.and_eq_true, decide_eq_true_eq] at h
        exact h.1
      exact Relation.ReflTransGen.trans ((moves_planSlot j s).below lt) (movesBelow_plansBelow k n _)
    · exact Relation.ReflTransGen.refl

theorem moves_endCommand {k : SlotIx} {status : Status} (h : status ≠ .ok) (s : State) :
    Moves k s (endCommand k status s) := by
  have ends : Moves k s (complete k ⟨status, none⟩ none s) := (Move.finish _ _ s fun ok => absurd ok h).moves
  unfold endCommand
  split
  · exact ends.trans (Alike.setParticipation _ _).moves
  · exact ends.trans (Alike.setParticipation _ _).moves
  · exact ends

theorem moves_failAttempt (k : SlotIx) (s : State) : Moves k s (failAttempt k s) := by
  have counted : ∀ n, Alike s (raiseCounter .retry 1 (writeSlot k { s.tracker.slots[k] with unsuccessful := n } s)) :=
    fun n => by
      refine .trans ?_ (.raiseCounter _ _ _)
      exact .writeSlot ⟨rfl, rfl, id⟩
  unfold failAttempt
  simp only
  split
  · exact (counted _).moves.trans (moves_endCommand Status.noConfusion _)
  · refine (counted (s.tracker.slots[k].unsuccessful + 1)).moves.trans (Alike.moves ?_)
    exact .writeSlot ⟨rfl, rfl, SlotPhase.noConfusion⟩

/-- At a NO-HOME end the victim, if any, is no longer reserved (R43). -/
theorem moves_deliverNoHome {k : SlotIx} {s : State}
    (h : s.tracker.slots[k].victim.isSome = true → ∀ i : EntryIx, s.copy.entries[i].reservedBy ≠ some k) :
    Moves k s (deliverNoHome k s) := by
  unfold deliverNoHome
  simp only
  split
  · rename_i victim
    exact (Move.dropVictim s (h (by rw [victim]; rfl))).moves.trans (Alike.replan _ _).moves
  · split
    · refine Alike.moves (.trans ?_ (.replan _ _))
      exact .writeSlot ⟨rfl, rfl, id⟩
    · exact moves_endCommand Status.noConfusion _
  · exact moves_endCommand Status.noConfusion _

/-- A delivery of anything but a commit. -/
def Delivery.isCommit : Delivery → Bool
  | .committed _ _ => true
  | _ => false

theorem moves_deliver {k : SlotIx} {d : Delivery} {s : State} (uncommitted : d.isCommit = false)
    (h : d = .noHome → s.tracker.slots[k].victim.isSome = true →
      ∀ i : EntryIx, s.copy.entries[i].reservedBy ≠ some k) : Moves k s (deliver k d s) := by
  unfold deliver
  split
  · cases uncommitted
  · exact moves_failAttempt k s
  · exact moves_deliverNoHome (h rfl)
  · exact moves_endCommand Status.noConfusion _
  · exact moves_failAttempt k s
  · exact moves_endCommand Status.noConfusion _
  · exact moves_endCommand Status.noConfusion _
  · exact moves_endCommand Status.noConfusion _

/-! ## Reservations of a slot that a move does not act for -/

/-- An entry once released by slot `k` (R37). -/
def releasedEntry (k : SlotIx) (e : CopyEntry) : CopyEntry :=
  if e.reservedBy = some k then
    (if e.state = .none then { e with reservedBy := none, tag := none } else { e with reservedBy := none })
  else e

theorem releaseReservations_entry (k : SlotIx) (i : EntryIx) (s : State) :
    (releaseReservations k s).copy.entries[i] = releasedEntry k s.copy.entries[i] := by
  simp only [releaseReservations, releasedEntry, State.setCopy_copy, Fin.getElem_fin, Vector.getElem_ofFn]

theorem releasedEntry_reservedBy (k : SlotIx) (e : CopyEntry) :
    (releasedEntry k e).reservedBy = if e.reservedBy = some k then none else e.reservedBy := by
  unfold releasedEntry
  split
  · split <;> rfl
  · rfl

theorem vacate_entry (i j : EntryIx) (s : State) :
    (vacate i s).copy.entries[j] = if i = j then { s.copy.entries[i] with
      state := .none
      tag := s.copy.entries[i].reservedBy.bind s.slotVar } else s.copy.entries[j] := by
  cases reserved : s.copy.entries[i].reservedBy with
  | none => rw [vacate_of_unreserved reserved, writeEntry_entry]; rfl
  | some k => rw [vacate_of_reserved reserved]; exact writeEntry_entry i j _ s

@[simp] theorem writeSlot_copy (k : SlotIx) (x : Slot) (s : State) : (writeSlot k x s).copy = s.copy := rfl

/-- The end of a command changes no entry but its slot's reservations. -/
theorem complete_entry (k : SlotIx) (r : CmdResult) (d : Option NodeMask) (s : State) (i : EntryIx) :
    (complete k r d s).copy.entries[i] = s.copy.entries[i] ∨
      (complete k r d s).copy.entries[i] = releasedEntry k s.copy.entries[i] := by
  obtain ⟨_, e⟩ | ⟨c, _, e⟩ := complete_cases k r d s
  · rw [e, writeSlot_copy]; exact .inl rfl
  · rw [e, writeSlot_copy, releaseReservations_entry]
    exact .inr rfl

theorem dropCopies_entry (i : EntryIx) (s : State) :
    (dropCopies s).copy.entries[i] =
      if s.copy.entries[i].state = .copy ∧ s.copy.entries[i].reservedBy = none ∧ s.entryBound i = false then
        { s.copy.entries[i] with state := .none, tag := none } else s.copy.entries[i] := by
  simp only [dropCopies, State.setCopy_copy, Fin.getElem_fin, Vector.getElem_ofFn, Fin.eta]

theorem discardStranded_entry (l : List EntryIx) (i : EntryIx) (s : State) :
    (discardStranded l s).copy.entries[i] =
      if (l.contains i = true ∧ s.copy.entries[i].exclusive = true) ∨ s.copy.entries[i].state = .copy then
        { s.copy.entries[i] with state := .none, tag := none, reservedBy := none } else s.copy.entries[i] := by
  simp only [discardStranded, State.setCopy_copy, Fin.getElem_fin, Vector.getElem_ofFn, Fin.eta]

theorem cancelQueue_copy (s : State) : (cancelQueue s).copy = s.copy := by
  have fold : ∀ (l : List Command) (t : State), (l.foldl
      (fun s c => freeCredits (c.body.credits - 1) (post (slotRecord c 0 ⟨.cancelled, none⟩ none) s)) t).copy
        = t.copy := by
    intro l
    induction l with
    | nil => exact fun t => rfl
    | cons c rest ih => exact fun t => ih _
  exact fold _ _

/-- A move gives no entry to a slot that it does not act for. -/
theorem Move.unreserved {j k : SlotIx} {s t : State} (m : Move j s t) (ne : k ≠ j) (i : EntryIx)
    (h : s.copy.entries[i].reservedBy ≠ some k) : t.copy.entries[i].reservedBy ≠ some k := by
  have released : (releasedEntry j s.copy.entries[i]).reservedBy ≠ some k := by
    rw [releasedEntry_reservedBy]
    split
    · nofun
    · exact h
  have completed : ∀ (u : State) r d, u.copy.entries = s.copy.entries →
      (complete j r d u).copy.entries[i].reservedBy ≠ some k := fun u r d same => by
    obtain e | e := complete_entry j r d u i
    · rw [e, same]; exact h
    · rw [e, same]; exact released
  cases m with
  | alike a => rw [a.entries]; exact h
  | finish r d s _ => exact completed s r d rfl
  | finishHold v r s _ _ _ _ => exact completed _ _ _ rfl
  | promote m s => rw [promote_entry]; exact h
  | hit m x st s _ => rw [writeEntry_entry]; split <;> rename_i e
                      · subst e; exact h
                      · exact h
  | record => exact h
  | vacate m s => rw [vacate_entry]; split <;> rename_i e
                  · subst e; exact h
                  · exact h
  | fetch m v s => 
    have e : (reserveFetch j m v s).copy.entries[i] = _ := writeEntry_entry m i _ s
    rw [e]; split
    · exact fun e => ne (Option.some.inj e).symm
    · exact h
  | reserve m v s =>
    have e : (reserveVictim j m s).copy.entries[i] = _ := writeEntry_entry m i _ s
    rw [e]; split
    · exact fun e => ne (Option.some.inj e).symm
    · exact h
  | release s => rw [releaseReservations_entry]; exact released
  | dropVictim s _ => exact h
  | dropCopies s => rw [dropCopies_entry]; split <;> exact h
  | discard l s => rw [discardStranded_entry]; split
                   · nofun
                   · exact h
  | cancel s => rw [cancelQueue_copy]; exact h
  | unhold r g s _ => exact h

/-- A move names no victim for a slot that it does not act for. -/
theorem Move.victim {j k : SlotIx} {s t : State} (m : Move j s t) (ne : k ≠ j)
    (h : t.tracker.slots[k].victim.isSome = true) : s.tracker.slots[k].victim.isSome = true := by
  have other : ∀ {α : Type} (x y : α), (if j = k then x else y) = y := fun x y => if_neg ne.symm
  cases m with
  | alike a => rw [(a.slots k).victim] at h; exact h
  | finish r d s _ => rw [complete_slot, other] at h; exact h
  | finishHold v r s _ _ _ _ => rw [complete_slot, other] at h; exact h
  | vacate i s =>
    rw [vacate_slot] at h
    split at h
    · cases h
    · exact h
  | fetch i v s => rw [reserveFetch, writeSlot_slot, other] at h; exact h
  | reserve i s => rw [reserveVictim, writeSlot_slot, other] at h; exact h
  | dropVictim s _ => rw [writeSlot_slot, other] at h; exact h
  | cancel s => rw [cancelQueue_tracker] at h; exact h
  | unhold r g s active =>
    have woken := ((Alike.wakeHoldWaiters (s.setHolds (s.holds.set r none))).slots k).victim
    have h' : (wakeHoldWaiters (s.setHolds (s.holds.set r none))).tracker.slots[k].victim.isSome = true := h
    rw [woken] at h'
    exact h'
  | promote i s => rw [promote_tracker] at h; exact h
  | release s => rw [releaseReservations_tracker] at h; exact h
  | dropCopies s => rw [dropCopies_tracker] at h; exact h
  | discard l s => rw [discardStranded_tracker] at h; exact h
  | hit | record => exact h

/-! ## Turns -/

/-- One update of an event; the end of a COMMITTED tenure only where `C` holds. -/
inductive Turn (C : Prop) : State → State → Prop where
  | move {j : SlotIx} {s t : State} (h : Move j s t) : Turn C s t
  | start {s t : State} (h : startNext s = some t) : Turn C s t
  | submit (b : Body) (s : State) (h : hasRoom s b = true) : Turn C s (enqueue b s)
  | pop (s : State) : Turn C s (popCompletion s)
  | softReset (s : State) : Turn C s (softResetBlocks s)
  | porRelease (straps : NodeId) (s : State) : Turn C s (releasePor straps s)
  | lapse (r : HoldIx) (status : Status) (s : State) : Turn C s (endHold r status s)
  | tick (s : State) : Turn C s (runTimers s)
  | commit (tn : Tenure) (s : State) (h : C) (committed : tn.outcome = some .committed) : Turn C s (endTenure tn s)

/-- A chain of turns. -/
def Turns (C : Prop) : State → State → Prop := Relation.ReflTransGen (Turn C)

/-- What every turn keeps, a chain of turns keeps. -/
theorem Turns.keeps {C : Prop} {P : State → Prop} (keep : ∀ s t, Turn C s t → P s → P t) {s t : State}
    (h : Turns C s t) (p : P s) : P t := by
  induction h with
  | refl => exact p
  | tail _ m ih => exact keep _ _ m ih

section
variable {C : Prop}

theorem Turns.refl (s : State) : Turns C s s := Relation.ReflTransGen.refl

theorem Turns.trans {s t u : State} (h : Turns C s t) (g : Turns C t u) : Turns C s u :=
  Relation.ReflTransGen.trans h g

theorem Turn.turns {s t : State} (h : Turn C s t) : Turns C s t := Relation.ReflTransGen.single h

theorem Moves.turns {k : SlotIx} {s t : State} (h : Moves k s t) : Turns C s t :=
  Relation.ReflTransGen.mono (fun _ _ ⟨_, _, m⟩ => .move m) _ _ h

theorem Alike.turns {s t : State} (h : Alike s t) : Turns C s t := (Turn.move (.alike (j := 0) h)).turns

theorem turns_settle (s : State) : Turns C s (settle s) :=
  settle_keeps (Turns C s) (fun k _ h => h.trans (moves_planSlot k _).turns) (fun _ _ h e => h.trans (Turn.start e).turns) s
    (.refl s)

/-- At a NO-HOME end a slot with a victim releases its reservation before any slot plans (R37, log entry 14). -/
theorem releaseEnded_noHome {k : SlotIx} {s : State}
    (h : (releaseEnded k .noHome s).tracker.slots[k].victim.isSome = true) (i : EntryIx) :
    (releaseEnded k .noHome s).copy.entries[i].reservedBy ≠ some k := by
  unfold releaseEnded at h ⊢
  split at h
  · rename_i ends
    rw [if_pos ends, releaseReservations_entry, releasedEntry_reservedBy]
    split
    · nofun
    · assumption
  · rename_i keeps
    refine absurd ?_ keeps
    simp only [endsReservation, h, Bool.true_or]

theorem moves_releaseEnded (k : SlotIx) (d : Delivery) (s : State) : Moves k s (releaseEnded k d s) := by
  unfold releaseEnded
  split
  · exact (Move.release s).moves
  · exact .refl k s

/-- The slots' turns at the end of a tenure that does not commit (R132). -/
theorem turns_slotTurns {d : Delivery} (uncommitted : d.isCommit = false) (sender : Option SlotIx) (s : State) :
    Turns C s (slotTurns sender d s) := by
  unfold slotTurns
  split
  · exact turns_settle s
  · rename_i k
    have below := movesBelow_plansBelow k Config.settleBound (releaseEnded k d s)
    have unreserved : d = .noHome →
        (plansBelow k Config.settleBound (releaseEnded k d s)).tracker.slots[k].victim.isSome = true →
        ∀ i : EntryIx, (plansBelow k Config.settleBound (releaseEnded k d s)).copy.entries[i].reservedBy ≠ some k := by
      intro e
      subst e
      exact below.keeps
        (P := fun u => u.tracker.slots[k].victim.isSome = true → ∀ i : EntryIx, u.copy.entries[i].reservedBy ≠ some k)
        (fun j u w lt m keep victim i =>
          m.unreserved (ne_of_gt lt) i (keep (m.victim (ne_of_gt lt) victim) i))
        (fun victim => releaseEnded_noHome victim)
    exact ((moves_releaseEnded k d s).trans (below.moves.trans (moves_deliver uncommitted unreserved))).turns.trans
      (turns_settle _)

/-! ## Aborts -/

theorem Alike.dropBuffers (s : State) : Alike s (dropBuffers s) := .ofTracker rfl rfl rfl rfl rfl rfl rfl rfl

theorem Alike.countLinkClear (s : State) : Alike s (countLinkClear s) := .ofTracker rfl rfl rfl rfl rfl rfl rfl rfl

theorem Alike.countProtocolError (s : State) : Alike s (countProtocolError s) :=
  .ofTracker rfl rfl rfl rfl rfl rfl rfl rfl

theorem turns_abortLink {d : Delivery} (uncommitted : d.isCommit = false) (s : State) : Turns C s (abortLink d s) := by
  obtain ⟨_, e⟩ | ⟨_, e⟩ := abortLink_cases d s <;> rw [e]
  · exact (((Alike.setLink s _).trans (Alike.countLinkClear _)).trans (Alike.dropBuffers _)).turns.trans
      (turns_slotTurns uncommitted _ _)
  · exact ((Alike.setLink s _).trans (Alike.setLink _ _)).turns

theorem turns_pulseAndAbort {d : Delivery} (uncommitted : d.isCommit = false) (s : State) :
    Turns C s (pulseAndAbort d s) := (Alike.setLink s _).turns.trans (turns_abortLink uncommitted _)

/-! ## Host writes -/

theorem Alike.tryTake (s : State) : Alike s (tryTake s) := by
  obtain ⟨_, e⟩ | ⟨_, b, _, _, e | ⟨_, _, e⟩⟩ := tryTake_cases s <;> rw [e]
  · exact .refl s
  · exact .ofTracker rfl rfl rfl rfl rfl rfl rfl rfl
  · exact .ofTracker rfl rfl rfl rfl rfl rfl rfl rfl

theorem Alike.setStaging (f : Staging → Staging) (s : State) : Alike s (setStaging f s) :=
  .ofTracker rfl rfl rfl rfl rfl rfl rfl rfl

theorem turns_submit (s : State) : Turns C s (submit s) := by
  obtain ⟨r, _, e⟩ | ⟨b, _, _, _, room, e⟩ := submit_cases s <;> rw [e]
  · have refused : Alike s (s.setPort { s.port with result := r }) := .ofTracker rfl rfl rfl rfl rfl rfl rfl rfl
    exact refused.turns
  · exact (Turn.submit b s room).turns.trans (turns_settle _)

theorem turns_hostWrite {f : State → State} {s : State} (h : Turns C s (f s)) : Turns C s (hostWrite f s) := by
  unfold hostWrite
  split
  · exact .refl s
  · exact h

theorem Alike.popNotice (s : State) : Alike s (popNotice s) := by
  unfold Machine.popNotice
  split
  · exact .refl s
  · refine .trans ?_ (.tryTake _)
    exact .ofTracker rfl rfl rfl rfl rfl rfl rfl rfl

theorem turns_softReset (s : State) : Turns C s (softReset s) := by
  have cleared : Alike s (softResetClear s) := by
    unfold softResetClear
    split
    · exact ((Alike.setLink s _).trans (Alike.setLink _ _)).trans (Alike.countLinkClear _)
    · exact .refl s
  exact cleared.turns.trans (Turn.softReset _).turns

theorem turns_writeControl (word : Halfword) (s : State) : Turns C s (writeControl word s) := by
  unfold writeControl
  simp only
  have kept : ∀ t : State, Alike t (t.setControl (controlOf word)) := fun t =>
    .ofTracker rfl rfl rfl rfl rfl rfl rfl rfl
  have fields : ∀ t : State, Turns C t (tryTake (t.setControl (controlOf word))) := fun t =>
    ((kept t).trans (Alike.tryTake _)).turns
  have reset : Turns C s (if word.getLsbD 0 = true then softReset s else s) := by
    split
    · exact turns_softReset s
    · exact .refl s
  split
  · exact (reset.trans (fields _)).trans (turns_pulseAndAbort rfl _)
  · exact reset.trans (fields _)

theorem turns_writeRegister (offset : Nat) (word : Halfword) (s : State) : Turns C s (writeRegister offset word s) := by
  have kept : ∀ t : State, Alike s t → Turns C s t := fun _ h => h.turns
  unfold writeRegister
  split
  · exact turns_writeControl word s
  · exact kept _ (.ofTracker rfl rfl rfl rfl rfl rfl rfl rfl)
  · exact kept _ (.ofTracker rfl rfl rfl rfl rfl rfl rfl rfl)
  · exact kept _ (.ofTracker rfl rfl rfl rfl rfl rfl rfl rfl)
  iterate 12 exact kept _ (Alike.setStaging _ s)
  · exact turns_submit s
  · exact (Turn.pop s).turns
  · exact kept _ (Alike.popNotice s)
  iterate 5 exact kept _ (.ofTracker rfl rfl rfl rfl rfl rfl rfl rfl)
  · exact .refl s

/-! ## Link events -/

theorem Alike.followOpen (s : State) : Alike s (followOpen s) := by
  rw [followOpen_link]; exact .setLink s _

theorem Alike.followCompletion (s : State) : Alike s (followCompletion s) := by
  rw [followCompletion_link]; exact .setLink s _

theorem Alike.followRequest (ld : Halfword) (next : AfterEmpty) (s : State) : Alike s (followRequest ld next s) := by
  unfold Machine.followRequest
  split
  · exact (Alike.followCompletion s).trans (.followOpen _)
  · split
    · exact (Alike.followCompletion s).trans (.setLink _ _)
    · exact .refl s
  · exact .followCompletion s
  · refine (Alike.followCompletion s).trans ?_
    rw [followWin_link]; exact .setLink _ _

theorem Alike.standOutside (wordOpens : Bool) (s : State) : Alike s (standOutside wordOpens s) := by
  unfold Machine.standOutside
  have stands : Alike s (if s.shutOut = true then s else releaseTaken .phase s) := by
    split
    · exact .refl s
    · exact .setLink s _
  simp only
  split
  · exact stands.trans (.followOpen _)
  · exact stands

theorem leaveDue_body {s : State} {k : SlotIx} (h : s.leaveDue = some k) : s.slotBody k = some .leave := by
  unfold State.leaveDue at h
  split at h
  · cases h
  · have found := List.find?_some h
    simp only [Bool.and_eq_true, beq_iff_eq] at found
    exact found.2

theorem turns_takeLeaveFinal (s : State) : Turns C s (takeLeaveFinal s) := by
  unfold takeLeaveFinal
  split
  · rename_i k due
    exact (moves_leaveFinal (.ofBody (leaveDue_body due) Code.noConfusion)).turns.trans (turns_settle _)
  · exact .refl s

theorem turns_phaseOpens (wordOpens : Bool) (s : State) : Turns C s (phaseOpens wordOpens s) := by
  unfold phaseOpens
  split
  · split
    · exact .refl s
    · split
      · exact (Alike.standOutside _ s).turns
      · refine (turns_takeLeaveFinal s).trans ?_
        unfold openPhase
        split
        · exact (Alike.standOutside _ _).turns
        · simp only
          split <;> exact ((Alike.setLink _ _).trans (.setLink _ _)).turns
  · split
    · exact (Alike.setLink s _).turns
    · exact .refl s
  · exact .refl s

theorem Alike.winWith (k : SlotIx) (f : Frame) (s : State) : Alike s (winWith k f s) := by
  have slot := (Alike.writeSlot (s := s) (k := k)
    (x := { s.tracker.slots[k] with
      phase := .link, tenures := min Config.tenuresLimit (s.tracker.slots[k].tenures + 1) })
    ⟨rfl, rfl, SlotPhase.noConfusion⟩)
  exact ⟨rfl, rfl, rfl, rfl, rfl, rfl, rfl, slot.slots⟩

theorem Alike.completeRequest (ld : Halfword) (next : AfterEmpty) (s : State) : Alike s (completeRequest ld next s) := by
  unfold Machine.completeRequest
  split
  · unfold emptyWord
    simp only
    split
    · exact (Alike.setLink s _).trans (.setLink _ _)
    · split <;> exact (Alike.setLink s _).trans (.setLink _ _)
  · split
    · split
      · exact .setLink s _
      · split
        · exact .setLink s _
        · exact .winWith _ _ s
    · exact .setLink s _

theorem turns_completeWord (ld : Halfword) (tn : Tenure) (s : State) : Turns C s (completeWord ld tn s) := by
  have mismatch : (mismatchDelivery s).isCommit = false := by
    unfold mismatchDelivery
    split
    · split <;> rfl
    · rfl
  unfold completeWord
  split
  · split
    · split
      · exact (Alike.setLink s _).turns
      · exact turns_pulseAndAbort mismatch s
    · exact (Alike.setLink s _).turns
  · split
    · exact turns_pulseAndAbort mismatch s
    · exact (Alike.setLink s _).turns
  · unfold nextData
    split <;> exact (Alike.setLink s _).turns
  · exact .refl s

theorem turns_completeResponse (tn : Tenure) (present : NodeMask) (lines : RespLines) (s : State) :
    Turns C s (completeResponse tn present lines s) := by
  unfold completeResponse
  simp only
  have latched : ∀ l : LinkUnit, Alike s ((updateRoster (present ||| s.presentBit) s).setLink l) := fun l =>
    .ofTracker rfl rfl rfl rfl rfl rfl rfl rfl
  split
  · exact (latched _).turns.trans (turns_pulseAndAbort rfl _)
  · unfold nextData
    split <;> exact ((latched _).trans (.setLink _ _)).turns

theorem Alike.keepDataWord (tn : Tenure) (ld : Halfword) (s : State) : Alike s (keepDataWord tn ld s) := by
  unfold Machine.keepDataWord
  split
  · split
    · split
      · exact .ofTracker rfl rfl rfl rfl rfl rfl rfl rfl
      · exact .refl s
    · split
      · exact .ofTracker rfl rfl rfl rfl rfl rfl rfl rfl
      · exact .refl s
  · split
    · exact .ofTracker rfl rfl rfl rfl rfl rfl rfl rfl
    · exact .refl s

theorem Alike.noticeResponseOpens (s : State) : Alike s (noticeResponseOpens s) := by
  unfold Machine.noticeResponseOpens
  split
  · split
    · split
      · exact (Alike.setLink s _).trans (.tryTake _)
      · exact .setLink s _
    · exact .refl s
  · exact .followOpen s

theorem turns_lbusyFalls (s : State) : Turns C s (lbusyFalls s) := by
  have tenure : Turns C s (if s.link.sender.isSome = true then s else pulseAndAbort .cleared s) := by
    split
    · exact .refl s
    · exact turns_pulseAndAbort rfl s
  unfold lbusyFalls
  split
  · split
    · exact .refl s
    · split
      · exact turns_pulseAndAbort rfl s
      · exact (Alike.setLink s _).turns
  · exact tenure
  · exact tenure
  · exact tenure
  · rw [followFall_link]; exact (Alike.setLink s _).turns
  · exact .refl s
  · exact .refl s

/-! ## The end of a tenure without a commit -/

theorem deliveryOf_isCommit {tn : Tenure} (h : tn.outcome ≠ some .committed) (r : Option CmdResult) :
    (deliveryOf tn r).isCommit = false := by
  unfold deliveryOf
  split
  · exact absurd ‹_› h
  all_goals rfl

theorem turns_endTenure {tn : Tenure} (h : tn.outcome ≠ some .committed) (s : State) : Turns C s (endTenure tn s) := by
  unfold endTenure endState
  rw [if_neg h]
  exact ((Alike.dropBuffers s).trans (.setLink _ _)).turns.trans (turns_slotTurns (deliveryOf_isCommit h _) _ _)

/-! ## Expiries -/

theorem turns_handshakeExpires (s : State) : Turns C s (handshakeExpires s) := by
  unfold handshakeExpires
  split
  · split
    · exact .refl s
    · exact turns_pulseAndAbort rfl s
  · exact .refl s

theorem turns_noticeWaitExpires (s : State) : Turns C s (noticeWaitExpires s) := by
  unfold noticeWaitExpires
  split
  · split
    · exact turns_pulseAndAbort rfl s
    · exact .refl s
  · exact .refl s

theorem turns_holdExpires (r : HoldIx) (s : State) : Turns C s (holdExpires r s) := by
  unfold holdExpires
  split
  · exact (Turn.lapse r .holdExpired s).turns.trans (turns_settle _)
  · exact .refl s

theorem turns_backoffExpires (k : SlotIx) (s : State) : Turns C s (backoffExpires k s) := by
  unfold backoffExpires
  split
  · have rested : Alike s (writeSlot k { s.tracker.slots[k] with backoff := 0 } s) := .writeSlot ⟨rfl, rfl, id⟩
    exact (rested.trans (.replan _ _)).turns.trans (turns_settle _)
  · exact .refl s

theorem turns_foldl {α : Type} {f : State → α → State} (h : ∀ s a, Turns C s (f s a)) :
    ∀ (l : List α) (s : State), Turns C s (l.foldl f s)
  | [], s => .refl s
  | a :: l, s => (h s a).trans (turns_foldl h l _)

theorem turns_tick (s : State) : Turns C s (tick s) := by
  have hold : ∀ t r, Turns C t (expireHold t r) := fun t r => by
    unfold expireHold
    split
    · split
      · exact turns_holdExpires r t
      · exact .refl t
    · exact .refl t
  have backoff : ∀ t k, Turns C t (expireBackoff t k) := fun t k => by
    unfold expireBackoff
    split
    · exact turns_backoffExpires k t
    · exact .refl t
  have wait : ∀ t, Turns C t (expireWait t) := fun t => by
    unfold expireWait
    split
    · split
      · exact (turns_handshakeExpires t).trans (turns_noticeWaitExpires _)
      · exact .refl t
    · exact .refl t
  exact ((((turns_takeLeaveFinal s).trans (Turn.tick _).turns).trans (turns_foldl hold _ _)).trans
    (turns_foldl backoff _ _)).trans (wait _)

end

/-! ## One command, one step -/

/-- The command ends a COMMITTED tenure at this node. -/
def Commits (c : Instr) (s : State) : Prop :=
  c = .tenureEnd ∧ s.link.phase = .close ∧ ∃ tn, s.link.tenure = some tn ∧ tn.outcome = some .committed

theorem turns_wordEvent {C : Prop} {take follow : State → State} {s : State} (h : Turns C s (take s))
    (g : Alike s (follow s)) : Turns C s (wordEvent take follow s) := by
  unfold wordEvent
  split
  · exact g.turns
  · exact h

theorem turns_linkEvent {C : Prop} {f : State → State} {s : State} (h : Turns C s (f s)) :
    Turns C s (linkEvent f s) := by
  unfold linkEvent
  split
  · exact .refl s
  · exact h

theorem turns_stageAndSubmit {C : Prop} {f : Staging → Staging} {s t : State}
    (h : stageAndSubmit f s = .next t) : Turns C s t := by
  cases h
  exact turns_hostWrite ((Alike.setStaging f s).turns.trans (turns_submit _))

/-- What one command does to the tables is a chain of turns. -/
theorem turns_exec {c : Instr} {s t : State} (h : exec c s = .next t) : Turns (Commits c s) s t := by
  cases c with
  | load | store | swap | release | hold | unhold | guard | notice | flush | join | leave | badCodeSubmit =>
    exact turns_stageAndSubmit h
  | cqpop => cases h; exact turns_hostWrite (Turn.pop s).turns
  | nqpop => cases h; exact turns_hostWrite (Alike.popNotice s).turns
  | softreset | linkclear | npause | cqe | nqe | atte => cases h; exact turns_hostWrite (turns_writeControl _ s)
  | causeClear word =>
    cases h
    have kept : Alike s (clearCauses word s) := .ofTracker rfl rfl rfl rfl rfl rfl rfl rfl
    exact turns_hostWrite kept.turns
  | counterClear w =>
    cases h
    have kept : Alike s (zeroCounter w s) := .ofTracker rfl rfl rfl rfl rfl rfl rfl rfl
    exact turns_hostWrite kept.turns
  | registerWrite => cases h; exact turns_hostWrite (turns_writeRegister _ _ s)
  | por =>
    cases h
    have kept : Alike s (assertPor s) := .ofTracker rfl rfl rfl rfl rfl rfl rfl rfl
    exact kept.turns
  | porRelease straps => cases h; exact (Turn.porRelease straps s).turns
  | arbitrationPhaseOpen wordOpens =>
    cases h
    split
    · split
      · exact .refl s
      · exact (Alike.standOutside wordOpens s).turns
    · exact turns_phaseOpens wordOpens s
  | requestWord ld next =>
    cases h
    refine turns_wordEvent ?_ (.followRequest ld next s)
    unfold requestCompletes
    split
    · exact (Alike.completeRequest ld next s).turns
    · exact (Alike.followRequest ld next s).turns
  | h0Taken ld =>
    cases h
    refine turns_wordEvent ?_ (.followOpen s)
    unfold h0Arrives takeH0
    split
    · simp only
      split
      · exact ((Alike.setLink s _).trans (.countProtocolError _)).turns
      · exact (Alike.setLink s _).turns
    · exact (Alike.followOpen s).turns
  | h1Taken ld =>
    cases h
    refine turns_wordEvent ?_ (.followOpen s)
    unfold h1Arrives takeH1
    split
    · simp only
      split
      · exact ((Alike.setLink s _).trans (.countProtocolError _)).turns
      · exact (Alike.setLink s _).turns
    · exact (Alike.followOpen s).turns
  | wordComplete ld =>
    cases h
    refine turns_wordEvent ?_ (.followCompletion s)
    unfold wordCompletes
    split
    · exact turns_completeWord _ _ s
    · exact (Alike.followCompletion s).turns
  | noticeResponseOpen => cases h; exact turns_wordEvent (Alike.noticeResponseOpens s).turns (.followOpen s)
  | responseWord present lines =>
    cases h
    refine turns_wordEvent ?_ (.followCompletion s)
    unfold responseCompletes
    split
    · split
      · exact turns_completeResponse _ _ _ s
      · exact .refl s
    · exact (Alike.followCompletion s).turns
  | dataWord ld =>
    cases h
    refine turns_wordEvent ?_ (.followOpen s)
    unfold dataArrives
    split
    · split
      · exact ((Alike.keepDataWord _ ld s).trans (.setLink _ _)).turns
      · exact .refl s
    · exact (Alike.followOpen s).turns
  | tenureEnd =>
    cases h
    split
    · exact (Alike.setLink s _).turns
    · unfold lbusyReleased
      split
      · rename_i tn phase tenure
        by_cases committed : tn.outcome = some .committed
        · exact (Turn.commit tn s ⟨rfl, phase, tn, tenure, committed⟩ committed).turns
        · exact turns_endTenure committed s
      · exact (Alike.setLink s _).turns
      · exact .refl s
  | linkClear =>
    cases h
    split
    · exact (Alike.setLink s _).turns
    · exact turns_abortLink rfl s
  | linkClearRelease => cases h; exact (Alike.setLink s _).turns
  | earlyLbusyFall =>
    cases h
    exact turns_wordEvent (turns_lbusyFalls s) (by rw [followFall_link]; exact .setLink s _)
  | handshakeTimeout => cases h; exact turns_linkEvent (turns_handshakeExpires s)
  | noticeWaitExpiry => cases h; exact turns_linkEvent (turns_noticeWaitExpires s)
  | holdExpiry r => cases h; exact turns_linkEvent (turns_holdExpires r s)
  | backoffExpiry k => cases h; exact turns_linkEvent (turns_backoffExpires k s)
  | leaveFinalStep => cases h; exact turns_linkEvent (turns_takeLeaveFinal s)

/-- One microsecond commits nothing. -/
theorem turns_idleStep (s : State) : Turns False s (idleStep s) := by
  unfold idleStep
  split
  · exact .refl s
  · exact turns_tick s

/-- A turn that commits nothing, or only where `C` holds, is a turn. -/
theorem Turn.any {C : Prop} {s t : State} (h : Turn C s t) : Turn True s t := by
  cases h with
  | commit tn s _ committed => exact .commit tn _ trivial committed
  | move m => exact .move m
  | start m => exact .start m
  | submit b s h => exact .submit b _ h
  | pop => exact .pop _
  | softReset => exact .softReset _
  | porRelease straps => exact .porRelease straps _
  | lapse r status => exact .lapse r status _
  | tick => exact .tick _

theorem Turns.any {C : Prop} {s t : State} (h : Turns C s t) : Turns True s t :=
  Relation.ReflTransGen.mono (fun _ _ m => m.any) _ _ h

/-- What every turn keeps, every step keeps. -/
theorem step_keeps {P : State → Prop} (keep : ∀ s t, Turn True s t → P s → P t) {s t : State} (h : step s = .next t)
    (p : P s) : P t := by
  unfold step at h
  split at h
  · rename_i c rest _
    have taken : Alike s (s.setPending rest) := .ofTracker rfl rfl rfl rfl rfl rfl rfl rfl
    exact (taken.turns.trans (turns_exec h).any).keeps keep p
  · cases h
    exact (turns_idleStep s).any.keeps keep p

end Sys2Proof.Machine

/-!
PROOF. What the commit of a tenure changes (R12 to R19, R30 to R36, R144, R157), and what keeps a law of the tables over
the end of a COMMITTED tenure.
-/

namespace Sys2Proof.Machine

/-! ## The updates of a commit -/

/-- One update of a commit. -/
inductive Grant : State → State → Prop where
  | alike {s t : State} (h : Alike s t) : Grant s t
  /-- A home record written; lent, it is lent to another node or was lent so before (R13 to R17). -/
  | record (v : VarNum) (r : HomeRecord) (s : State)
      (h : ∀ l, r.state = .lent l → l ≠ s.nodeId ∨ (s.record v).state = .lent l) : Grant s (writeRecord v r s)
  | loans (joiner : NodeId) (s : State) : Grant s (reclaimLoans joiner s)
  /-- An entry's state and value written, its reservation kept or cleared (R30, R33, R34). -/
  | entry (i : EntryIx) (st : CopyState) (x : Value) (reservation : Option SlotIx) (s : State)
      (h : reservation = none ∨ reservation = s.copy.entries[i].reservedBy) :
      Grant s (writeEntry i { s.copy.entries[i] with state := st, value := x, reservedBy := reservation } s)
  | promote (i : EntryIx) (s : State) : Grant s (promote i s)
  | vacate (i : EntryIx) (s : State) : Grant s (vacate i s)
  | lapse (r : HoldIx) (status : Status) (s : State) : Grant s (endHold r status s)

/-- A chain of a commit's updates. -/
def Grants : State → State → Prop := Relation.ReflTransGen Grant

theorem Grants.refl (s : State) : Grants s s := Relation.ReflTransGen.refl

theorem Grants.trans {s t u : State} (h : Grants s t) (g : Grants t u) : Grants s u := Relation.ReflTransGen.trans h g

theorem Grant.grants {s t : State} (h : Grant s t) : Grants s t := Relation.ReflTransGen.single h

theorem Alike.grants {s t : State} (h : Alike s t) : Grants s t := (Grant.alike h).grants

/-- What every update of a commit keeps, a chain of them keeps. -/
theorem Grants.keeps {P : State → Prop} (keep : ∀ s t, Grant s t → P s → P t) {s t : State} (h : Grants s t) (p : P s) :
    P t := by
  induction h with
  | refl => exact p
  | tail _ m ih => exact keep _ _ m ih

theorem grants_foldl {α : Type} {f : State → α → State} (h : ∀ s a, Grants s (f s a)) :
    ∀ (l : List α) (s : State), Grants s (l.foldl f s)
  | [], s => .refl s
  | a :: l, s => (h s a).trans (grants_foldl h l _)

/-- The updates of a commit leave the commands of the slots. -/
theorem Grant.command {s t : State} (h : Grant s t) (k : SlotIx) :
    t.tracker.slots[k].command = s.tracker.slots[k].command := by
  cases h with
  | alike h => exact (h.slots k).command
  | promote i s => rw [promote_tracker]
  | vacate i s => exact vacate_command i k s
  | lapse r status s =>
    obtain ⟨_, e⟩ | ⟨g, _, e⟩ := endHold_cases r status s <;> rw [e]
    exact ((Alike.wakeHoldWaiters _).slots k).command
  | record | loans | entry => rfl

theorem Grants.command {s t : State} (h : Grants s t) (k : SlotIx) :
    t.tracker.slots[k].command = s.tracker.slots[k].command :=
  h.keeps (P := fun u => u.tracker.slots[k].command = s.tracker.slots[k].command)
    (fun _ _ g e => (g.command k).trans e) rfl

/-! ## The command of the sending slot, applied -/

/-- What the application of the sending slot's command leaves: a HOLD entered, ending OK, or a result that is no HOLD's OK. -/
inductive Applied (sender : Option SlotIx) : State → State → Option CmdResult → Prop where
  | plain (s : State) (r : Option CmdResult)
      (h : ∀ x k c, r = some x → x.status = .ok → sender = some k → s.tracker.slots[k].command = some c →
        c.body.code ≠ .hold) : Applied sender s s r
  | hold {k : SlotIx} {c : Command} {w : VarNum} {n : BitVec 8} (v : VarNum) (r : HoldIx) (s : State)
      (sends : sender = some k) (command : s.tracker.slots[k].command = some c) (body : c.body = .hold w n)
      (free : s.holds[r] = none) (held : s.held v = false) :
      Applied sender s (s.setHolds (s.holds.set r (some ⟨v, c.tag, n.toNat, 0⟩))) (some ⟨.ok, none⟩)

/-- A commit is a chain of updates, then the application of the sending slot's command. -/
def Committed (s t : State) (r : Option CmdResult) : Prop := ∃ u, Grants s u ∧ Applied s.link.sender u t r

theorem Committed.none {s t : State} (h : Grants s t) : Committed s t none :=
  ⟨t, h, .plain t _ fun _ _ _ e => by cases e⟩

theorem Committed.before {s t u : State} {r : Option CmdResult} (h : Grants s u) (sender : u.link.sender = s.link.sender)
    (g : Committed u t r) : Committed s t r := by
  obtain ⟨w, grants, applied⟩ := g
  exact ⟨w, h.trans grants, sender ▸ applied⟩

section
variable {s : State} {k : SlotIx} {c : Command}

/-- A result of the sender's own command, which is no HOLD. -/
theorem applied_noHold (sends : s.link.sender = some k) (command : s.tracker.slots[k].command = some c) {t : State}
    (grants : Grants s t) (noHold : c.body.code ≠ .hold) (r : Option CmdResult) : Committed s t r := by
  refine ⟨t, grants, .plain t r fun x j d _ _ sends' command' => ?_⟩
  rw [sends] at sends'
  cases sends'
  rw [grants.command k, command] at command'
  cases command'
  exact noHold

theorem committed_enterHold (sends : s.link.sender = some k) (command : s.tracker.slots[k].command = some c) {w : VarNum}
    {n : BitVec 8} (body : c.body = .hold w n) (v : VarNum) :
    Committed s (enterHold v c.tag n s).1 (some (enterHold v c.tag n s).2) := by
  refine ⟨s, .refl s, ?_⟩
  obtain ⟨_, e⟩ | ⟨_, _, e⟩ | ⟨r, held, free, e⟩ := enterHold_cases v c.tag n s <;> rw [e]
  · exact .plain s _ fun x _ _ e ok => by cases e; cases ok
  · exact .plain s _ fun x _ _ e ok => by cases e; cases ok
  · exact .hold v r s sends command body (freeHold_none free) held

theorem committed_applyHome (sends : s.link.sender = some k) (command : s.tracker.slots[k].command = some c) (v : VarNum) :
    Committed s (applyHome c v s).1 (applyHome c v s).2 := by
  have record : ∀ r : HomeRecord, r.state = (s.record v).state → Grants s (writeRecord v r s) := fun r h =>
    (Grant.record v r s fun l e => .inr (h ▸ e)).grants
  by_cases hold : c.body.code = .hold
  · obtain ⟨w, n, body⟩ := Body.eq_hold_of_code hold
    rw [applyHome_of_hold body]
    exact committed_enterHold sends command body v
  · cases body : c.body with
    | guard w level =>
      rw [applyHome_of_guard body]
      exact applied_noHold sends command (record { s.record v with guard := level } rfl) hold _
    | _ =>
      rw [applyHome_of_data hold (by rw [body]; exact Code.noConfusion)]
      split
      · refine applied_noHold sends command ?_ hold _
        split
        · exact record _ rfl
        · exact .refl s
      · exact .none (.refl s)

theorem committed_applyCopy (sends : s.link.sender = some k) (command : s.tracker.slots[k].command = some c) (v : VarNum)
    (i : EntryIx) : Committed s (applyCopy c v i s).1 (applyCopy c v i s).2 := by
  by_cases hold : c.body.code = .hold
  · obtain ⟨w, n, body⟩ := Body.eq_hold_of_code hold
    obtain ⟨state, result⟩ := promote_enterHold i v c.tag n s
    rw [applyCopy_of_hold body, ← state, ← result]
    have sends' : (promote i s).link.sender = some k := by rw [promote, State.setCopy_link, sends]
    have command' : (promote i s).tracker.slots[k].command = some c := by rw [promote_tracker, command]
    exact .before (Grant.promote i s).grants (sends'.trans sends.symm) (committed_enterHold sends' command' body v)
  · rw [applyCopy_of_data hold]
    split
    · exact applied_noHold sends command ((Grant.entry i _ _ _ s (.inr rfl)).grants.trans (Grant.promote i _).grants) hold _
    · exact .none (.refl s)

end

/-! ## The home's commit -/

/-- A record lent at a commit is lent to the source, another node, or was lent so before (R14 to R17). -/
theorem homeStateAfter_lent {k : Kind} {source l : NodeId} {peer : Bool} {lines : RespLines} {st : HomeState}
    (h : homeStateAfter k source peer lines st = some (.lent l)) : (peer = true ∧ l = source) ∨ st = .lent l := by
  unfold homeStateAfter at h
  split at h
  · split at h <;> cases h
    exact .inl ⟨rfl, rfl⟩
  · cases h
  · cases h; exact .inl ⟨rfl, rfl⟩
  · cases h
  · cases h; exact .inl ⟨rfl, rfl⟩
  · cases h; exact .inl ⟨rfl, rfl⟩
  · split at h <;> cases h
  · cases h
  · split at h <;> cases h
  · cases h
  · cases h
  · cases h
  · cases h
  · cases h; exact .inr rfl

theorem grants_reclaimAbsent (v : VarNum) (present : NodeMask) (s : State) : Grants s (reclaimAbsent v present s) := by
  have counted : ∀ t, Alike t (countReclaims 1 t) := fun t => .ofTracker rfl rfl rfl rfl rfl rfl rfl rfl
  unfold reclaimAbsent
  split
  · split
    · exact .refl s
    · exact (Grant.record v _ s fun _ e => by cases e).grants.trans (counted _).grants
  · exact .refl s

theorem grants_storeCapture (k : Kind) (source : NodeId) (v : VarNum) (s : State) :
    Grants s (storeCapture k source v s) := by
  unfold storeCapture
  split
  · exact .refl s
  · refine (Grant.record v _ s fun _ e => ?_).grants
    exact .inr e

theorem grants_changeRecord (k : Kind) (v : VarNum) (source : NodeId) (lines : RespLines) (s : State) :
    Grants s (changeRecord k v source lines s) := by
  unfold changeRecord
  split
  · rename_i st after
    refine (Grant.record v _ s fun l e => ?_).grants
    have lent : st = .lent l := e
    subst lent
    obtain ⟨peer, e⟩ | e := homeStateAfter_lent after
    · exact .inl (by subst e; simpa using peer)
    · exact .inr e
  · exact (Alike.countProtocolError s).grants

theorem committed_commitHome (tn : Tenure) (k : Kind) (v : VarNum) (s : State) :
    Committed s (commitHome tn k v s).1 (commitHome tn k v s).2 := by
  have home := ((grants_reclaimAbsent v tn.present s).trans (grants_storeCapture k (sourceOf tn.h0) v _)).trans
    (grants_changeRecord k v (sourceOf tn.h0) tn.lines _)
  have sender : (changeRecord k v (sourceOf tn.h0) tn.lines (storeCapture k (sourceOf tn.h0) v
      (reclaimAbsent v tn.present s))).link.sender = s.link.sender := by
    have reclaim : (reclaimAbsent v tn.present s).link = s.link := by
      unfold reclaimAbsent
      split
      · split <;> rfl
      · rfl
    have capture : ∀ t, (storeCapture k (sourceOf tn.h0) v t).link = t.link := fun t => by
      unfold storeCapture
      split <;> rfl
    have change : ∀ t, (changeRecord k v (sourceOf tn.h0) tn.lines t).link = t.link := fun t => by
      unfold changeRecord
      split <;> rfl
    rw [change, capture, reclaim]
  unfold commitHome
  simp only
  split
  · exact .none home
  · rename_i slot sends
    split
    · exact .none home
    · rename_i c command
      exact .before home sender (committed_applyHome (sender.trans sends) command v)

/-! ## The commit at a holder and at the requester -/

theorem grants_commitHolder (tn : Tenure) (k : Kind) (v : VarNum) (s : State) : Grants s (commitHolder tn k v s) := by
  unfold commitHolder
  split
  · exact .refl s
  · rename_i i _
    split
    · exact .refl s
    · split
      · unfold demoteToCopy
        split
        · exact (Grant.entry i _ _ _ s (.inr rfl)).grants
        · exact .refl s
      · exact (Grant.vacate i s).grants
      · exact (Grant.vacate i s).grants
      · split
        · exact (Grant.vacate i s).grants
        · exact .refl s
      · exact .refl s

theorem committed_commitRequester {slot : SlotIx} (tn : Tenure) (k : Kind) (v : VarNum) {s : State}
    (sends : s.link.sender = some slot) :
    Committed s (commitRequester slot tn k v s).1 (commitRequester slot tn k v s).2 := by
  have applied : ∀ (c : Command) (i : EntryIx) (e : CopyEntry), s.tracker.slots[slot].command = some c →
      Grants s (writeEntry i e s) →
      Committed s (applyCopy c v i (writeEntry i e s)).1 (applyCopy c v i (writeEntry i e s)).2 := fun c i e command g =>
    .before (u := writeEntry i e s) g rfl (committed_applyCopy (s := writeEntry i e s) sends command v i)
  unfold commitRequester
  split
  · exact .none (.refl s)
  · rename_i c command
    split
    · exact applied c _ _ command (Grant.entry _ _ _ _ s (.inl rfl)).grants
    · exact applied c _ _ command (Grant.entry _ _ _ _ s (.inl rfl)).grants
    · exact applied c _ _ command (Grant.entry _ _ _ _ s (.inr rfl)).grants
    · exact .none (Grant.vacate _ s).grants
    · exact .none (Grant.vacate _ s).grants
    · exact .none (.refl s)

theorem grants_commitJoin (tn : Tenure) (s : State) : Grants s (commitJoin tn s) := by
  have lose : ∀ (tags : List (Option VarNum)) (t : State) (r : HoldIx), Grants t (loseHold tags t r) := fun tags t r => by
    unfold loseHold
    split
    · split
      · exact (Grant.lapse r _ t).grants
      · exact .refl t
    · exact .refl t
  have cold : ∀ t, Grants t (coldJoin (sourceOf tn.h0) t) := fun t => by
    unfold coldJoin
    simp only
    exact ((grants_foldl (fun u i => (Grant.vacate i u).grants) _ t).trans (Alike.countDiscards _ _).grants).trans
      (grants_foldl (lose _) _ _)
  unfold commitJoin
  split
  · have online : Alike s ((s.setParticipation .online).setCold false) := .ofTracker rfl rfl rfl rfl rfl rfl rfl rfl
    exact online.grants
  · have loans := (Grant.loans (sourceOf tn.h0) s).grants
    simp only
    split
    · exact loans.trans (cold _)
    · exact loans

theorem committed_commitTenure (tn : Tenure) (s : State) :
    Committed s (commitTenure tn s).1 (commitTenure tn s).2 := by
  unfold commitTenure
  split
  · unfold commitNotice
    split
    · exact .none (Alike.setNotices s _).grants
    · exact .none (.refl s)
  · exact .none (grants_commitJoin tn s)
  · rename_i k h1 _ _ _ _
    unfold commitVar
    split
    · split
      · exact committed_commitHome tn k _ s
      · split
        · rename_i slot sends
          exact committed_commitRequester tn k _ sends
        · exact .none (grants_commitHolder tn k _ s)
    · exact .none (.refl s)
  · exact .none (.refl s)

/-! ## The end of a COMMITTED tenure -/

theorem replanChanged_slot (before s : State) (k : SlotIx) :
    (replanChanged before s).tracker.slots[k] =
      if (before.tracker.slots[k].phase = .send ∨ before.tracker.slots[k].phase = .plan) ∧
          dependencies before.tracker.slots[k] before ≠ dependencies before.tracker.slots[k] s then
        { s.tracker.slots[k] with phase := .plan, frame := none, waiting := none }
      else s.tracker.slots[k] := by
  simp only [replanChanged, State.setTracker_tracker, Fin.getElem_fin, Vector.getElem_ofFn]

theorem Alike.replanChanged (before s : State) : Alike s (replanChanged before s) where
  nodeId := rfl
  queue := rfl
  records := rfl
  entries := rfl
  holds := rfl
  completions := rfl
  credits := rfl
  slots k := by
    rw [replanChanged_slot]
    split
    · exact ⟨rfl, rfl, SlotPhase.noConfusion⟩
    · exact .refl _

/-- The state at the end of a COMMITTED tenure, before the slots act (R65 to R68, R122). -/
def committedState (tn : Tenure) (s : State) : State :=
  linkIdle (dropBuffers (replanChanged s (commitTenure tn s).1))

theorem Alike.committedState (tn : Tenure) (s : State) : Alike (commitTenure tn s).1 (committedState tn s) :=
  ((Alike.replanChanged s _).trans (.dropBuffers _)).trans (.setLink _ _)

/-- The end of a COMMITTED tenure: the commit, then the slots' turns with the sender's commit delivered (R65, R127). -/
theorem endTenure_of_committed {tn : Tenure} (h : tn.outcome = some .committed) (s : State) :
    endTenure tn s = slotTurns s.link.sender
      (.committed (commitTenure tn s).2 (some (tn.h1.getD 0#16 &&& tn.present))) (committedState tn s) := by
  simp only [endTenure, endState, deliveryOf, h, if_true, Machine.committedState]

/-- The slots' turns after a commit: the sender's reservations stand as the commit left them (R127). -/
theorem slotTurns_committed (k : SlotIx) (r : Option CmdResult) (m : Option NodeMask) (s : State) :
    slotTurns (some k) (.committed r m) s = settle (deliverCommit k r m (plansBelow k Config.settleBound s)) := by
  have ends : endsReservation k (.committed r m) s = false := rfl
  simp only [slotTurns, releaseEnded, ends, deliver, Bool.false_eq_true, if_false]

/-- A commit delivered ends the command, whatever the result, or lets the slot plan again (R127). -/
theorem deliverCommit_cases (k : SlotIx) (r : Option CmdResult) (m : Option NodeMask) (s : State) :
    (∃ x d, deliverCommit k r m s = complete k x d s ∧ (r = some x ∨ (r = none ∧ NoHold k s))) ∨
      (r = none ∧ deliverCommit k r m s = replan k s) := by
  unfold deliverCommit
  split
  · exact .inl ⟨_, _, rfl, .inl rfl⟩
  · rename_i body
    exact .inl ⟨_, _, rfl, .inr ⟨rfl, .ofBody body Code.noConfusion⟩⟩
  · rename_i body
    exact .inl ⟨_, _, rfl, .inr ⟨rfl, .ofBody body Code.noConfusion⟩⟩
  · rename_i body
    exact .inl ⟨_, _, rfl, .inr ⟨rfl, .ofBody body Code.noConfusion⟩⟩
  · exact .inr ⟨rfl, rfl⟩

/-- A law kept by every move, every start, every update of a commit, the entry of a hold and the end of a command is kept
over the end of a COMMITTED tenure. -/
theorem endTenure_keeps {P : State → Prop} (move : ∀ j s t, Move j s t → P s → P t)
    (start : ∀ s t, startNext s = some t → P s → P t) (grant : ∀ s t, Grant s t → P s → P t)
    (enter : ∀ (s : State) (v : VarNum) (tag : Tag) (n : Nat) (r : HoldIx), s.holds[r] = none → s.held v = false → P s →
      P (s.setHolds (s.holds.set r (some ⟨v, tag, n, 0⟩))))
    (finish : ∀ k r d s, P s → P (complete k r d s)) {tn : Tenure} (h : tn.outcome = some .committed) {s : State}
    (p : P s) : P (endTenure tn s) := by
  have plan : ∀ k s, P s → P (planSlot k s) := fun k s => (moves_planSlot k s).keeps fun j s t _ => move j s t
  have starts : ∀ s t, P s → startNext s = some t → P t := fun s t p e => start s t e p
  have committed : P (committedState tn s) := by
    obtain ⟨u, grants, applied⟩ := committed_commitTenure tn s
    have applied' : P (commitTenure tn s).1 := by
      generalize (commitTenure tn s).1 = t, (commitTenure tn s).2 = r at applied
      have before := grants.keeps grant p
      cases applied with
      | plain => exact before
      | hold v r u sends command body free held => exact enter u v _ _ r free held before
    exact move 0 _ _ (.alike (.committedState tn s)) applied'
  rw [endTenure_of_committed h]
  cases s.link.sender with
  | none => exact settle_keeps P plan starts _ committed
  | some k =>
    rw [slotTurns_committed]
    refine settle_keeps P plan starts _ ?_
    have below := plansBelow_keeps P plan k Config.settleBound _ committed
    obtain ⟨x, d, e, _⟩ | ⟨_, e⟩ := deliverCommit_cases k (commitTenure tn s).2
      (some (tn.h1.getD 0#16 &&& tn.present)) (plansBelow k Config.settleBound (committedState tn s)) <;> rw [e]
    · exact finish _ _ _ _ below
    · exact move k _ _ (.alike (.replan k _)) below

end Sys2Proof.Machine

/-!
PROOF. The laws of the age ranks, the hold records and the command queue: each kept by every turn (R27, R99, R137).
-/

namespace Sys2Proof.Machine

/-! ## What the end of a command and the cancelling of the queue leave -/

theorem complete_frame (k : SlotIx) (r : CmdResult) (d : Option NodeMask) (s : State) :
    (complete k r d s).nodeId = s.nodeId ∧ (complete k r d s).port = s.port ∧ (complete k r d s).home = s.home ∧
      (complete k r d s).holds = s.holds := by
  obtain ⟨_, e⟩ | ⟨c, _, e⟩ := complete_cases k r d s <;> rw [e]
  · exact ⟨rfl, rfl, rfl, rfl⟩
  · simp only [writeSlot, releaseReservations, freeCredits, post, State.setTracker_nodeId, State.setCopy_nodeId,
      State.setCompletion_nodeId, State.setTracker_port, State.setCopy_port, State.setCompletion_port,
      State.setTracker_home, State.setCopy_home, State.setCompletion_home, State.setTracker_holds, State.setCopy_holds,
      State.setCompletion_holds, and_self]

theorem vacate_frame (i : EntryIx) (s : State) :
    (vacate i s).nodeId = s.nodeId ∧ (vacate i s).port = s.port ∧ (vacate i s).home = s.home ∧
      (vacate i s).holds = s.holds ∧ (vacate i s).completion = s.completion := by
  cases reserved : s.copy.entries[i].reservedBy with
  | none => rw [vacate_of_unreserved reserved]; exact ⟨rfl, rfl, rfl, rfl, rfl⟩
  | some k => rw [vacate_of_reserved reserved]; exact ⟨rfl, rfl, rfl, rfl, rfl⟩

/-- The CANCELLED records of the queued commands, and their spare credits (R113). -/
def cancelled (l : List Command) : List Completion := l.map fun c => slotRecord c 0 ⟨.cancelled, none⟩ none

theorem cancelQueue_eq (s : State) :
    cancelQueue s = (s.setPort { s.port with queue := [] }).setCompletion { s.completion with
      queue := s.completion.queue ++ cancelled s.port.queue
      free := s.completion.free + (s.port.queue.map fun c => c.body.credits - 1).sum } := by
  have fold : ∀ (l : List Command) (t : State), l.foldl
      (fun s c => freeCredits (c.body.credits - 1) (post (slotRecord c 0 ⟨.cancelled, none⟩ none) s)) t =
        t.setCompletion { t.completion with
          queue := t.completion.queue ++ cancelled l
          free := t.completion.free + (l.map fun c => c.body.credits - 1).sum } := by
    intro l
    induction l with
    | nil => intro t; simp [cancelled]; rfl
    | cons c rest ih =>
      intro t
      rw [List.foldl_cons, ih]
      simp only [freeCredits, post, cancelled, State.setCompletion_completion, List.map_cons, List.append_assoc,
        List.cons_append, List.nil_append, List.sum_cons, Nat.add_assoc]
      rfl
  exact fold _ _

/-! ## Starts -/

/-- The record taken and the queue left are the records there were (R99, R101). -/
theorem takeEligible_perm {busy : List Command} {c : Command} {rest : List Command} :
    ∀ (l earlier : List Command), takeEligible busy earlier l = some (c, rest) → (c :: rest).Perm (earlier ++ l)
  | [], earlier, h => by cases h
  | d :: l, earlier, h => by
    unfold takeEligible at h
    split at h
    · cases h
      exact List.perm_middle.symm
    · have p := takeEligible_perm l _ h
      rwa [List.append_assoc] at p

/-- The record taken was eligible, after some of the records (R100). -/
theorem takeEligible_eligible {busy : List Command} {c : Command} {rest : List Command} :
    ∀ (l earlier : List Command), takeEligible busy earlier l = some (c, rest) → ∃ e, eligible busy e c = true
  | [], earlier, h => by cases h
  | d :: l, earlier, h => by
    unfold takeEligible at h
    split at h
    · cases h; exact ⟨earlier, ‹_›⟩
    · exact takeEligible_eligible l _ h

/-- A start takes an eligible record into a FREE slot (R101). -/
theorem startNext_cases {s t : State} (h : startNext s = some t) :
    ∃ k c rest e, s.tracker.slots[k].phase = .free ∧ eligible s.busyCommands e c = true ∧
      (c :: rest).Perm s.port.queue ∧ t = startSlot k c rest s := by
  unfold startNext at h
  split at h
  · cases h
  · rename_i k free
    split at h
    · cases h
    · rename_i c rest taken
      obtain ⟨e, ok⟩ := takeEligible_eligible _ _ taken
      cases h
      exact ⟨k, c, rest, e, freeSlot_free free, ok, takeEligible_perm _ _ taken, rfl⟩

/-- What a start leaves, and the queue it leaves (R101). -/
theorem startSlot_frame (k : SlotIx) (c : Command) (rest : List Command) (s : State) :
    (startSlot k c rest s).nodeId = s.nodeId ∧ (startSlot k c rest s).port = { s.port with queue := rest } ∧
      (startSlot k c rest s).home = s.home ∧ (startSlot k c rest s).copy = s.copy ∧
      (startSlot k c rest s).holds = s.holds ∧ (startSlot k c rest s).completion = s.completion := by
  unfold startSlot startParticipation
  split <;> exact ⟨rfl, rfl, rfl, rfl, rfl, rfl⟩

/-! ## Age ranks -/

/-- A law of the ages alone. -/
theorem agesRanked_of_same {s t : State} (h : ∀ i : EntryIx, t.copy.entries[i].age = s.copy.entries[i].age)
    (p : s.agesRanked) : t.agesRanked := fun r => by
  obtain ⟨i, e⟩ := p r
  exact ⟨i, (h i).trans e⟩

/-- A promotion permutes the ranks (R27). -/
theorem agesRanked_promote {s : State} (p : s.agesRanked) (i : EntryIx) : (promote i s).agesRanked := by
  intro r
  have age : ∀ j : EntryIx, (promote i s).copy.entries[j].age = if j = i then 0
      else if s.copy.entries[j].age < s.copy.entries[i].age then s.copy.entries[j].age + 1
      else s.copy.entries[j].age := fun j => by rw [promote_entry]
  by_cases zero : r.val = 0
  · exact ⟨i, by rw [age, if_pos rfl, zero]⟩
  · by_cases low : r.val ≤ s.copy.entries[i].age
    · obtain ⟨j, e⟩ := p ⟨r.val - 1, by omega⟩
      have below : s.copy.entries[j].age < s.copy.entries[i].age := by rw [e]; show r.val - 1 < _; omega
      have other : j ≠ i := fun same => by rw [same] at below; exact lt_irrefl _ below
      refine ⟨j, ?_⟩
      rw [age, if_neg other, if_pos below, e]
      show r.val - 1 + 1 = r.val
      omega
    · obtain ⟨j, e⟩ := p r
      have other : j ≠ i := fun same => by rw [same] at e; omega
      refine ⟨j, ?_⟩
      rw [age, if_neg other, if_neg (by omega), e]

theorem releasedEntry_age (k : SlotIx) (e : CopyEntry) : (releasedEntry k e).age = e.age := by
  unfold releasedEntry
  split
  · split <;> rfl
  · rfl

theorem complete_age (k : SlotIx) (r : CmdResult) (d : Option NodeMask) (s : State) (i : EntryIx) :
    (complete k r d s).copy.entries[i].age = s.copy.entries[i].age := by
  obtain e | e := complete_entry k r d s i <;> rw [e]
  exact releasedEntry_age _ _

theorem writeEntry_age {m : EntryIx} {e : CopyEntry} {s : State} (h : e.age = s.copy.entries[m].age) (i : EntryIx) :
    (writeEntry m e s).copy.entries[i].age = s.copy.entries[i].age := by
  rw [writeEntry_entry]
  split
  · rename_i same; subst same; exact h
  · rfl

theorem vacate_age (m i : EntryIx) (s : State) : (vacate m s).copy.entries[i].age = s.copy.entries[i].age := by
  rw [vacate_entry]
  split
  · rename_i same; subst same; rfl
  · rfl

theorem agesRanked_finish {s : State} (p : s.agesRanked) (k : SlotIx) (r : CmdResult) (d : Option NodeMask) :
    (complete k r d s).agesRanked := agesRanked_of_same (complete_age k r d s) p

theorem agesRanked_move {j : SlotIx} {s t : State} (m : Move j s t) (p : s.agesRanked) : t.agesRanked := by
  cases m with
  | promote i s => exact agesRanked_promote p i
  | alike h => exact agesRanked_of_same (fun i => by rw [h.entries]) p
  | finish r d s _ => exact agesRanked_finish p j r d
  | finishHold v r s _ _ _ _ =>
    refine agesRanked_finish ?_ j _ none
    exact agesRanked_of_same (fun _ => rfl) p
  | hit i x st s _ => exact agesRanked_of_same (writeEntry_age rfl) p
  | vacate i s => exact agesRanked_of_same (fun m => vacate_age i m s) p
  | fetch i v s =>
    refine agesRanked_of_same (fun m => ?_) p
    rw [reserveFetch, writeSlot_copy]
    refine writeEntry_age ?_ m
    rfl
  | reserve i v s =>
    refine agesRanked_of_same (fun m => ?_) p
    rw [reserveVictim, writeSlot_copy]
    refine writeEntry_age ?_ m
    rfl
  | release s =>
    refine agesRanked_of_same (fun m => ?_) p
    rw [releaseReservations_entry, releasedEntry_age]
  | dropCopies s =>
    refine agesRanked_of_same (fun m => ?_) p
    rw [dropCopies_entry]; split <;> rfl
  | discard l s =>
    refine agesRanked_of_same (fun m => ?_) p
    rw [discardStranded_entry]; split <;> rfl
  | cancel s => exact agesRanked_of_same (fun m => by rw [cancelQueue_copy]) p
  | record v r s _ => exact agesRanked_of_same (fun _ => rfl) p
  | dropVictim s _ => exact agesRanked_of_same (fun _ => rfl) p
  | unhold r h s _ => exact agesRanked_of_same (fun _ => rfl) p

theorem agesRanked_start {s t : State} (h : startNext s = some t) (p : s.agesRanked) : t.agesRanked := by
  obtain ⟨k, c, rest, _, _, _, _, e⟩ := startNext_cases h
  obtain ⟨_, _, _, copy, _⟩ := startSlot_frame k c rest s
  exact agesRanked_of_same (fun i => by rw [e, copy]) p

theorem endHold_copy (r : HoldIx) (status : Status) (s : State) : (endHold r status s).copy = s.copy := by
  obtain ⟨_, e⟩ | ⟨g, _, e⟩ := endHold_cases r status s <;> rw [e]
  rfl

theorem agesRanked_grant {s t : State} (g : Grant s t) (p : s.agesRanked) : t.agesRanked := by
  cases g with
  | alike h => exact agesRanked_of_same (fun i => by rw [h.entries]) p
  | entry i st x reservation s _ => exact agesRanked_of_same (writeEntry_age rfl) p
  | promote i s => exact agesRanked_promote p i
  | vacate i s => exact agesRanked_of_same (fun m => vacate_age i m s) p
  | lapse r status s => exact agesRanked_of_same (fun m => by rw [endHold_copy]) p
  | record v r s _ => exact agesRanked_of_same (fun _ => rfl) p
  | loans joiner s => exact agesRanked_of_same (fun _ => rfl) p

theorem emptyCopy_entry (i : EntryIx) : CopyUnit.empty.entries[i] = ⟨.none, none, Value.zero, i.val, none⟩ := by
  simp only [CopyUnit.empty, Fin.getElem_fin, Vector.getElem_ofFn]

theorem agesRanked_empty {s : State} (h : s.copy = CopyUnit.empty) : s.agesRanked := fun r =>
  ⟨r, by rw [h, emptyCopy_entry]⟩

theorem popCompletion_copy (s : State) : (popCompletion s).copy = s.copy := by
  unfold popCompletion
  split <;> rfl

theorem agesRanked_turn {s t : State} (h : Turn True s t) (p : s.agesRanked) : t.agesRanked := by
  cases h with
  | move m => exact agesRanked_move m p
  | start e => exact agesRanked_start e p
  | submit b s _ => exact agesRanked_of_same (fun _ => rfl) p
  | pop s => exact agesRanked_of_same (fun i => by rw [popCompletion_copy]) p
  | softReset s => exact agesRanked_empty rfl
  | porRelease straps s => exact agesRanked_empty rfl
  | lapse r status s => exact agesRanked_of_same (fun m => by rw [endHold_copy]) p
  | tick s => exact agesRanked_of_same (fun _ => rfl) p
  | commit tn s _ committed =>
    exact endTenure_keeps (fun _ _ _ => agesRanked_move) (fun _ _ => agesRanked_start) (fun _ _ => agesRanked_grant)
      (fun _ _ _ _ _ _ _ p => agesRanked_of_same (fun _ => rfl) p) (fun k r d _ p => agesRanked_finish p k r d)
      committed p

/-! ## Hold records -/

theorem held_eq_false {s : State} {v : VarNum} (h : s.held v = false) {r : HoldIx} {g : HoldRecord}
    (active : s.holds[r] = some g) : g.var ≠ v := by
  have none' : s.holdOf v = none := by simpa [State.held] using h
  have names := List.find?_eq_none.mp none' r (List.mem_finRange r)
  intro e
  exact names (by simp [holdNames, active, e, -Fin.getElem_fin])

theorem holds_set (holds : Vector (Option HoldRecord) 4) (r q : HoldIx) (x : Option HoldRecord) :
    (holds.set r x)[q] = if r = q then x else holds[q] := by
  simp [Vector.getElem_set, Fin.ext_iff]

/-- What one turn does to the hold records: nothing, a removal, an entry of a variable not held, or a tick. -/
inductive HoldsStep (h : Vector (Option HoldRecord) 4) : Vector (Option HoldRecord) 4 → Prop where
  | same : HoldsStep h h
  | removed (r : HoldIx) : HoldsStep h (h.set r none)
  | entered (r : HoldIx) (v : VarNum) (tag : Tag) (n : Nat) (free : h[r] = none)
      (unheld : ∀ (q : HoldIx) (g : HoldRecord), h[q] = some g → g.var ≠ v) : HoldsStep h (h.set r (some ⟨v, tag, n, 0⟩))
  | cleared : HoldsStep h emptyHolds
  | ticked : HoldsStep h (Vector.ofFn fun r : HoldIx => (h[r]).map HoldRecord.tick)

theorem HoldRecord.tick_var (h : HoldRecord) : h.tick.var = h.var := by
  unfold HoldRecord.tick
  split <;> rfl

theorem HoldsStep.distinct {s t : State} (step : HoldsStep s.holds t.holds) (p : s.holdsDistinct) :
    t.holdsDistinct := by
  intro r q g h hr hq var
  generalize t.holds = holds at step hr hq
  cases step with
  | same => exact p r q g h hr hq var
  | removed m =>
    rw [holds_set] at hr hq
    split at hr
    · cases hr
    · split at hq
      · cases hq
      · exact p r q g h hr hq var
  | entered m v tag n free unheld =>
    rw [holds_set] at hr hq
    split at hr
    · split at hq
      · rename_i e e'; exact e.symm.trans e'
      · cases hr; exact absurd var.symm (unheld q h hq)
    · split at hq
      · cases hq; exact absurd var (unheld r g hr)
      · exact p r q g h hr hq var
  | cleared =>
    have none' : emptyHolds[r] = none := by simp [emptyHolds]
    rw [none'] at hr
    cases hr
  | ticked =>
    simp only [Fin.getElem_fin, Vector.getElem_ofFn, Option.map_eq_some_iff] at hr hq
    obtain ⟨g', hr, rfl⟩ := hr
    obtain ⟨h', hq, rfl⟩ := hq
    rw [HoldRecord.tick_var, HoldRecord.tick_var] at var
    exact p r q g' h' hr hq var

theorem HoldsStep.ofEq {h h' : Vector (Option HoldRecord) 4} (e : h' = h) : HoldsStep h h' := e ▸ .same

theorem endHold_holds (r : HoldIx) (status : Status) (s : State) : HoldsStep s.holds (endHold r status s).holds := by
  obtain ⟨_, e⟩ | ⟨g, _, e⟩ := endHold_cases r status s <;> rw [e]
  · exact .same
  · exact .removed r

theorem holdsStep_enter {s : State} {v : VarNum} (tag : Tag) (n : Nat) {r : HoldIx} (free : s.holds[r] = none)
    (held : s.held v = false) : HoldsStep s.holds (s.holds.set r (some ⟨v, tag, n, 0⟩)) :=
  .entered r v tag n free fun _ _ active => held_eq_false held active

theorem Move.holds {j : SlotIx} {s t : State} (m : Move j s t) : HoldsStep s.holds t.holds := by
  cases m with
  | alike h => exact .ofEq h.holds
  | finish r d s _ => exact .ofEq (complete_frame j r d s).2.2.2
  | finishHold v r s command body free held =>
    rw [(complete_frame j _ none (s.setHolds _)).2.2.2]
    exact holdsStep_enter _ _ free held
  | promote i s => rw [promote_holds]; exact .same
  | vacate i s => exact .ofEq (vacate_frame i s).2.2.2.1
  | release s => rw [releaseReservations, State.setCopy_holds]; exact .same
  | dropCopies s => rw [Machine.dropCopies, State.setCopy_holds]; exact .same
  | discard l s => rw [discardStranded, State.setCopy_holds]; exact .same
  | cancel s => rw [cancelQueue_eq]; exact .same
  | unhold r h s _ => exact .removed r
  | hit | record | fetch | reserve | dropVictim => exact .same

theorem Grant.holds {s t : State} (g : Grant s t) : HoldsStep s.holds t.holds := by
  cases g with
  | alike h => exact .ofEq h.holds
  | promote i s => rw [promote_holds]; exact .same
  | vacate i s => exact .ofEq (vacate_frame i s).2.2.2.1
  | lapse r status s => exact endHold_holds r status s
  | record | loans | entry => exact .same

theorem startNext_holds {s t : State} (h : startNext s = some t) : t.holds = s.holds := by
  obtain ⟨k, c, rest, _, _, _, _, e⟩ := startNext_cases h
  rw [e]
  exact (startSlot_frame k c rest s).2.2.2.2.1

theorem holdsDistinct_turn {s t : State} (h : Turn True s t) (p : s.holdsDistinct) : t.holdsDistinct := by
  have kept : ∀ {s t : State}, t.holds = s.holds → s.holdsDistinct → t.holdsDistinct := fun e => (HoldsStep.ofEq e).distinct
  cases h with
  | move m => exact m.holds.distinct p
  | start e => exact kept (startNext_holds e) p
  | submit b s _ => exact p
  | pop s =>
    refine kept ?_ p
    unfold popCompletion
    split <;> rfl
  | softReset s => exact HoldsStep.distinct (s := s) .cleared p
  | porRelease straps s => exact HoldsStep.distinct (s := s) .cleared p
  | lapse r status s => exact (endHold_holds r status s).distinct p
  | tick s => exact HoldsStep.distinct (s := s) .ticked p
  | commit tn s _ committed =>
    exact endTenure_keeps (fun _ _ _ m p => m.holds.distinct p) (fun _ _ e p => kept (startNext_holds e) p)
      (fun _ _ g p => g.holds.distinct p)
      (fun s v tag n r free held p => HoldsStep.distinct (s := s) (holdsStep_enter tag n free held) p)
      (fun k r d s p => kept (complete_frame k r d s).2.2.2 p) committed p

/-! ## The command queue -/

theorem Move.queue {j : SlotIx} {s t : State} (m : Move j s t) : t.port.queue = s.port.queue ∨ t.port.queue = [] := by
  cases m with
  | alike h => exact .inl h.queue
  | finish r d s _ => rw [(complete_frame j r d s).2.1]; exact .inl rfl
  | finishHold v r s _ _ _ _ => rw [(complete_frame j _ none (s.setHolds _)).2.1]; exact .inl rfl
  | promote i s => rw [Machine.promote, State.setCopy_port]; exact .inl rfl
  | vacate i s => rw [(vacate_frame i s).2.1]; exact .inl rfl
  | release s => rw [releaseReservations, State.setCopy_port]; exact .inl rfl
  | dropCopies s => rw [Machine.dropCopies, State.setCopy_port]; exact .inl rfl
  | discard l s => rw [discardStranded, State.setCopy_port]; exact .inl rfl
  | cancel s => rw [cancelQueue_eq]; exact .inr rfl
  | hit | record | fetch | reserve | dropVictim | unhold => exact .inl rfl

theorem endHold_port (r : HoldIx) (status : Status) (s : State) : (endHold r status s).port = s.port := by
  obtain ⟨_, e⟩ | ⟨g, _, e⟩ := endHold_cases r status s <;> rw [e]
  rfl

theorem Grant.queue {s t : State} (g : Grant s t) : t.port.queue = s.port.queue := by
  cases g with
  | alike h => exact h.queue
  | promote i s => rw [Machine.promote, State.setCopy_port]
  | vacate i s => rw [(vacate_frame i s).2.1]
  | lapse r status s => rw [endHold_port]
  | record | loans | entry => rfl

theorem queueFits_of_le {s t : State} (h : t.port.queue.length ≤ s.port.queue.length) (p : s.queueFits) : t.queueFits :=
  h.trans p

theorem queueFits_move {j : SlotIx} {s t : State} (m : Move j s t) (p : s.queueFits) : t.queueFits := by
  obtain e | e := m.queue
  · exact queueFits_of_le (by rw [e]) p
  · exact queueFits_of_le (by rw [e]; exact Nat.zero_le _) p

theorem queueFits_start {s t : State} (h : startNext s = some t) (p : s.queueFits) : t.queueFits := by
  obtain ⟨k, c, rest, _, _, _, perm, e⟩ := startNext_cases h
  obtain ⟨_, port, _⟩ := startSlot_frame k c rest s
  refine queueFits_of_le ?_ p
  rw [e, port, ← perm.length_eq, List.length_cons]
  exact Nat.le_succ _

theorem queueFits_turn {s t : State} (h : Turn True s t) (p : s.queueFits) : t.queueFits := by
  have kept : ∀ {s t : State}, t.port.queue = s.port.queue → s.queueFits → t.queueFits := fun e =>
    queueFits_of_le (by rw [e])
  cases h with
  | move m => exact queueFits_move m p
  | start e => exact queueFits_start e p
  | submit b s room =>
    simp only [hasRoom, Bool.and_eq_true, decide_eq_true_eq] at room
    have length : (enqueue b s).port.queue.length = s.port.queue.length + 1 := List.length_append
    show (enqueue b s).port.queue.length ≤ _
    rw [length]
    exact room.1
  | pop s =>
    refine kept ?_ p
    unfold popCompletion
    split <;> rfl
  | softReset s => exact Nat.zero_le _
  | porRelease straps s => exact Nat.zero_le _
  | lapse r status s => exact kept (by rw [endHold_port]) p
  | tick s => exact p
  | commit tn s _ committed =>
    exact endTenure_keeps (fun _ _ _ => queueFits_move) (fun _ _ => queueFits_start) (fun _ _ g => kept g.queue)
      (fun _ _ _ _ _ _ _ p => p) (fun k r d s p => kept (by rw [(complete_frame k r d s).2.1]) p) committed p

end Sys2Proof.Machine

/-!
PROOF. The home store's law, kept by every step (R3), and the holdings, which no turn but a commit hands out (R24, R66).
-/

namespace Sys2Proof.Machine

/-! ## The home store -/

/-- What is read of the store is blank or a record listed. -/
theorem homeRead_mem (l : List (Nat × HomeRecord)) (i : Nat) :
    homeRead l i = HomeRecord.blank ∨ ∃ p ∈ l, p.2 = homeRead l i := by
  induction l with
  | nil => exact .inl rfl
  | cons p rest ih =>
    obtain ⟨k, r⟩ := p
    by_cases h : k = i
    · exact .inr ⟨(k, r), List.mem_cons_self, by simp [homeRead, h]⟩
    · obtain blank | ⟨p, mem, e⟩ := ih
      · exact .inl (by simpa [homeRead, h] using blank)
      · exact .inr ⟨p, List.mem_cons_of_mem _ mem, by simpa [homeRead, h] using e⟩

/-- A write lists no record but those listed and the one written. -/
theorem mem_homeWrite {l : List (Nat × HomeRecord)} {i : Nat} {r : HomeRecord} {p : Nat × HomeRecord}
    (h : p ∈ homeWrite l i r) : p ∈ l ∨ p = (i, r) := by
  induction l with
  | nil =>
    unfold homeWrite at h
    split at h
    · cases h
    · exact .inr (List.mem_singleton.mp h)
  | cons q rest ih =>
    obtain ⟨k, x⟩ := q
    unfold homeWrite at h
    split at h
    · obtain e | mem := List.mem_cons.mp h
      · exact .inl (e ▸ List.mem_cons_self)
      · exact (ih mem).imp_left (List.mem_cons_of_mem _)
    · split at h
      · split at h
        · exact .inl (List.mem_cons_of_mem _ h)
        · obtain e | mem := List.mem_cons.mp h
          · exact .inr e
          · exact .inl (List.mem_cons_of_mem _ mem)
      · split at h
        · exact .inl h
        · obtain e | mem := List.mem_cons.mp h
          · exact .inr e
          · exact .inl mem

/-- The two laws of the home store together (R3). -/
def State.homeLaw (s : State) : Prop := s.homeCanonical ∧ s.noOwnLoan

/-- With no record lent to this node itself, none reads so. -/
theorem record_not_ownLoan {s : State} (h : s.noOwnLoan) (v : VarNum) : (s.record v).state ≠ .lent s.nodeId := by
  obtain blank | ⟨p, mem, e⟩ := homeRead_mem s.home.records (indexOf v)
  · rw [State.record, blank]; exact HomeState.noConfusion
  · rw [State.record, ← e]; exact h p mem

theorem homeLaw_of_same {s t : State} (nodeId : t.nodeId = s.nodeId) (records : t.home.records = s.home.records)
    (p : s.homeLaw) : t.homeLaw := by
  obtain ⟨canonical, loans⟩ := p
  refine ⟨?_, ?_⟩
  · rw [State.homeCanonical, records]; exact canonical
  · rw [State.noOwnLoan, records, nodeId]; exact loans

/-- A record written keeps the law if it is not newly lent to this node (R3). -/
theorem homeLaw_writeRecord {s : State} (p : s.homeLaw) (v : VarNum) {r : HomeRecord}
    (h : ∀ l, r.state = .lent l → l ≠ s.nodeId ∨ (s.record v).state = .lent l) : (writeRecord v r s).homeLaw := by
  obtain ⟨canonical, loans⟩ := p
  refine ⟨homeWrite_wf canonical _ r (indexOf_lt v), fun q mem => ?_⟩
  obtain old | rfl := mem_homeWrite mem
  · exact loans q old
  · intro lent
    obtain other | same := h _ lent
    · exact other rfl
    · exact record_not_ownLoan loans v same

/-- A record after the reclaim of the loans to a node (R18). -/
def reclaimedRecord (joiner : NodeId) (r : HomeRecord) : HomeRecord :=
  if r.state == .lent joiner then { r with state := .quiet } else r

theorem reclaimLoans_records (joiner : NodeId) (s : State) : (reclaimLoans joiner s).home.records =
    (s.home.records.map fun p => (p.1, reclaimedRecord joiner p.2)).filter fun p => p.2 != HomeRecord.blank := by
  have one : (fun p : Nat × HomeRecord => if (p.2.state == HomeState.lent joiner) = true then
      (p.1, { p.2 with state := .quiet }) else p) = fun p => (p.1, reclaimedRecord joiner p.2) := by
    funext p
    unfold reclaimedRecord
    split <;> rfl
  have records : (reclaimLoans joiner s).home.records = (s.home.records.map
      (fun p : Nat × HomeRecord => if (p.2.state == HomeState.lent joiner) = true then
        (p.1, { p.2 with state := .quiet }) else p)).filter fun p => p.2 != HomeRecord.blank := rfl
  rw [records, one]

theorem homeLaw_reclaimLoans {s : State} (p : s.homeLaw) (joiner : NodeId) : (reclaimLoans joiner s).homeLaw := by
  obtain ⟨canonical, loans⟩ := p
  refine ⟨?_, fun q mem => ?_⟩
  · rw [State.homeCanonical, reclaimLoans_records]
    exact homeMapFilter_wfFrom canonical _
  · rw [reclaimLoans_records] at mem
    obtain ⟨old, memOld, rfl⟩ := List.mem_map.mp (List.mem_filter.mp mem).1
    show (reclaimedRecord joiner old.2).state ≠ _
    unfold reclaimedRecord
    split
    · exact HomeState.noConfusion
    · exact loans old memOld

/-- A move leaves the store, or writes one record with its state as it was. -/
theorem Move.records {j : SlotIx} {s t : State} (m : Move j s t) : t.nodeId = s.nodeId ∧
    (t.home.records = s.home.records ∨ ∃ v r, r.state = (s.record v).state ∧
      t.home.records = homeWrite s.home.records (indexOf v) r) := by
  cases m with
  | alike h => exact ⟨h.nodeId, .inl h.records⟩
  | finish r d s _ =>
    obtain ⟨nodeId, _, home, _⟩ := complete_frame j r d s
    exact ⟨nodeId, .inl (by rw [home])⟩
  | finishHold v r s _ _ _ _ =>
    obtain ⟨nodeId, _, home, _⟩ := complete_frame j ⟨.ok, none⟩ none (s.setHolds _)
    exact ⟨nodeId, .inl (by rw [home]; rfl)⟩
  | promote i s => rw [Machine.promote, State.setCopy_home, State.setCopy_nodeId]; exact ⟨rfl, .inl rfl⟩
  | vacate i s =>
    obtain ⟨nodeId, _, home, _⟩ := vacate_frame i s
    exact ⟨nodeId, .inl (by rw [home])⟩
  | release s => rw [releaseReservations, State.setCopy_home, State.setCopy_nodeId]; exact ⟨rfl, .inl rfl⟩
  | dropCopies s => rw [Machine.dropCopies, State.setCopy_home, State.setCopy_nodeId]; exact ⟨rfl, .inl rfl⟩
  | discard l s => rw [discardStranded, State.setCopy_home, State.setCopy_nodeId]; exact ⟨rfl, .inl rfl⟩
  | cancel s => rw [cancelQueue_eq]; exact ⟨rfl, .inl rfl⟩
  | record v r s h => exact ⟨rfl, .inr ⟨v, r, h, rfl⟩⟩
  | hit | fetch | reserve | dropVictim | unhold => exact ⟨rfl, .inl rfl⟩

theorem homeLaw_move {j : SlotIx} {s t : State} (m : Move j s t) (p : s.homeLaw) : t.homeLaw := by
  obtain ⟨nodeId, same | ⟨v, r, state, written⟩⟩ := m.records
  · exact homeLaw_of_same nodeId same p
  · exact homeLaw_of_same (s := writeRecord v r s) nodeId written
      (homeLaw_writeRecord p v fun l lent => .inr (state ▸ lent))

theorem startNext_home {s t : State} (h : startNext s = some t) : t.nodeId = s.nodeId ∧ t.home = s.home := by
  obtain ⟨k, c, rest, _, _, _, _, e⟩ := startNext_cases h
  obtain ⟨nodeId, _, home, _⟩ := startSlot_frame k c rest s
  rw [e]
  exact ⟨nodeId, home⟩

theorem homeLaw_start {s t : State} (h : startNext s = some t) (p : s.homeLaw) : t.homeLaw := by
  obtain ⟨nodeId, home⟩ := startNext_home h
  exact homeLaw_of_same nodeId (by rw [home]) p

theorem endHold_home (r : HoldIx) (status : Status) (s : State) :
    (endHold r status s).nodeId = s.nodeId ∧ (endHold r status s).home = s.home := by
  obtain ⟨_, e⟩ | ⟨g, _, e⟩ := endHold_cases r status s <;> rw [e] <;> exact ⟨rfl, rfl⟩

theorem homeLaw_lapse {s : State} (p : s.homeLaw) (r : HoldIx) (status : Status) : (endHold r status s).homeLaw := by
  obtain ⟨nodeId, home⟩ := endHold_home r status s
  exact homeLaw_of_same nodeId (by rw [home]) p

theorem homeLaw_grant {s t : State} (g : Grant s t) (p : s.homeLaw) : t.homeLaw := by
  cases g with
  | alike h => exact homeLaw_of_same h.nodeId h.records p
  | record v r s h => exact homeLaw_writeRecord p v h
  | loans joiner s => exact homeLaw_reclaimLoans p joiner
  | promote i s => exact homeLaw_of_same (by rw [promote, State.setCopy_nodeId]) (by rw [promote, State.setCopy_home]) p
  | vacate i s =>
    obtain ⟨nodeId, _, home, _⟩ := vacate_frame i s
    exact homeLaw_of_same nodeId (by rw [home]) p
  | lapse r status s => exact homeLaw_lapse p r status
  | entry i st x reservation s _ => exact homeLaw_of_same rfl rfl p

theorem popCompletion_home (s : State) : (popCompletion s).nodeId = s.nodeId ∧ (popCompletion s).home = s.home := by
  unfold popCompletion
  split <;> exact ⟨rfl, rfl⟩

theorem homeLaw_turn {s t : State} (h : Turn True s t) (p : s.homeLaw) : t.homeLaw := by
  cases h with
  | move m => exact homeLaw_move m p
  | start e => exact homeLaw_start e p
  | submit b s _ => exact p
  | pop s =>
    obtain ⟨nodeId, home⟩ := popCompletion_home s
    exact homeLaw_of_same nodeId (by rw [home]) p
  | softReset s => exact homeLaw_of_same rfl rfl p
  | porRelease straps s => exact ⟨rfl, fun q mem => by cases mem⟩
  | lapse r status s => exact homeLaw_lapse p r status
  | tick s => exact p
  | commit tn s _ committed =>
    exact endTenure_keeps (fun _ _ _ => homeLaw_move) (fun _ _ => homeLaw_start) (fun _ _ => homeLaw_grant)
      (fun _ _ _ _ _ _ _ p => p)
      (fun k r d s p => homeLaw_of_same (complete_frame k r d s).1 (by rw [(complete_frame k r d s).2.2.1]) p)
      committed p

/-- Settles O55: every turn keeps the canonical form and lends no record to this node itself. -/
theorem homeStoreLawKept : Obligations.HomeStoreLawKept := fun _ _ canonical loans next =>
  step_keeps (fun _ _ => homeLaw_turn) next ⟨canonical, loans⟩

/-! ## Exclusive holdings -/

/-- An entry that is OWNED only where it was, and DIRTY only where it was OWNED or DIRTY. -/
def NotGranted (e e' : CopyEntry) : Prop :=
  (e'.state = .owned → e.state = .owned) ∧ (e'.state = .dirty → e.state = .owned ∨ e.state = .dirty)

theorem NotGranted.ofSame {e e' : CopyEntry} (h : e'.state = e.state) : NotGranted e e' :=
  ⟨fun o => h ▸ o, fun d => .inr (h ▸ d)⟩

theorem NotGranted.ofNone {e e' : CopyEntry} (h : e'.state = .none) : NotGranted e e' :=
  ⟨fun o => CopyState.noConfusion (h.symm.trans o), fun d => CopyState.noConfusion (h.symm.trans d)⟩

theorem NotGranted.trans {e f g : CopyEntry} (h : NotGranted e f) (k : NotGranted f g) : NotGranted e g :=
  ⟨fun o => h.1 (k.1 o), fun d => (k.2 d).elim (fun o => .inl (h.1 o)) h.2⟩

theorem releasedEntry_state (k : SlotIx) (e : CopyEntry) : (releasedEntry k e).state = e.state := by
  unfold releasedEntry
  split
  · split <;> rfl
  · rfl

/-- No entry is handed out between two states, and no record lent (R3, R24). -/
structure NothingGranted (s t : State) : Prop where
  entries : ∀ i : EntryIx, NotGranted s.copy.entries[i] t.copy.entries[i]
  records : ∀ (i : Nat) (l : NodeId), (homeRead t.home.records i).state = .lent l →
    (homeRead s.home.records i).state = .lent l
  canonical : t.homeCanonical

theorem NothingGranted.trans {s t u : State} (h : NothingGranted s t) (g : NothingGranted t u) : NothingGranted s u :=
  ⟨fun i => (h.entries i).trans (g.entries i), fun i l e => h.records i l (g.records i l e), g.canonical⟩

/-- Entries aside, the store stands. -/
theorem NothingGranted.ofHome {s t : State} (canonical : s.homeCanonical) (records : t.home.records = s.home.records)
    (entries : ∀ i : EntryIx, NotGranted s.copy.entries[i] t.copy.entries[i]) : NothingGranted s t :=
  ⟨entries, fun i l e => by rw [← records]; exact e, by rw [State.homeCanonical, records]; exact canonical⟩

theorem NothingGranted.ofCopy {s t : State} (canonical : s.homeCanonical) (records : t.home.records = s.home.records)
    (copy : t.copy = s.copy) : NothingGranted s t :=
  .ofHome canonical records fun i => .ofSame (by rw [copy])

theorem writeEntry_notGranted {m : EntryIx} {e : CopyEntry} {s : State} (h : NotGranted s.copy.entries[m] e) (i : EntryIx) :
    NotGranted s.copy.entries[i] (writeEntry m e s).copy.entries[i] := by
  rw [writeEntry_entry]
  split
  · rename_i same; subst same; exact h
  · exact .ofSame rfl

theorem complete_notGranted (k : SlotIx) (r : CmdResult) (d : Option NodeMask) (s : State) (i : EntryIx) :
    NotGranted s.copy.entries[i] (complete k r d s).copy.entries[i] := by
  obtain e | e := complete_entry k r d s i <;> rw [e]
  · exact .ofSame rfl
  · exact .ofSame (releasedEntry_state _ _)

theorem Move.entries_notGranted {j : SlotIx} {s t : State} (m : Move j s t) (i : EntryIx) :
    NotGranted s.copy.entries[i] t.copy.entries[i] := by
  cases m with
  | alike h => exact .ofSame (by rw [h.entries])
  | finish r d s _ => exact complete_notGranted j r d s i
  | finishHold v r s _ _ _ _ => exact complete_notGranted j _ none (s.setHolds _) i
  | promote m s => rw [promote_entry]; exact .ofSame rfl
  | hit m x st s h =>
    refine writeEntry_notGranted ?_ i
    obtain same | ⟨dirty, exclusive⟩ := h
    · exact .ofSame same
    · refine ⟨fun o => ?_, fun _ => ?_⟩
      · have : st = .owned := o
        rw [dirty] at this
        cases this
      · simpa [CopyEntry.exclusive] using exclusive
  | vacate m s =>
    rw [vacate_entry]
    split
    · exact .ofNone rfl
    · exact .ofSame rfl
  | fetch m v s =>
    rw [reserveFetch, writeSlot_copy]
    refine writeEntry_notGranted ?_ i
    exact .ofSame rfl
  | reserve m v s =>
    rw [reserveVictim, writeSlot_copy]
    refine writeEntry_notGranted ?_ i
    exact .ofSame rfl
  | release s => rw [releaseReservations_entry]; exact .ofSame (releasedEntry_state _ _)
  | dropCopies s =>
    rw [dropCopies_entry]
    split
    · exact .ofNone rfl
    · exact .ofSame rfl
  | discard l s =>
    rw [discardStranded_entry]
    split
    · exact .ofNone rfl
    · exact .ofSame rfl
  | cancel s => rw [cancelQueue_copy]; exact .ofSame rfl
  | record v r s _ => exact .ofSame rfl
  | dropVictim s _ => exact .ofSame rfl
  | unhold r h s _ => exact .ofSame rfl

theorem nothingGranted_move {j : SlotIx} {s t : State} (m : Move j s t) (canonical : s.homeCanonical) :
    NothingGranted s t := by
  obtain ⟨_, same | ⟨v, r, state, written⟩⟩ := m.records
  · exact .ofHome canonical same m.entries_notGranted
  · refine ⟨m.entries_notGranted, fun i l lent => ?_, ?_⟩
    · rw [written, homeRead_homeWrite canonical] at lent
      split at lent
      · rename_i own
        rw [own]
        rw [state] at lent
        exact lent
      · exact lent
    · rw [State.homeCanonical, written]
      exact homeWrite_wf canonical _ r (indexOf_lt v)

theorem nothingGranted_turn {C : Prop} (never : ¬ C) {s t : State} (h : Turn C s t) (canonical : s.homeCanonical) :
    NothingGranted s t := by
  cases h with
  | move m => exact nothingGranted_move m canonical
  | start e =>
    obtain ⟨k, c, rest, _, _, _, _, rfl⟩ := startNext_cases e
    obtain ⟨_, _, home, copy, _⟩ := startSlot_frame k c rest s
    exact .ofCopy canonical (by rw [home]) copy
  | submit b s _ => exact .ofCopy canonical rfl rfl
  | pop s => exact .ofCopy canonical (by rw [(popCompletion_home s).2]) (popCompletion_copy s)
  | softReset s =>
    refine .ofHome canonical rfl fun i => .ofNone ?_
    show CopyUnit.empty.entries[i].state = _
    rw [emptyCopy_entry]
  | porRelease straps s =>
    refine ⟨fun i => .ofNone ?_, fun i l lent => (by cases lent), rfl⟩
    show CopyUnit.empty.entries[i].state = _
    rw [emptyCopy_entry]
  | lapse r status s => exact .ofCopy canonical (by rw [(endHold_home r status s).2]) (endHold_copy r status s)
  | tick s => exact .ofCopy canonical rfl rfl
  | commit tn s c _ => exact absurd c never

theorem nothingGranted_turns {C : Prop} (never : ¬ C) {s t : State} (h : Turns C s t) (canonical : s.homeCanonical) :
    NothingGranted s t :=
  h.keeps (P := NothingGranted s) (fun _ _ turn before => before.trans (nothingGranted_turn never turn before.canonical))
    (.ofCopy canonical rfl rfl)

/-- Settles O59: of all turns only the end of a COMMITTED tenure hands a holding out. -/
theorem onlyCommitsGrant : Obligations.OnlyCommitsGrant := by
  refine ⟨fun c s t notCommitted canonical next => ?_, fun s t empty canonical next => ?_⟩
  · have never : ¬ Commits c s := fun ⟨ends, phase, tn, tenure, committed⟩ =>
      notCommitted ends phase tn tenure committed
    have granted := nothingGranted_turns never (turns_exec next) canonical
    exact ⟨fun i => (granted.entries i).1, fun i => (granted.entries i).2, granted.records⟩
  · simp only [step, empty] at next
    cases next
    have granted := nothingGranted_turns not_false (turns_idleStep s) canonical
    exact ⟨fun i => (granted.entries i).1, fun i => (granted.entries i).2, granted.records⟩

end Sys2Proof.Machine

/-!
PROOF. The credit law: every turn moves credits between their five places, and a commit that enters a hold takes a credit
that the end of its HOLD gives back (R170).
-/

namespace Sys2Proof.Machine

/-! ## Credits over four slots and four hold records -/

/-- A sum over the slots changes by the one term that changes. -/
theorem sum_slots_change {f g : Fin 4 → Nat} (k : Fin 4) (h : ∀ j : Fin 4, j ≠ k → g j = f j) :
    ((List.finRange 4).map g).sum + f k = ((List.finRange 4).map f).sum + g k := by
  have same : ((List.finRange 4).erase k).map g = ((List.finRange 4).erase k).map f :=
    List.map_congr_left fun j mem => h j ((List.Nodup.mem_erase_iff (List.nodup_finRange 4)).mp mem).1
  have split : ∀ e : Fin 4 → Nat, ((List.finRange 4).map e).sum = e k + (((List.finRange 4).erase k).map e).sum := fun e => by
    rw [((List.perm_cons_erase (List.mem_finRange k)).map e).sum_eq, List.map_cons, List.sum_cons]
  rw [split f, split g, same]
  omega

/-- Credits of a slot's command. -/
def Slot.credits (x : Slot) : Nat := x.command.elim 0 fun c => c.body.credits

theorem slotCredits_change {s t : State} (k : SlotIx)
    (h : ∀ j : SlotIx, j ≠ k → t.tracker.slots[j].command = s.tracker.slots[j].command) :
    t.slotCredits + s.tracker.slots[k].credits = s.slotCredits + t.tracker.slots[k].credits :=
  sum_slots_change (f := fun j => s.tracker.slots[j].credits) (g := fun j => t.tracker.slots[j].credits) k fun j ne => by
    simp only [Slot.credits, h j ne]

theorem slotCredits_of_same {s t : State}
    (h : ∀ k : SlotIx, t.tracker.slots[k].command = s.tracker.slots[k].command) : t.slotCredits = s.slotCredits := by
  simp only [State.slotCredits, h]

theorem activeHolds_eq_sum (s : State) :
    s.activeHolds = ((List.finRange 4).map fun r => (s.holds[r]).isSome.toNat).sum := by
  rw [State.activeHolds]
  induction List.finRange 4 with
  | nil => rfl
  | cons r rest ih =>
    rw [List.countP_cons, List.map_cons, List.sum_cons, ih, Nat.add_comm]
    cases (s.holds[r]).isSome <;> rfl

theorem activeHolds_set {s t : State} {r : HoldIx} {x : Option HoldRecord} (h : t.holds = s.holds.set r x) :
    t.activeHolds + (s.holds[r]).isSome.toNat = s.activeHolds + x.isSome.toNat := by
  rw [activeHolds_eq_sum, activeHolds_eq_sum, h]
  have change := sum_slots_change (f := fun q => (s.holds[q]).isSome.toNat)
    (g := fun q => ((s.holds.set r x)[q]).isSome.toNat) r fun q ne => by rw [holds_set, if_neg (Ne.symm ne)]
  simpa only [holds_set, if_true] using change

/-! ## The law with any sum -/

/-- The credits sum to `n`, and FREE slots carry no command. -/
def State.credited (n : Nat) (s : State) : Prop := s.creditSum = n ∧ s.freeSlotsEmpty

theorem credited_iff_creditLaw (s : State) : s.credited 16 ↔ s.creditLaw := Iff.rfl

/-- The slots keep their commands, and none becomes FREE. -/
def SlotsKept (s t : State) : Prop := ∀ k : SlotIx, t.tracker.slots[k].command = s.tracker.slots[k].command ∧
  (t.tracker.slots[k].phase = .free → s.tracker.slots[k].phase = .free)

theorem SlotsKept.ofTracker {s t : State} (h : t.tracker = s.tracker) : SlotsKept s t := fun k => by
  rw [h]; exact ⟨rfl, id⟩

theorem SlotsKept.ofAlike {s t : State} (h : ∀ k : SlotIx, SlotAlike s.tracker.slots[k] t.tracker.slots[k]) :
    SlotsKept s t := fun k => ⟨(h k).command, (h k).free⟩

/-- A slot written with the command it had, and not made FREE. -/
theorem SlotsKept.writeSlot {s : State} {k : SlotIx} {x : Slot} (command : x.command = s.tracker.slots[k].command)
    (free : x.phase = .free → s.tracker.slots[k].phase = .free) : SlotsKept s (writeSlot k x s) := fun j => by
  rw [writeSlot_slot]
  split
  · rename_i same; subst same; exact ⟨command, free⟩
  · exact ⟨rfl, id⟩

theorem SlotsKept.freeSlotsEmpty {s t : State} (h : SlotsKept s t) (p : s.freeSlotsEmpty) : t.freeSlotsEmpty :=
  fun k free => (h k).1.trans (p k ((h k).2 free))

/-- No slot changes its command, and the other places hold the same credits together. -/
theorem credited_of_places {n : Nat} {s t : State} (slots : SlotsKept s t)
    (places : t.completion.free + t.queuedCredits + t.completion.queue.length + t.activeHolds =
      s.completion.free + s.queuedCredits + s.completion.queue.length + s.activeHolds) (p : s.credited n) :
    t.credited n := by
  obtain ⟨sum, empty⟩ := p
  have same := slotCredits_of_same fun k => (slots k).1
  refine ⟨?_, slots.freeSlotsEmpty empty⟩
  unfold State.creditSum at sum ⊢
  omega

theorem credited_of_same {n : Nat} {s t : State} (slots : SlotsKept s t) (port : t.port.queue = s.port.queue)
    (completions : t.completion.queue = s.completion.queue) (credits : t.completion.free = s.completion.free)
    (holds : t.holds = s.holds) (p : s.credited n) : t.credited n :=
  credited_of_places slots (by simp only [State.queuedCredits, State.activeHolds, port, completions, credits, holds]) p

/-- Only the slots differ, and they keep their commands. -/
theorem credited_of_slots {n : Nat} {s t : State} (slots : SlotsKept s t) (port : t.port = s.port)
    (completion : t.completion = s.completion) (holds : t.holds = s.holds) (p : s.credited n) : t.credited n :=
  credited_of_same slots (by rw [port]) (by rw [completion]) (by rw [completion]) holds p

/-- What the end of a command does to the completion unit (R132). -/
theorem complete_completion {k : SlotIx} {c : Command} {s : State} (command : s.tracker.slots[k].command = some c)
    (r : CmdResult) (d : Option NodeMask) : (complete k r d s).completion = { s.completion with
      queue := s.completion.queue ++ [slotRecord c s.tracker.slots[k].tenures r d]
      free := s.completion.free + creditsReturned c.body r.status } := by
  simp only [complete, command]
  rw [writeSlot, State.setTracker_completion, releaseReservations, State.setCopy_completion]
  rfl

theorem complete_of_empty {k : SlotIx} {s : State} (command : s.tracker.slots[k].command = none) (r : CmdResult)
    (d : Option NodeMask) : complete k r d s = writeSlot k Slot.idle s := by simp only [complete, command]

theorem freeSlotsEmpty_complete {s : State} (p : s.freeSlotsEmpty) (k : SlotIx) (r : CmdResult) (d : Option NodeMask) :
    (complete k r d s).freeSlotsEmpty := fun j => by
  rw [complete_slot]
  split
  · exact fun _ => rfl
  · exact p j

/-- The end of a command: its credits but the one of its record, and but those returned, leave the sum (R132, R170). -/
theorem creditSum_complete {k : SlotIx} {c : Command} {s : State} (command : s.tracker.slots[k].command = some c)
    (r : CmdResult) (d : Option NodeMask) :
    (complete k r d s).creditSum + c.body.credits = s.creditSum + 1 + creditsReturned c.body r.status := by
  have slots := slotCredits_change (s := s) (t := complete k r d s) k fun j ne => by
    rw [complete_slot, if_neg ne.symm]
  rw [complete_slot, if_pos rfl] at slots
  have before : s.tracker.slots[k].credits = c.body.credits := by rw [Slot.credits, command]; rfl
  have idle : Slot.idle.credits = 0 := rfl
  obtain ⟨_, port, _, holds⟩ := complete_frame k r d s
  simp only [State.creditSum, State.queuedCredits, State.activeHolds, port, holds, complete_completion command,
    List.length_append, List.length_singleton] at *
  omega

theorem credits_pos (b : Body) : 1 ≤ b.credits := by
  unfold Body.credits
  split <;> decide

/-- A command's credits are the one of its record and those returned, except a HOLD's that ends OK (R107). -/
theorem creditsReturned_add_one {b : Body} {status : Status} (h : status = .ok → b.code ≠ .hold) :
    creditsReturned b status + 1 = b.credits := by
  cases b with
  | hold v n => rw [creditsReturned, if_neg fun ok => h ok rfl]; rfl
  | _ => rfl

theorem credited_finish {n : Nat} {k : SlotIx} {r : CmdResult} {s : State}
    (h : r.status = .ok → NoHold k s) (d : Option NodeMask) (p : s.credited n) : (complete k r d s).credited n := by
  refine ⟨?_, freeSlotsEmpty_complete p.2 k r d⟩
  cases command : s.tracker.slots[k].command with
  | none =>
    have slots : SlotsKept s (writeSlot k { s.tracker.slots[k] with phase := .plan } s) := .writeSlot rfl nofun
    have same : (writeSlot k Slot.idle s).slotCredits = s.slotCredits := slotCredits_of_same fun j => by
      rw [writeSlot_slot]
      split
      · rename_i e; subst e; exact command.symm
      · rfl
    rw [complete_of_empty command, ← p.1]
    unfold State.creditSum
    rw [same]
    rfl
  | some c =>
    have sum := creditSum_complete command r d
    have returned := creditsReturned_add_one (b := c.body) (status := r.status) fun ok => h ok c command
    have total := p.1
    omega

/-- A HOLD that ends OK leaves its second credit with the hold entered (R107). -/
theorem credited_finishHold {n : Nat} {k : SlotIx} {c : Command} {s : State}
    (command : s.tracker.slots[k].command = some c) (hold : c.body.code = .hold) (d : Option NodeMask)
    (p : s.credited (n + 1)) : (complete k ⟨.ok, none⟩ d s).credited n := by
  refine ⟨?_, freeSlotsEmpty_complete p.2 k _ d⟩
  obtain ⟨v, m, body⟩ := Body.eq_hold_of_code hold
  have sum := creditSum_complete command ⟨.ok, none⟩ d
  have two : c.body.credits = 2 := by rw [body]; rfl
  have none_returned : creditsReturned c.body .ok = 0 := by rw [body]; rfl
  have total := p.1
  simp only [none_returned] at sum
  omega

/-- A hold entered takes a credit more (R139). -/
theorem credited_enter {n : Nat} {s : State} {r : HoldIx} (free : s.holds[r] = none) (h : HoldRecord)
    (p : s.credited n) : (s.setHolds (s.holds.set r (some h))).credited (n + 1) := by
  refine ⟨?_, p.2⟩
  have entered := activeHolds_set (s := s) (t := s.setHolds (s.holds.set r (some h))) rfl
  rw [free] at entered
  have total := p.1
  simp only [State.creditSum, State.queuedCredits, State.slotCredits, State.setHolds_completion, State.setHolds_port,
    State.setHolds_tracker, Option.isSome_none, Option.isSome_some, Bool.toNat_false, Bool.toNat_true] at *
  omega

/-- An active hold removed gives its credit up. -/
theorem activeHolds_remove {s t : State} {r : HoldIx} {h : HoldRecord} (active : s.holds[r] = some h)
    (removed : t.holds = s.holds.set r none) : t.activeHolds + 1 = s.activeHolds := by
  have change := activeHolds_set removed
  rw [active] at change
  simpa using change

/-! ## The law kept -/

theorem sum_cancelled (l : List Command) :
    (l.map fun c => c.body.credits - 1).sum + (cancelled l).length = (l.map fun c => c.body.credits).sum := by
  induction l with
  | nil => rfl
  | cons c rest ih =>
    have pos := credits_pos c.body
    simp only [cancelled, List.map_cons, List.sum_cons, List.length_cons, List.length_map] at ih ⊢
    omega

theorem SlotsKept.vacate (i : EntryIx) (s : State) : SlotsKept s (vacate i s) := fun k => by
  rw [vacate_slot]
  split <;> exact ⟨rfl, id⟩

theorem credited_vacate {n : Nat} {s : State} (i : EntryIx) (p : s.credited n) : (vacate i s).credited n := by
  obtain ⟨_, port, _, holds, completion⟩ := vacate_frame i s
  exact credited_of_slots (.vacate i s) port completion holds p

theorem credited_promote {n : Nat} {s : State} (i : EntryIx) (p : s.credited n) : (promote i s).credited n :=
  credited_of_slots (.ofTracker (promote_tracker i s)) (by rw [promote, State.setCopy_port])
    (by rw [promote, State.setCopy_completion]) (promote_holds i s) p

theorem credited_unhold {n : Nat} {s : State} {r : HoldIx} {h : HoldRecord} (active : s.holds[r] = some h)
    (p : s.credited n) : (freeCredits 1 (removeHold r s)).credited n := by
  have removed := activeHolds_remove (t := freeCredits 1 (removeHold r s)) active rfl
  refine credited_of_places (s := s) (.ofAlike (Alike.wakeHoldWaiters _).slots) ?_ p
  show s.completion.free + 1 + s.queuedCredits + s.completion.queue.length + _ = _
  omega

theorem credited_lapse {n : Nat} {s : State} (r : HoldIx) (status : Status) (p : s.credited n) :
    (endHold r status s).credited n := by
  obtain ⟨_, e⟩ | ⟨h, active, e⟩ := endHold_cases r status s <;> rw [e]
  · exact p
  · generalize (⟨h.tag, .hold, .var h.var, status, 0, none, none⟩ : Completion) = posted
    have removed := activeHolds_remove (t := removeHold r (post posted s)) active rfl
    refine credited_of_places (s := s) (.ofAlike (Alike.wakeHoldWaiters _).slots) ?_ p
    have length : (removeHold r (post posted s)).completion.queue.length = s.completion.queue.length + 1 :=
      List.length_append
    rw [length]
    show s.completion.free + s.queuedCredits + _ + _ = _
    omega

theorem credited_move {n : Nat} {j : SlotIx} {s t : State} (m : Move j s t) (p : s.credited n) : t.credited n := by
  cases m with
  | alike h => exact credited_of_same (.ofAlike h.slots) h.queue h.completions h.credits h.holds p
  | finish r d s h => exact credited_finish h d p
  | finishHold v r s command body free _ =>
    exact credited_finishHold (s := s.setHolds (s.holds.set r _)) command (by rw [body]; rfl) none (credited_enter free _ p)
  | promote i s => exact credited_promote i p
  | vacate i s => exact credited_vacate i p
  | fetch i v s =>
    refine credited_of_slots (s := s) ?_ rfl rfl rfl p
    exact SlotsKept.writeSlot (s := writeEntry i _ s) rfl id
  | reserve i v s =>
    refine credited_of_slots (s := s) ?_ rfl rfl rfl p
    exact SlotsKept.writeSlot (s := writeEntry i _ s) rfl id
  | release s =>
    exact credited_of_slots (.ofTracker (releaseReservations_tracker j s)) (by rw [releaseReservations, State.setCopy_port])
      (by rw [releaseReservations, State.setCopy_completion]) (by rw [releaseReservations, State.setCopy_holds]) p
  | dropVictim s _ =>
    refine credited_of_slots (s := s) ?_ rfl rfl rfl p
    exact SlotsKept.writeSlot (s := s) rfl id
  | dropCopies s =>
    exact credited_of_slots (.ofTracker (dropCopies_tracker s)) (by rw [Machine.dropCopies, State.setCopy_port])
      (by rw [Machine.dropCopies, State.setCopy_completion]) (by rw [Machine.dropCopies, State.setCopy_holds]) p
  | discard l s =>
    exact credited_of_slots (.ofTracker (discardStranded_tracker l s)) (by rw [discardStranded, State.setCopy_port])
      (by rw [discardStranded, State.setCopy_completion]) (by rw [discardStranded, State.setCopy_holds]) p
  | cancel s =>
    refine credited_of_places (.ofTracker (cancelQueue_tracker s)) ?_ p
    have sum := sum_cancelled s.port.queue
    rw [cancelQueue_eq]
    simp only [State.queuedCredits, State.activeHolds, State.setCompletion_completion, State.setCompletion_port,
      State.setPort_port, State.setCompletion_holds, State.setPort_holds, List.map_nil, List.sum_nil,
      List.length_append]
    omega
  | unhold r h s active => exact credited_unhold active p
  | record v r s _ => exact credited_of_slots (.ofTracker rfl) rfl rfl rfl p
  | hit i x st s _ => exact credited_of_slots (.ofTracker rfl) rfl rfl rfl p

theorem credited_start {n : Nat} {s t : State} (h : startNext s = some t) (p : s.credited n) : t.credited n := by
  obtain ⟨k, c, rest, _, free, _, perm, e⟩ := startNext_cases h
  obtain ⟨_, port, _, _, holds, completion⟩ := startSlot_frame k c rest s
  have slot := startSlot_slot k k c rest s
  rw [if_pos rfl] at slot
  have slots := slotCredits_change (s := s) (t := startSlot k c rest s) k fun j ne => by
    rw [startSlot_slot, if_neg ne.symm]
  have before : s.tracker.slots[k].credits = 0 := by rw [Slot.credits, p.2 k free]; rfl
  have after : (startSlot k c rest s).tracker.slots[k].credits = c.body.credits := by rw [slot]; rfl
  have queued := (perm.map fun c => c.body.credits).sum_eq
  rw [List.map_cons, List.sum_cons] at queued
  have total := p.1
  subst e
  refine ⟨?_, fun j => ?_⟩
  · simp only [State.creditSum, State.queuedCredits, State.activeHolds, port, holds, completion] at *
    omega
  · rw [startSlot_slot]
    split
    · nofun
    · exact p.2 j

theorem credited_grant {n : Nat} {s t : State} (g : Grant s t) (p : s.credited n) : t.credited n := by
  cases g with
  | alike h => exact credited_move (j := 0) (.alike h) p
  | promote i s => exact credited_promote i p
  | vacate i s => exact credited_vacate i p
  | lapse r status s => exact credited_lapse r status p
  | record v r s _ => exact credited_of_slots (.ofTracker rfl) rfl rfl rfl p
  | loans joiner s => exact credited_of_same (.ofTracker rfl) rfl rfl rfl rfl p
  | entry i st x reservation s _ => exact credited_of_slots (.ofTracker rfl) rfl rfl rfl p

/-- At the end of a COMMITTED tenure the command applied gives back what the hold it entered took (R107, R127). -/
theorem credited_commit {n : Nat} {tn : Tenure} (committed : tn.outcome = some .committed) {s : State}
    (p : s.credited n) : (endTenure tn s).credited n := by
  have plan : ∀ m k s, s.credited m → (planSlot k s).credited m := fun m k s =>
    (moves_planSlot k s).keeps fun j s t _ => credited_move
  have settles : ∀ s, s.credited n → (settle s).credited n := fun s =>
    settle_keeps (State.credited n) (plan n) (fun _ _ p e => credited_start e p) s
  have commands := fun k => ((Alike.committedState tn s).slots k).command
  have kept : ∀ m, (commitTenure tn s).1.credited m → (committedState tn s).credited m := fun m =>
    credited_move (j := 0) (.alike (.committedState tn s))
  have below : ∀ m k u, u.credited m → (plansBelow k Config.settleBound u).credited m := fun m k =>
    plansBelow_keeps (State.credited m) (plan m) k _
  have belowCommand : ∀ (k : SlotIx) u, (plansBelow k Config.settleBound u).tracker.slots[k].command =
      u.tracker.slots[k].command := fun k u =>
    (movesBelow_plansBelow k Config.settleBound u).keeps
      (P := fun w => w.tracker.slots[k].command = u.tracker.slots[k].command)
      (fun j _ _ lt m e => (m.command (ne_of_gt lt)).trans e) rfl
  rw [endTenure_of_committed committed]
  obtain ⟨u, grants, applied⟩ := committed_commitTenure tn s
  have before := grants.keeps (P := State.credited n) (fun _ _ => credited_grant) p
  generalize (commitTenure tn s).1 = t, (commitTenure tn s).2 = r at applied kept commands
  cases applied with
  | plain u r noHold =>
    cases sends : s.link.sender with
    | none => exact settles _ (kept n before)
    | some k =>
      rw [slotTurns_committed]
      refine settles _ ?_
      have turns := below n k _ (kept n before)
      obtain ⟨x, d, e, result⟩ | ⟨_, e⟩ := deliverCommit_cases k r (some (tn.h1.getD 0#16 &&& tn.present))
        (plansBelow k Config.settleBound (committedState tn s)) <;> rw [e]
      · refine credited_finish (fun ok c command => ?_) d turns
        obtain result | ⟨_, other⟩ := result
        · exact noHold x k c result ok sends (((belowCommand k _).trans (commands k)).symm.trans command)
        · exact other c command
      · exact credited_move (j := k) (.alike (.replan k _)) turns
  | hold v r u sends command body free held =>
    rename_i k c w m
    rw [sends, slotTurns_committed]
    refine settles _ ?_
    have entered := below (n + 1) k _ (kept (n + 1) (credited_enter free _ before))
    have command' : (plansBelow k Config.settleBound (committedState tn s)).tracker.slots[k].command = some c :=
      ((belowCommand k _).trans (commands k)).trans command
    exact credited_finishHold command' (by rw [body]; rfl) none entered

/-! ## Turns -/

theorem credited_submit {n : Nat} {s : State} {b : Body} (room : hasRoom s b = true) (p : s.credited n) :
    (enqueue b s).credited n := by
  simp only [hasRoom, Bool.and_eq_true, decide_eq_true_eq] at room
  obtain ⟨_, free⟩ := room
  refine credited_of_places (s := s) (.ofTracker rfl) ?_ p
  have queued : (enqueue b s).queuedCredits = s.queuedCredits + b.credits := by
    simp [enqueue, State.queuedCredits]
  rw [queued]
  show s.completion.free - b.credits + (s.queuedCredits + b.credits) + s.completion.queue.length + s.activeHolds = _
  omega

theorem credited_pop {n : Nat} {s : State} (p : s.credited n) : (popCompletion s).credited n := by
  cases queue : s.completion.queue with
  | nil => rw [popCompletion_of_empty queue]; exact p
  | cons c rest =>
    rw [popCompletion_of_cons queue]
    refine credited_of_places (s := s) (.ofTracker rfl) ?_ p
    rw [queue, List.length_cons]
    show s.completion.free + 1 + s.queuedCredits + rest.length + s.activeHolds = _
    omega

theorem emptyTracker_slot (k : SlotIx) : Tracker.empty.slots[k] = Slot.idle := by
  simp [Tracker.empty]

/-- After either reset all credits are free (R178). -/
theorem creditLaw_of_reset {s : State} (tracker : s.tracker = Tracker.empty) (queue : s.port.queue = [])
    (holds : s.holds = emptyHolds) (completions : s.completion.queue = []) (free : s.completion.free = Config.credits) :
    s.creditLaw := by
  refine ⟨?_, fun k _ => by rw [tracker, emptyTracker_slot]; rfl⟩
  have sum : (State.reset).creditSum = Config.credits := by decide
  rw [← sum]
  simp only [State.creditSum, State.queuedCredits, State.slotCredits, State.activeHolds, tracker, queue, holds,
    completions, free]
  rfl

theorem activeHolds_tick (s : State) : (runTimers s).activeHolds = s.activeHolds := by
  have same : ∀ r : HoldIx, ((runTimers s).holds[r]).isSome = (s.holds[r]).isSome := fun r => by
    have tick : (runTimers s).holds = Vector.ofFn fun r : HoldIx => (s.holds[r]).map HoldRecord.tick := rfl
    simp [tick]
  simp only [State.activeHolds, same]

theorem SlotsKept.tick (s : State) : SlotsKept s (runTimers s) := fun k => by
  have slot : (runTimers s).tracker.slots[k] = (s.tracker.slots[k]).tick := by
    simp [runTimers]
  rw [slot]
  unfold Slot.tick
  split <;> exact ⟨rfl, id⟩

theorem creditLaw_turn {s t : State} (h : Turn True s t) (p : s.creditLaw) : t.creditLaw := by
  have q : s.credited 16 := p
  cases h with
  | move m => exact credited_move m q
  | start e => exact credited_start e q
  | submit b s room => exact credited_submit room q
  | pop s => exact credited_pop q
  | softReset s => exact creditLaw_of_reset rfl rfl rfl rfl rfl
  | porRelease straps s => exact creditLaw_of_reset rfl rfl rfl rfl rfl
  | lapse r status s => exact credited_lapse r status q
  | tick s =>
    refine credited_of_places (.tick s) ?_ q
    rw [activeHolds_tick]
    rfl
  | commit tn s _ committed => exact credited_commit committed q

/-- Settles O54: every turn moves credits and makes or loses none. -/
theorem creditLawKept : Obligations.CreditLawKept := fun _ _ law next => step_keeps (fun _ _ => creditLaw_turn) next law

end Sys2Proof.Machine

/-!
PROOF. The laws of the copy table's tags and reservations, kept by every turn (R23, R26), and with them O57.
-/

namespace Sys2Proof.Machine

/-! ## Tables that shrink -/

/-- An entry that keeps its tag or loses it, and keeps its reservation with its tag or loses that. -/
structure EntryShrinks (e e' : CopyEntry) : Prop where
  tag : ∀ v, e'.tag = some v → e.tag = some v
  reserved : ∀ k, e'.reservedBy = some k → e.reservedBy = some k ∧ e'.tag = e.tag

theorem EntryShrinks.ofSame {e e' : CopyEntry} (tag : e'.tag = e.tag) (reserved : e'.reservedBy = e.reservedBy) :
    EntryShrinks e e' := ⟨fun _ h => tag ▸ h, fun _ h => ⟨reserved ▸ h, tag⟩⟩

theorem EntryShrinks.refl (e : CopyEntry) : EntryShrinks e e := .ofSame rfl rfl

theorem EntryShrinks.ofUnreserved {e e' : CopyEntry} (tag : e'.tag = none ∨ e'.tag = e.tag)
    (reserved : e'.reservedBy = none) : EntryShrinks e e' :=
  ⟨fun v h => by obtain e | e := tag <;> rw [e] at h <;> [cases h; exact h],
    fun k h => by rw [reserved] at h; cases h⟩

theorem releasedEntry_shrinks (k : SlotIx) (e : CopyEntry) : EntryShrinks e (releasedEntry k e) := by
  unfold releasedEntry
  split
  · split
    · exact .ofUnreserved (.inl rfl) rfl
    · exact .ofUnreserved (.inr rfl) rfl
  · exact .refl e

/-- A slot that names the variable, and has the victim, that it had. -/
theorem slotVar_of_alike {s t : State} {k : SlotIx} (h : SlotAlike s.tracker.slots[k] t.tracker.slots[k]) :
    t.slotVar k = s.slotVar k := slotVar_of_command h.command

theorem slotVar_of_idle {s : State} {k : SlotIx} (h : s.tracker.slots[k] = Slot.idle) : s.slotVar k = none := by
  simp only [State.slotVar, State.slotBody, h, Slot.idle, Option.map_none, Option.bind_none]

/-- Entries that shrink, and slots alike, or idle with nothing reserved for them, keep the laws. -/
theorem copyLaw_of_shrunk {s t : State} (nodeId : t.nodeId = s.nodeId)
    (entries : ∀ i : EntryIx, EntryShrinks s.copy.entries[i] t.copy.entries[i])
    (slots : ∀ k : SlotIx, SlotAlike s.tracker.slots[k] t.tracker.slots[k] ∨
      (t.tracker.slots[k] = Slot.idle ∧ ∀ i : EntryIx, t.copy.entries[i].reservedBy ≠ some k))
    (p : s.copyLaw) : t.copyLaw := by
  obtain ⟨unique, foreign, one, backed, distinct, empty⟩ := p
  have vars : ∀ k v, t.slotVar k = some v → s.slotVar k = some v := fun k v h => by
    obtain same | ⟨idle, _⟩ := slots k
    · rw [← slotVar_of_alike same]; exact h
    · rw [slotVar_of_idle idle] at h; cases h
  refine ⟨fun i j v hi hj => unique i j v ((entries i).tag v hi) ((entries j).tag v hj), fun i v h => ?_,
    fun i j k hi hj => one i j k ((entries i).reserved k hi).1 ((entries j).reserved k hj).1, fun i k h => ?_,
    fun j k v hj hk => distinct j k v (vars j v hj) (vars k v hk), fun k free => ?_⟩
  · rw [nodeId]; exact foreign i v ((entries i).tag v h)
  · obtain ⟨reserved, tag⟩ := (entries i).reserved k h
    obtain ⟨v, var, home, carried⟩ := backed i k reserved
    obtain same | ⟨_, none_reserved⟩ := slots k
    · refine ⟨v, (slotVar_of_alike same).trans var, by rw [nodeId]; exact home, ?_⟩
      obtain tagged | ⟨victim, untagged⟩ := carried
      · exact .inl (tag.trans tagged)
      · exact .inr ⟨same.victim.trans victim, fun j e => untagged j ((entries j).tag v e)⟩
    · exact absurd h (none_reserved i)
  · obtain same | ⟨idle, _⟩ := slots k
    · exact same.command.trans (empty k (same.free free))
    · rw [idle]; rfl

theorem SlotAlike.ofTracker {s t : State} (h : t.tracker = s.tracker) (k : SlotIx) :
    SlotAlike s.tracker.slots[k] t.tracker.slots[k] := by rw [h]; exact .refl _

theorem copyLaw_of_entries {s t : State} (nodeId : t.nodeId = s.nodeId) (tracker : t.tracker = s.tracker)
    (entries : ∀ i : EntryIx, EntryShrinks s.copy.entries[i] t.copy.entries[i]) (p : s.copyLaw) : t.copyLaw :=
  copyLaw_of_shrunk nodeId entries (fun k => .inl (.ofTracker tracker k)) p

theorem copyLaw_of_alike {s t : State} (h : Alike s t) (p : s.copyLaw) : t.copyLaw :=
  copyLaw_of_shrunk h.nodeId (fun i => by rw [h.entries]; exact .refl _) (fun k => .inl (h.slots k)) p

/-- A slot without a command has no entry reserved (R26). -/
theorem unreserved_of_empty {s : State} (p : s.copyLaw) {k : SlotIx} (h : s.tracker.slots[k].command = none)
    (i : EntryIx) : s.copy.entries[i].reservedBy ≠ some k := fun reserved => by
  obtain ⟨_, _, _, backed, _⟩ := p
  obtain ⟨v, var, _⟩ := backed i k reserved
  simp only [State.slotVar, State.slotBody, h, Option.map_none, Option.bind_none] at var
  cases var

/-- The end of a command releases what its slot has reserved (R37). -/
theorem complete_unreserved {s : State} {k : SlotIx} (h : s.tracker.slots[k].command = none →
    ∀ i : EntryIx, s.copy.entries[i].reservedBy ≠ some k) (r : CmdResult) (d : Option NodeMask) (i : EntryIx) :
    (complete k r d s).copy.entries[i].reservedBy ≠ some k := by
  obtain ⟨command, e⟩ | ⟨c, _, e⟩ := complete_cases k r d s
  · rw [e, writeSlot_copy]
    exact h command i
  · rw [e, writeSlot_copy, releaseReservations_entry, releasedEntry_reservedBy]
    split
    · nofun
    · assumption

theorem copyLaw_finish {s : State} (p : s.copyLaw) (k : SlotIx) (r : CmdResult) (d : Option NodeMask) :
    (complete k r d s).copyLaw := by
  have slot := complete_slot k (r := r) (d := d) (s := s)
  have others : ∀ j : SlotIx, j ≠ k → SlotAlike s.tracker.slots[j] (complete k r d s).tracker.slots[j] := fun j ne => by
    rw [slot, if_neg ne.symm]; exact .refl _
  refine copyLaw_of_shrunk (complete_frame k r d s).1 (fun i => ?_) (fun j => ?_) p
  · obtain e | e := complete_entry k r d s i <;> rw [e]
    · exact .refl _
    · exact releasedEntry_shrinks k _
  · by_cases same : j = k
    · subst same
      exact .inr ⟨by rw [slot, if_pos rfl], complete_unreserved (unreserved_of_empty p) r d⟩
    · exact .inl (others j same)

/-! ## Entries reserved, and reserved entries that become NONE -/

/-- A slot's one reservation, given or passed on: entry `i` reserved by slot `k`, which names `v`; only `i` may carry `v`'s
tag, and no other entry changes (R23, R26). -/
theorem copyLaw_of_reserved {s t : State} (p : s.copyLaw) {i : EntryIx} {k : SlotIx} {v : VarNum} (nodeId : t.nodeId = s.nodeId)
    (others : ∀ j : EntryIx, j ≠ i → t.copy.entries[j] = s.copy.entries[j] ∧ s.copy.entries[j].reservedBy ≠ some k)
    (commands : ∀ j : SlotIx, t.tracker.slots[j].command = s.tracker.slots[j].command ∧
      (t.tracker.slots[j].phase = .free → s.tracker.slots[j].phase = .free))
    (victims : ∀ j : SlotIx, j ≠ k → t.tracker.slots[j].victim = s.tracker.slots[j].victim)
    (reserved : t.copy.entries[i].reservedBy = some k) (var : s.slotVar k = some v) (foreign : homeOf v ≠ s.nodeId)
    (tag : t.copy.entries[i].tag = some v ∧ (∀ j : EntryIx, j ≠ i → s.copy.entries[j].tag ≠ some v) ∨
      t.copy.entries[i].tag = s.copy.entries[i].tag ∧ t.tracker.slots[k].victim = some i ∧
        ∀ j : EntryIx, s.copy.entries[j].tag ≠ some v) : t.copyLaw := by
  obtain ⟨unique, foreigns, one, backed, distinct, empty⟩ := p
  have vars : ∀ j, t.slotVar j = s.slotVar j := fun j => slotVar_of_command (commands j).1
  have at_i : ∀ w, t.copy.entries[i].tag = some w → w = v ∧ (∀ j : EntryIx, j ≠ i → s.copy.entries[j].tag ≠ some w) ∨
      s.copy.entries[i].tag = some w := fun w h => by
    obtain ⟨carried, untagged⟩ | ⟨same, _⟩ := tag
    · have e : v = w := Option.some.inj (carried.symm.trans h)
      exact .inl ⟨e.symm, e ▸ untagged⟩
    · exact .inr (same ▸ h)
  refine ⟨fun m j w hm hj => ?_, fun m w h => ?_, fun m j q hm hj => ?_, fun m q h => ?_, fun m j w hm hj => ?_,
    fun j free => ?_⟩
  · by_cases em : m = i <;> by_cases ej : j = i
    · rw [em, ej]
    · subst em
      rw [(others j ej).1] at hj
      obtain ⟨_, untagged⟩ | old := at_i w hm
      · exact absurd hj (untagged j ej)
      · exact unique _ _ w old hj
    · subst ej
      rw [(others m em).1] at hm
      obtain ⟨_, untagged⟩ | old := at_i w hj
      · exact absurd hm (untagged m em)
      · exact unique _ _ w hm old
    · rw [(others m em).1] at hm
      rw [(others j ej).1] at hj
      exact unique m j w hm hj
  · rw [nodeId]
    by_cases em : m = i
    · subst em
      obtain ⟨rfl, _⟩ | old := at_i w h
      · exact foreign
      · exact foreigns _ w old
    · rw [(others m em).1] at h
      exact foreigns m w h
  · by_cases em : m = i <;> by_cases ej : j = i
    · rw [em, ej]
    · subst em
      rw [(others j ej).1] at hj
      exact absurd (hj.trans (hm.symm.trans reserved)) (others j ej).2
    · subst ej
      rw [(others m em).1] at hm
      exact absurd (hm.trans (hj.symm.trans reserved)) (others m em).2
    · rw [(others m em).1] at hm
      rw [(others j ej).1] at hj
      exact one m j q hm hj
  · by_cases em : m = i
    · subst em
      have q_eq : k = q := Option.some.inj (reserved.symm.trans h)
      subst q_eq
      refine ⟨v, (vars k).trans var, by rw [nodeId]; exact foreign, ?_⟩
      obtain ⟨carried, _⟩ | ⟨same, victim, untagged⟩ := tag
      · exact .inl carried
      · refine .inr ⟨victim, fun j e => ?_⟩
        by_cases ej : j = m
        · subst ej; rw [same] at e; exact untagged j e
        · rw [(others j ej).1] at e; exact untagged j e
    · obtain ⟨entry, ne⟩ := others m em
      rw [entry] at h
      have other : q ≠ k := fun e => ne (e ▸ h)
      obtain ⟨w, var', home, carried⟩ := backed m q h
      refine ⟨w, (vars q).trans var', by rw [nodeId]; exact home, ?_⟩
      obtain tagged | ⟨victim, untagged⟩ := carried
      · exact .inl (by rw [entry]; exact tagged)
      · refine .inr ⟨(victims q other).trans victim, fun j e => ?_⟩
        by_cases ej : j = i
        · subst ej
          obtain ⟨rfl, _⟩ | old := at_i w e
          · exact other (distinct q k _ var' var)
          · exact untagged _ old
        · rw [(others j ej).1] at e
          exact untagged j e
  · rw [vars] at hm hj
    exact distinct m j w hm hj
  · exact (commands j).1.trans (empty j ((commands j).2 free))

/-- A slot that names a variable no entry carries, and has no victim, has no reservation (R26). -/
theorem unreserved_of_untagged {s : State} (p : s.copyLaw) {k : SlotIx} {v : VarNum} (var : s.slotVar k = some v)
    (untagged : ∀ m : EntryIx, s.copy.entries[m].tag ≠ some v) (victim : s.tracker.slots[k].victim = none)
    (i : EntryIx) : s.copy.entries[i].reservedBy ≠ some k := fun reserved => by
  obtain ⟨_, _, _, backed, _⟩ := p
  obtain ⟨w, var', _, tagged | ⟨victim', _⟩⟩ := backed i k reserved
  · cases Option.some.inj (var.symm.trans var'); exact untagged i tagged
  · cases victim.symm.trans victim'

/-- A slot written with its command kept, and no slot made FREE. -/
theorem writeSlot_commands {s : State} {k : SlotIx} {x : Slot} (command : x.command = s.tracker.slots[k].command)
    (phase : x.phase = .free → s.tracker.slots[k].phase = .free) (j : SlotIx) :
    (writeSlot k x s).tracker.slots[j].command = s.tracker.slots[j].command ∧
      ((writeSlot k x s).tracker.slots[j].phase = .free → s.tracker.slots[j].phase = .free) :=
  SlotsKept.writeSlot command phase j

theorem writeSlot_other {k j : SlotIx} (ne : j ≠ k) (x : Slot) (s : State) :
    (writeSlot k x s).tracker.slots[j] = s.tracker.slots[j] := by rw [writeSlot_slot, if_neg ne.symm]

theorem writeEntry_other {i j : EntryIx} (ne : j ≠ i) (e : CopyEntry) (s : State) :
    (writeEntry i e s).copy.entries[j] = s.copy.entries[j] := by rw [writeEntry_entry, if_neg ne.symm]

theorem writeEntry_same (i : EntryIx) (e : CopyEntry) (s : State) : (writeEntry i e s).copy.entries[i] = e := by
  rw [writeEntry_entry, if_pos rfl]

theorem copyLaw_fetch {s : State} (p : s.copyLaw) {k : SlotIx} {v : VarNum} (i : EntryIx)
    (var : s.slotVar k = some v) (foreign : homeOf v ≠ s.nodeId)
    (untagged : ∀ m : EntryIx, s.copy.entries[m].tag ≠ some v) (victim : s.tracker.slots[k].victim = none) :
    (reserveFetch k i v s).copyLaw := by
  have entry : (reserveFetch k i v s).copy.entries[i] = { s.copy.entries[i] with tag := some v, reservedBy := some k } :=
    writeEntry_same i _ s
  refine copyLaw_of_reserved p (i := i) (k := k) (v := v) rfl
    (fun j ne => ⟨writeEntry_other ne _ s, unreserved_of_untagged p var untagged victim j⟩)
    (fun j => ?_)
    (fun j ne => ?_) (by rw [entry]) var foreign (.inl ⟨by rw [entry], fun j _ => untagged j⟩)
  · refine writeSlot_commands ?_ ?_ j
    · rfl
    · exact id
  · rw [reserveFetch, writeSlot_other ne, writeEntry_tracker]

theorem copyLaw_reserve {s : State} (p : s.copyLaw) {k : SlotIx} {v : VarNum} (i : EntryIx)
    (var : s.slotVar k = some v) (foreign : homeOf v ≠ s.nodeId)
    (untagged : ∀ m : EntryIx, s.copy.entries[m].tag ≠ some v) (victim : s.tracker.slots[k].victim = none) :
    (reserveVictim k i s).copyLaw := by
  have entry : (reserveVictim k i s).copy.entries[i] = { s.copy.entries[i] with reservedBy := some k } :=
    writeEntry_same i _ s
  have slot : (reserveVictim k i s).tracker.slots[k].victim = some i := by
    rw [reserveVictim, writeSlot_slot, if_pos rfl]
  refine copyLaw_of_reserved p (i := i) (k := k) (v := v) rfl
    (fun j ne => ⟨writeEntry_other ne _ s, unreserved_of_untagged p var untagged victim j⟩)
    (fun j => ?_)
    (fun j ne => ?_) (by rw [entry]) var foreign (.inr ⟨by rw [entry], slot, untagged⟩)
  · refine writeSlot_commands ?_ ?_ j
    · rfl
    · exact id
  · rw [reserveVictim, writeSlot_other ne, writeEntry_tracker]

/-- An entry that becomes NONE: untagged, or in the fetch form of the slot that has reserved it (R23, R26). -/
theorem copyLaw_vacate {s : State} (p : s.copyLaw) (i : EntryIx) : (vacate i s).copyLaw := by
  cases reserved : s.copy.entries[i].reservedBy with
  | none =>
    rw [vacate_of_unreserved reserved]
    refine copyLaw_of_entries (s := s) rfl rfl (fun j => ?_) p
    rw [writeEntry_entry]
    split
    · rename_i same; subst same; exact .ofUnreserved (.inl rfl) reserved
    · exact .refl _
  | some k =>
    have whole := p
    obtain ⟨unique, _, one, backed, _, _⟩ := whole
    obtain ⟨v, var, foreign, carried⟩ := backed i k reserved
    rw [vacate_of_reserved reserved]
    have entry : ∀ e : CopyEntry, ((writeSlot k { s.tracker.slots[k] with entry := some i, victim := none }
        (writeEntry i e s))).copy.entries[i] = e := fun e => writeEntry_same i e s
    refine copyLaw_of_reserved p (i := i) (k := k) (v := v) rfl
      (fun j ne => ⟨writeEntry_other ne _ s, fun other => ne (one j i k other reserved)⟩)
      (fun j => ?_)
      (fun j ne => by rw [writeSlot_other ne, writeEntry_tracker]) (by rw [entry]; exact reserved) var foreign
      (.inl ⟨by rw [entry]; exact var, fun j ne tagged => ?_⟩)
    · refine writeSlot_commands ?_ ?_ j
      · rfl
      · exact id
    obtain old | ⟨_, untagged⟩ := carried
    · exact ne (unique j i v tagged old)
    · exact untagged j tagged

/-! ## The laws kept -/

theorem writeEntry_shrinks {m : EntryIx} {e : CopyEntry} {s : State} (h : EntryShrinks s.copy.entries[m] e) (i : EntryIx) :
    EntryShrinks s.copy.entries[i] (writeEntry m e s).copy.entries[i] := by
  rw [writeEntry_entry]
  split
  · rename_i same; subst same; exact h
  · exact .refl _

theorem copyLaw_promote {s : State} (p : s.copyLaw) (i : EntryIx) : (promote i s).copyLaw :=
  copyLaw_of_entries (by rw [promote, State.setCopy_nodeId]) (promote_tracker i s)
    (fun j => by rw [promote_entry]; exact .ofSame rfl rfl) p

theorem copyLaw_move {j : SlotIx} {s t : State} (m : Move j s t) (p : s.copyLaw) : t.copyLaw := by
  cases m with
  | alike h => exact copyLaw_of_alike h p
  | finish r d s _ => exact copyLaw_finish p j r d
  | finishHold v r s _ _ _ _ => exact copyLaw_finish (s := s.setHolds (s.holds.set r _)) p j _ none
  | promote i s => exact copyLaw_promote p i
  | hit i x st s _ =>
    refine copyLaw_of_entries (s := s) rfl rfl (writeEntry_shrinks ?_) p
    exact .ofSame rfl rfl
  | vacate i s => exact copyLaw_vacate p i
  | fetch i v s _ var foreign untagged victim => exact copyLaw_fetch p i var foreign untagged victim
  | reserve i v s _ var foreign untagged victim => exact copyLaw_reserve p i var foreign untagged victim
  | release s =>
    refine copyLaw_of_entries (by rw [releaseReservations, State.setCopy_nodeId]) (releaseReservations_tracker j s)
      (fun i => ?_) p
    rw [releaseReservations_entry]
    exact releasedEntry_shrinks j _
  | dropVictim s free =>
    obtain ⟨unique, foreigns, one, backed, distinct, empty⟩ := p
    have commands := fun k => writeSlot_commands (s := s) (k := j) (x := { s.tracker.slots[j] with victim := none }) rfl id k
    have vars : ∀ k, (writeSlot j { s.tracker.slots[j] with victim := none } s).slotVar k = s.slotVar k := fun k =>
      slotVar_of_command (commands k).1
    refine ⟨unique, foreigns, one, fun i k h => ?_, fun a b v ha hb => ?_, fun k e => ?_⟩
    · obtain ⟨v, var, home, carried⟩ := backed i k h
      refine ⟨v, (vars k).trans var, home, ?_⟩
      have ne : k ≠ j := fun e => free i (e ▸ h)
      rw [writeSlot_other ne]
      exact carried
    · rw [vars] at ha hb
      exact distinct a b v ha hb
    · exact (commands k).1.trans (empty k ((commands k).2 e))
  | dropCopies s =>
    refine copyLaw_of_entries (by rw [Machine.dropCopies, State.setCopy_nodeId]) (dropCopies_tracker s) (fun i => ?_) p
    rw [dropCopies_entry]
    split
    · rename_i h; exact .ofUnreserved (.inl rfl) h.2.1
    · exact .refl _
  | discard l s =>
    refine copyLaw_of_entries (by rw [discardStranded, State.setCopy_nodeId]) (discardStranded_tracker l s) (fun i => ?_) p
    rw [discardStranded_entry]
    split
    · exact .ofUnreserved (.inl rfl) rfl
    · exact .refl _
  | cancel s =>
    exact copyLaw_of_entries (by rw [cancelQueue_eq]; rfl) (cancelQueue_tracker s)
      (fun i => by rw [cancelQueue_copy]; exact .refl _) p
  | unhold r h s _ =>
    have woken := copyLaw_of_alike (Alike.wakeHoldWaiters (s.setHolds (s.holds.set r none))) p
    exact woken
  | record v r s _ => exact p

/-- The variable of a record that may start is named by no busy slot (R100). -/
theorem eligible_unnamed {s : State} {e : List Command} {c : Command} (h : eligible s.busyCommands e c = true) {v : VarNum}
    (var : c.body.var? = some v) (j : SlotIx) : s.slotVar j ≠ some v := fun named => by
  cases command : s.tracker.slots[j].command with
  | none =>
    simp only [State.slotVar, State.slotBody, command, Option.map_none, Option.bind_none] at named
    cases named
  | some d =>
    rw [slotVar_of_some command] at named
    have mem : d ∈ s.busyCommands := List.mem_filterMap.mpr ⟨j, List.mem_finRange j, command⟩
    simp only [eligible, var, Bool.and_eq_true, Bool.not_eq_true', List.any_eq_false] at h
    have free := h.1.1.1 d mem
    simp [named] at free

theorem copyLaw_start {s t : State} (h : startNext s = some t) (p : s.copyLaw) : t.copyLaw := by
  obtain ⟨k, c, rest, e, free, ok, _, rfl⟩ := startNext_cases h
  obtain ⟨nodeId, _, _, copy, _⟩ := startSlot_frame k c rest s
  have whole := p
  obtain ⟨unique, foreigns, one, backed, distinct, empty⟩ := whole
  have none_reserved := unreserved_of_empty p (empty k free)
  have others : ∀ j, j ≠ k → (startSlot k c rest s).tracker.slots[j] = s.tracker.slots[j] := fun j ne => by
    rw [startSlot_slot, if_neg ne.symm]
  have slot : (startSlot k c rest s).tracker.slots[k] = { Slot.idle with phase := .plan, command := some c } := by
    rw [startSlot_slot, if_pos rfl]
  have vars : ∀ j, j ≠ k → (startSlot k c rest s).slotVar j = s.slotVar j := fun j ne =>
    slotVar_of_command (by rw [others j ne])
  have var : (startSlot k c rest s).slotVar k = c.body.var? := slotVar_of_some (by rw [slot])
  refine ⟨?_, ?_, ?_, fun i j h => ?_, fun a b v ha hb => ?_, fun j e => ?_⟩
  · rw [State.tagsUnique, copy]; exact unique
  · rw [State.tagsForeign, copy, nodeId]; exact foreigns
  · rw [State.oneReservation, copy]; exact one
  · rw [copy] at h ⊢
    have ne : j ≠ k := fun e => none_reserved i (e ▸ h)
    rw [vars j ne, others j ne, nodeId]
    exact backed i j h
  · by_cases ea : a = k <;> by_cases eb : b = k
    · rw [ea, eb]
    · rw [ea, var] at ha
      rw [vars b eb] at hb
      exact absurd hb (eligible_unnamed ok ha b)
    · rw [eb, var] at hb
      rw [vars a ea] at ha
      exact absurd ha (eligible_unnamed ok hb a)
    · rw [vars a ea] at ha
      rw [vars b eb] at hb
      exact distinct a b v ha hb
  · by_cases ej : j = k
    · rw [ej, slot] at e; cases e
    · rw [others j ej] at e ⊢; exact empty j e

theorem copyLaw_lapse {s : State} (p : s.copyLaw) (r : HoldIx) (status : Status) : (endHold r status s).copyLaw := by
  obtain ⟨_, e⟩ | ⟨g, _, e⟩ := endHold_cases r status s <;> rw [e]
  · exact p
  · exact copyLaw_of_alike (s := (post ⟨g.tag, .hold, .var g.var, status, 0, none, none⟩ s).setHolds (s.holds.set r none))
      (Alike.wakeHoldWaiters _) p

theorem copyLaw_grant {s t : State} (g : Grant s t) (p : s.copyLaw) : t.copyLaw := by
  cases g with
  | alike h => exact copyLaw_of_alike h p
  | promote i s => exact copyLaw_promote p i
  | vacate i s => exact copyLaw_vacate p i
  | lapse r status s => exact copyLaw_lapse p r status
  | entry i st x reservation s h =>
    refine copyLaw_of_entries (s := s) rfl rfl (writeEntry_shrinks ?_) p
    obtain rfl | rfl := h
    · exact .ofUnreserved (.inr rfl) rfl
    · exact .ofSame rfl rfl
  | record v r s _ => exact p
  | loans joiner s => exact p

theorem copyLaw_of_reset {s : State} (copy : s.copy = CopyUnit.empty) (tracker : s.tracker = Tracker.empty) :
    s.copyLaw := by
  have tag : ∀ i : EntryIx, s.copy.entries[i].tag = none := fun i => by rw [copy, emptyCopy_entry]
  have reserved : ∀ i : EntryIx, s.copy.entries[i].reservedBy = none := fun i => by rw [copy, emptyCopy_entry]
  have idle : ∀ k : SlotIx, s.tracker.slots[k] = Slot.idle := fun k => by rw [tracker, emptyTracker_slot]
  refine ⟨fun i j v h => ?_, fun i v h => ?_, fun i j k h => ?_, fun i k h => ?_, fun j k v h => ?_, fun k _ => ?_⟩
  · cases (tag i).symm.trans h
  · cases (tag i).symm.trans h
  · cases (reserved i).symm.trans h
  · cases (reserved i).symm.trans h
  · cases (slotVar_of_idle (idle j)).symm.trans h
  · rw [idle]; rfl

theorem runTimers_slot (k : SlotIx) (s : State) : (runTimers s).tracker.slots[k] = (s.tracker.slots[k]).tick := by
  simp [runTimers]

theorem copyLaw_turn {s t : State} (h : Turn True s t) (p : s.copyLaw) : t.copyLaw := by
  cases h with
  | move m => exact copyLaw_move m p
  | start e => exact copyLaw_start e p
  | submit b s _ => exact p
  | pop s =>
    cases queue : s.completion.queue with
    | nil => rw [popCompletion_of_empty queue]; exact p
    | cons c rest => rw [popCompletion_of_cons queue]; exact p
  | softReset s => exact copyLaw_of_reset rfl rfl
  | porRelease straps s => exact copyLaw_of_reset rfl rfl
  | lapse r status s => exact copyLaw_lapse p r status
  | tick s =>
    refine copyLaw_of_shrunk (s := s) rfl (fun i => .refl _) (fun k => .inl ?_) p
    rw [runTimers_slot]
    unfold Slot.tick
    split <;> exact ⟨rfl, rfl, id⟩
  | commit tn s _ committed =>
    exact endTenure_keeps (fun _ _ _ => copyLaw_move) (fun _ _ => copyLaw_start) (fun _ _ => copyLaw_grant)
      (fun _ _ _ _ _ _ _ p => p) (fun k r d _ p => copyLaw_finish p k r d) committed p

/-- Settles O57: each law is kept by every turn; the completion queue fits while the credit law holds, its records taking
a credit each. -/
theorem tablesKeepTheirLaws : Obligations.TablesKeepTheirLaws := by
  refine ⟨fun s t p next => step_keeps (fun _ _ => agesRanked_turn) next p,
    fun s t p next => step_keeps (fun _ _ => copyLaw_turn) next p,
    fun s t p next => step_keeps (fun _ _ => holdsDistinct_turn) next p,
    fun s t p next => step_keeps (fun _ _ => queueFits_turn) next p, fun s t p next => ?_⟩
  obtain ⟨sum, _⟩ := creditLawKept s t p next
  have credits : Config.credits = 16 := rfl
  unfold State.creditSum at sum
  omega

end Sys2Proof.Machine

/-!
PROOF. What the slots' turns, the delivery of an outcome and a commit leave of the blocks outside the tables (R127, R132).
-/

namespace Sys2Proof.Machine

/-! ## Deliveries -/

theorem sameOutside_endCommand (k : SlotIx) (status : Status) (s : State) : SameOutside s (endCommand k status s) := by
  have ended := sameOutside_complete k ⟨status, none⟩ none s
  unfold endCommand
  split
  · exact ended.setParticipation _
  · exact ended.setParticipation _
  · exact ended

theorem sameOutside_replan (k : SlotIx) (s : State) : SameOutside s (replan k s) := (SameOutside.rfl' s).setTracker _

theorem SameOutside.replan {s t : State} (h : SameOutside s t) (k : SlotIx) : SameOutside s (replan k t) :=
  h.trans (sameOutside_replan k t)

theorem sameOutside_raiseCounter (w : Counter) (n : Nat) (s : State) : SameOutside s (raiseCounter w n s) :=
  (SameOutside.rfl' s).setCompletion _

theorem sameOutside_latch (l : Latched) (s : State) : SameOutside s (latch l s) := (SameOutside.rfl' s).setCompletion _

theorem sameOutside_countReclaims (n : Nat) (s : State) : SameOutside s (countReclaims n s) :=
  (sameOutside_raiseCounter _ _ s).trans (sameOutside_latch _ _)

theorem sameOutside_countProtocolError (s : State) : SameOutside s (countProtocolError s) :=
  (sameOutside_raiseCounter _ _ s).trans (sameOutside_latch _ _)

theorem sameOutside_countLinkClear (s : State) : SameOutside s (countLinkClear s) :=
  (sameOutside_raiseCounter _ _ s).trans (sameOutside_latch _ _)

theorem sameOutside_failAttempt (k : SlotIx) (s : State) : SameOutside s (failAttempt k s) := by
  have counted := fun x => ((SameOutside.rfl' s).writeSlot k x).trans (sameOutside_raiseCounter .retry 1 _)
  unfold failAttempt
  simp only
  split
  · exact (counted _).trans (sameOutside_endCommand k _ _)
  · exact (counted _).writeSlot k _

theorem sameOutside_deliverCommit (k : SlotIx) (r : Option CmdResult) (d : Option NodeMask) (s : State) :
    SameOutside s (deliverCommit k r d s) := by
  unfold deliverCommit
  split
  · exact sameOutside_complete k _ _ s
  · exact sameOutside_complete k _ _ s
  · exact sameOutside_complete k _ _ s
  · exact sameOutside_complete k _ _ s
  · exact sameOutside_replan k s

theorem sameOutside_deliverNoHome (k : SlotIx) (s : State) : SameOutside s (deliverNoHome k s) := by
  unfold deliverNoHome
  simp only
  split
  · exact ((SameOutside.rfl' s).writeSlot k _).replan k
  · split
    · exact ((SameOutside.rfl' s).writeSlot k _).replan k
    · exact sameOutside_endCommand k _ s
  · exact sameOutside_endCommand k _ s

theorem sameOutside_deliver (k : SlotIx) (d : Delivery) (s : State) : SameOutside s (deliver k d s) := by
  unfold deliver
  split
  · exact sameOutside_deliverCommit k _ _ s
  · exact sameOutside_failAttempt k s
  · exact sameOutside_deliverNoHome k s
  · exact sameOutside_endCommand k _ s
  · exact sameOutside_failAttempt k s
  · exact sameOutside_endCommand k _ s
  · exact sameOutside_endCommand k _ s
  · exact sameOutside_endCommand k _ s

/-- The slots' turns leave the blocks outside the tables (R132). -/
theorem sameOutside_slotTurns (sender : Option SlotIx) (d : Delivery) (s : State) :
    SameOutside s (slotTurns sender d s) :=
  slotTurns_keeps (SameOutside s) (fun k _ h => h.releaseReservations k) (fun k d _ h => h.trans (sameOutside_deliver k d _))
    (fun k _ h => h.trans (sameOutside_planSlot k _)) (fun _ _ h e => h.trans (sameOutside_startNext e)) sender d s
    (.rfl' s)

/-! ## Commits -/

theorem sameOutside_endHold (r : HoldIx) (status : Status) (s : State) : SameOutside s (endHold r status s) := by
  obtain ⟨_, e⟩ | ⟨h, _, e⟩ := endHold_cases r status s <;> rw [e]
  · exact .rfl' s
  · exact ((SameOutside.rfl' s).post _).removeHold r

theorem SameOutside.foldl {α : Type} {f : State → α → State} (h : ∀ s a, SameOutside s (f s a)) :
    ∀ (l : List α) (s : State), SameOutside s (l.foldl f s)
  | [], s => .rfl' s
  | a :: l, s => (h s a).trans (SameOutside.foldl h l _)

theorem sameOutside_writeRecord (v : VarNum) (r : HomeRecord) (s : State) : SameOutside s (writeRecord v r s) :=
  (SameOutside.rfl' s).setHome _

theorem sameOutside_reclaimAbsent (v : VarNum) (present : NodeMask) (s : State) :
    SameOutside s (reclaimAbsent v present s) := by
  unfold reclaimAbsent
  split
  · split
    · exact .rfl' s
    · exact (sameOutside_writeRecord v _ s).trans (sameOutside_countReclaims 1 _)
  · exact .rfl' s

theorem sameOutside_storeCapture (k : Kind) (source : NodeId) (v : VarNum) (s : State) :
    SameOutside s (storeCapture k source v s) := by
  unfold storeCapture
  split
  · exact .rfl' s
  · exact sameOutside_writeRecord v _ s

theorem sameOutside_changeRecord (k : Kind) (v : VarNum) (source : NodeId) (lines : RespLines) (s : State) :
    SameOutside s (changeRecord k v source lines s) := by
  unfold changeRecord
  split
  · exact sameOutside_writeRecord v _ s
  · exact sameOutside_countProtocolError s

theorem sameOutside_commitHome (tn : Tenure) (k : Kind) (v : VarNum) (s : State) :
    SameOutside s (commitHome tn k v s).1 := by
  have home := ((sameOutside_reclaimAbsent v tn.present s).trans (sameOutside_storeCapture k (sourceOf tn.h0) v _)).trans
    (sameOutside_changeRecord k v (sourceOf tn.h0) tn.lines _)
  unfold commitHome
  simp only
  split
  · exact home
  · split
    · exact home
    · exact home.trans (sameOutside_applyHome _ v _)

theorem sameOutside_commitHolder (tn : Tenure) (k : Kind) (v : VarNum) (s : State) :
    SameOutside s (commitHolder tn k v s) := by
  unfold commitHolder
  split
  · exact .rfl' s
  · split
    · exact .rfl' s
    · split
      · unfold demoteToCopy
        split
        · exact (SameOutside.rfl' s).writeEntry _ _
        · exact .rfl' s
      · exact sameOutside_vacate _ s
      · exact sameOutside_vacate _ s
      · split
        · exact sameOutside_vacate _ s
        · exact .rfl' s
      · exact .rfl' s

theorem sameOutside_commitRequester (slot : SlotIx) (tn : Tenure) (k : Kind) (v : VarNum) (s : State) :
    SameOutside s (commitRequester slot tn k v s).1 := by
  have applied := fun c i e => ((SameOutside.rfl' s).writeEntry i e).trans (sameOutside_applyCopy c v i _)
  unfold commitRequester
  split
  · exact .rfl' s
  · split
    · exact applied _ _ _
    · exact applied _ _ _
    · exact applied _ _ _
    · exact sameOutside_vacate _ s
    · exact sameOutside_vacate _ s
    · exact .rfl' s

theorem sameOutside_commitVar (tn : Tenure) (k : Kind) (v : VarNum) (s : State) :
    SameOutside s (commitVar tn k v s).1 := by
  unfold commitVar
  split
  · split
    · exact sameOutside_commitHome tn k v s
    · split
      · exact sameOutside_commitRequester _ tn k v s
      · exact sameOutside_commitHolder tn k v s
  · exact .rfl' s

theorem sameOutside_coldJoin (joiner : NodeId) (s : State) : SameOutside s (coldJoin joiner s) := by
  have lose : ∀ tags t r, SameOutside t (loseHold tags t r) := fun tags t r => by
    unfold loseHold
    split
    · split
      · exact sameOutside_endHold r .lost t
      · exact .rfl' t
    · exact .rfl' t
  unfold coldJoin
  simp only
  exact ((SameOutside.foldl (fun t i => sameOutside_vacate i t) _ s).trans (sameOutside_countDiscards _ _)).trans
    (SameOutside.foldl (lose _) _ _)

theorem sameOutside_reclaimLoans (joiner : NodeId) (s : State) : SameOutside s (reclaimLoans joiner s) :=
  ((SameOutside.rfl' s).setHome _).trans (sameOutside_countReclaims _ _)

/-- The commit of a JOIN leaves the blocks outside the tables but the joiner's cold flag, which it clears (R183). -/
theorem commitJoin_outside (tn : Tenure) (s : State) :
    SameOutside (s.setCold (commitJoin tn s).cold) (commitJoin tn s) ∧
      ((commitJoin tn s).cold = s.cold ∨ (commitJoin tn s).cold = false) := by
  have same : ∀ t, SameOutside s t → SameOutside (s.setCold t.cold) t := fun t h =>
    ⟨h.nodeId, h.por, rfl, h.timing, h.control, h.notices, h.pending, h.link⟩
  unfold commitJoin
  split
  · exact ⟨⟨rfl, rfl, rfl, rfl, rfl, rfl, rfl, rfl⟩, .inr rfl⟩
  · simp only
    split
    · have cold := (sameOutside_reclaimLoans (sourceOf tn.h0) s).trans (sameOutside_coldJoin (sourceOf tn.h0) _)
      exact ⟨same _ cold, .inl cold.cold⟩
    · have loans := sameOutside_reclaimLoans (sourceOf tn.h0) s
      exact ⟨same _ loans, .inl loans.cold⟩

end Sys2Proof.Machine

/-!
PROOF. The room of the inbound notice queue, and the reservation that an addressed node holds once it has taken a NOTICE's
response word, over every step (R150 to R158).
-/

namespace Sys2Proof.Machine

/-! ## States that agree on what the law reads -/

/-- Records and reservation fit the inbound queue. -/
def State.noticesFit (s : State) : Prop :=
  s.notices.inbound.length + (if s.notices.reserved then 1 else 0) ≤ Config.inboundCapacity

/-- The law reads POR, the inbound queue, the reservation and four fields of the link unit. -/
theorem noticeRoom_of_same {s t : State} (por : t.por = s.por) (inbound : t.notices.inbound = s.notices.inbound)
    (reserved : t.notices.reserved = s.notices.reserved) (tenure : t.link.tenure = s.link.tenure)
    (phase : t.link.phase = s.link.phase) (wordOpen : t.link.wordOpen = s.link.wordOpen)
    (taken : t.link.taken = s.link.taken) (p : s.noticeRoom) : t.noticeRoom := by
  simpa only [State.noticeRoom, State.noticeReserved, State.pastNoticeTake, por, inbound, reserved, tenure, phase,
    wordOpen, taken] using p

theorem noticeRoom_of_outside {s t : State} (h : SameOutside s t) (p : s.noticeRoom) : t.noticeRoom := by
  have link := h.link
  exact noticeRoom_of_same h.por (by rw [h.notices]) (by rw [h.notices]) (by rw [← link]) (by rw [← link])
    (by rw [← link]) (by rw [← link]) p

/-- With no tenure known, the queue has only to fit. -/
theorem noticeRoom_of_noTenure {s : State} (tenure : s.link.tenure = none) (fit : s.noticesFit) : s.noticeRoom :=
  ⟨fit, fun t e => (by cases tenure.symm.trans e), fun _ => tenure⟩

theorem noticesFit_of_unreserved {s t : State} (inbound : t.notices.inbound = s.notices.inbound)
    (reserved : t.notices.reserved = false) (fit : s.noticesFit) : t.noticesFit := by
  unfold State.noticesFit at fit ⊢
  rw [inbound, reserved, if_neg Bool.false_ne_true]
  omega

/-- No law of the notices binds a node that takes no response word: the phase is neither HEADER nor RESPONSE, or, in
RESPONSE, no word is open. -/
theorem noticeRoom_of_phase {s t : State} (por : t.por = s.por) (inbound : t.notices.inbound = s.notices.inbound)
    (reserved : t.notices.reserved = s.notices.reserved) (tenure : t.link.tenure = s.link.tenure)
    (header : t.link.phase ≠ .header) (response : t.link.phase = .response → t.link.wordOpen = false)
    (p : s.noticeRoom) : t.noticeRoom := by
  obtain ⟨fit, law, silent⟩ := p
  refine ⟨by rw [inbound, reserved]; exact fit, fun tn e => ⟨fun h => absurd h header, fun addressed => ?_⟩,
    fun h => by rw [tenure]; exact silent (por ▸ h)⟩
  rw [tenure] at e
  obtain ⟨kind, past⟩ := (law tn e).2 addressed
  refine ⟨kind, fun passed => ?_⟩
  rw [reserved]
  obtain resolved | ⟨inResponse, wordOpen, _⟩ := passed
  · exact past (.inl resolved)
  · rw [response inResponse] at wordOpen; cases wordOpen

theorem noticeRoom_of_open {s : State} {tn : Tenure} (por : s.por = false) (fit : s.noticesFit) (tenure : s.link.tenure = some tn)
    (unresolved : tn.outcome = none) (addressed : tn.addressed = true → kindOf tn.h0 = some .notice)
    (response : s.link.phase ≠ .response) : s.noticeRoom := by
  refine ⟨fit, fun t e => ?_, fun h => by rw [por] at h; cases h⟩
  cases tenure.symm.trans e
  refine ⟨fun _ => unresolved, fun h => ⟨addressed h, fun past => ?_⟩⟩
  obtain resolved | ⟨phase, _⟩ := past
  · exact absurd unresolved resolved
  · exact absurd phase response

/-! ## Holdoff -/

/-- A holding node takes the word only once it holds a reservation, and reserves only a place that is free (R153, R154). -/
theorem noticeRoom_tryTake {s : State} (p : s.noticeRoom) : (tryTake s).noticeRoom := by
  obtain ⟨_, e⟩ | ⟨holding, b, keeps, room, e⟩ := tryTake_cases s
  · rw [e]; exact p
  · obtain ⟨fit, law, silent⟩ := p
    have capacity : Config.inboundCapacity = 16 := rfl
    have fits : s.notices.inbound.length + (if b then 1 else 0) ≤ Config.inboundCapacity := by
      cases b with
      | false => rw [if_neg Bool.false_ne_true]; split at fit <;> omega
      | true =>
        obtain reserved | free := room rfl
        · rw [if_pos rfl]; rw [if_pos reserved] at fit; exact fit
        · unfold State.room at free
          rw [if_pos rfl]
          split at free <;> omega
    have reserves : s.notices.reserved = true → b = true := keeps
    obtain e | ⟨taken, _, e⟩ := e <;> rw [e]
    · refine ⟨fits, fun tn h => ⟨(law tn h).1, fun addressed => ?_⟩, silent⟩
      obtain ⟨kind, past⟩ := (law tn h).2 addressed
      exact ⟨kind, fun h => reserves (past h)⟩
    · refine ⟨fits, fun tn h => ⟨(law tn h).1, fun addressed => ⟨((law tn h).2 addressed).1, fun _ => ?_⟩⟩, silent⟩
      exact taken

theorem noticeRoom_popNotice {s : State} (p : s.noticeRoom) : (popNotice s).noticeRoom := by
  unfold popNotice
  split
  · exact p
  · rename_i rest queue
    refine noticeRoom_tryTake ?_
    obtain ⟨fit, law, silent⟩ := p
    rw [queue, List.length_cons] at fit
    refine ⟨?_, law, silent⟩
    show rest.length + (if s.notices.reserved then 1 else 0) ≤ Config.inboundCapacity
    omega

/-! ## Clears, resets -/

theorem noticeRoom_abortLink {s : State} (p : s.noticeRoom) (d : Delivery) : (abortLink d s).noticeRoom := by
  obtain ⟨_, e⟩ | ⟨observes, e⟩ := abortLink_cases d s <;> rw [e]
  · exact noticeRoom_of_outside (sameOutside_slotTurns _ _ _)
      (noticeRoom_of_noTenure rfl (noticesFit_of_unreserved (s := s) rfl rfl p.1))
  · exact noticeRoom_of_phase (s := s) rfl rfl rfl rfl nofun nofun p

theorem noticeRoom_pulseAndAbort {s : State} (p : s.noticeRoom) (d : Delivery) : (pulseAndAbort d s).noticeRoom :=
  noticeRoom_abortLink (s := drivePulse s) (noticeRoom_of_same rfl rfl rfl rfl rfl rfl rfl p) d

theorem noticeRoom_softReset (s : State) : (softReset s).noticeRoom :=
  noticeRoom_of_noTenure rfl (by unfold State.noticesFit; exact Nat.zero_le _)

theorem noticeRoom_writeControl {s : State} (p : s.noticeRoom) (word : Halfword) : (writeControl word s).noticeRoom := by
  have fields : ∀ t : State, t.noticeRoom → (tryTake (t.setControl (controlOf word))).noticeRoom := fun t p =>
    noticeRoom_tryTake (noticeRoom_of_same (s := t) rfl rfl rfl rfl rfl rfl rfl p)
  have reset : (if word.getLsbD 0 = true then softReset s else s).noticeRoom := by
    split
    · exact noticeRoom_softReset s
    · exact p
  unfold writeControl
  simp only
  split
  · exact noticeRoom_pulseAndAbort (fields _ reset) _
  · exact fields _ reset

theorem noticeRoom_submit {s : State} (p : s.noticeRoom) : (submit s).noticeRoom := by
  obtain ⟨r, _, e⟩ | ⟨b, _, _, _, _, e⟩ := submit_cases s <;> rw [e]
  · exact noticeRoom_of_same (s := s) rfl rfl rfl rfl rfl rfl rfl p
  · exact noticeRoom_of_outside (sameOutside_settle _) (noticeRoom_of_same (s := s) rfl rfl rfl rfl rfl rfl rfl p)

theorem popCompletion_outside (s : State) : SameOutside s (popCompletion s) := by
  cases queue : s.completion.queue with
  | nil => rw [popCompletion_of_empty queue]; exact .rfl' s
  | cons c rest => rw [popCompletion_of_cons queue]; exact (SameOutside.rfl' s).setCompletion _

theorem noticeRoom_writeRegister {s : State} (p : s.noticeRoom) (offset : Nat) (word : Halfword) :
    (writeRegister offset word s).noticeRoom := by
  have kept : ∀ t, SameOutside s t → t.noticeRoom := fun _ h => noticeRoom_of_outside h p
  have port : ∀ x, (s.setPort x).noticeRoom := fun x => kept _ ((SameOutside.rfl' s).setPort x)
  unfold writeRegister
  split
  · exact noticeRoom_writeControl p word
  · exact kept _ ((SameOutside.rfl' s).setCompletion _)
  · exact noticeRoom_of_same (s := s) rfl rfl rfl rfl rfl rfl rfl p
  · exact noticeRoom_of_same (s := s) rfl rfl rfl rfl rfl rfl rfl p
  iterate 12 exact port _
  · exact noticeRoom_submit p
  · exact kept _ (popCompletion_outside s)
  · exact noticeRoom_popNotice p
  iterate 5 exact kept _ ((SameOutside.rfl' s).setCompletion _)
  · exact p

/-! ## Words on a link this node takes no part in -/

/-- A node that follows the lines is in IDLE, where it takes no response word. -/
theorem follows_idle {s : State} (h : s.follows = true) : s.link.phase = .idle := by
  simp only [State.follows, Bool.and_eq_true, beq_iff_eq] at h
  exact h.2

theorem noticeRoom_of_idle {s t : State} (idle : t.link.phase = .idle) (por : t.por = s.por)
    (notices : t.notices = s.notices) (tenure : t.link.tenure = s.link.tenure) (p : s.noticeRoom) : t.noticeRoom :=
  noticeRoom_of_phase por (by rw [notices]) (by rw [notices]) tenure (by rw [idle]; nofun)
    (by rw [idle]; nofun) p

theorem noticeRoom_followOpen {s : State} (p : s.noticeRoom) : (followOpen s).noticeRoom := by
  unfold followOpen
  split
  · rename_i follows
    exact noticeRoom_of_idle (s := s) (follows_idle (Bool.and_eq_true_iff.mp follows).1) rfl rfl rfl p
  · exact p

theorem noticeRoom_followCompletion {s : State} (p : s.noticeRoom) : (followCompletion s).noticeRoom := by
  unfold followCompletion
  split
  · rename_i follows
    exact noticeRoom_of_idle (s := s) (follows_idle follows) rfl rfl rfl p
  · exact p

theorem followCompletion_phase (s : State) : (followCompletion s).link.phase = s.link.phase := by
  rw [followCompletion_link]; rfl

theorem noticeRoom_followRequest {s : State} (p : s.noticeRoom) (ld : Halfword) (next : AfterEmpty) :
    (followRequest ld next s).noticeRoom := by
  unfold followRequest
  split
  · exact noticeRoom_followOpen (noticeRoom_followCompletion p)
  · split
    · rename_i follows
      refine noticeRoom_of_idle (s := followCompletion s) ?_ rfl rfl rfl (noticeRoom_followCompletion p)
      exact (followCompletion_phase s).trans (follows_idle follows)
    · exact p
  · exact noticeRoom_followCompletion p
  · rw [followWin_link]
    exact noticeRoom_of_same (s := followCompletion s) rfl rfl rfl rfl rfl rfl rfl (noticeRoom_followCompletion p)

theorem noticeRoom_followFall {s : State} (p : s.noticeRoom) : (followFall s).noticeRoom := by
  unfold followFall
  split
  · rename_i follows
    have idle := follows_idle follows
    split
    · exact noticeRoom_of_idle (s := s) idle rfl rfl rfl p
    · exact noticeRoom_of_idle (s := s) idle rfl rfl rfl p
  · exact p

theorem noticeRoom_standOutside {s : State} (idle : s.link.phase = .idle ∨ s.link.tenure = none) (wordOpens : Bool)
    (p : s.noticeRoom) : (standOutside wordOpens s).noticeRoom := by
  have stands : (if s.shutOut = true then s else releaseTaken .phase s).noticeRoom := by
    split
    · exact p
    · obtain idle | tenure := idle
      · exact noticeRoom_of_idle (s := s) idle rfl rfl rfl p
      · exact noticeRoom_of_noTenure tenure p.1
  unfold standOutside
  simp only
  split
  · exact noticeRoom_followOpen stands
  · exact stands

/-! ## Arbitration and header -/

theorem sameOutside_takeLeaveFinal (s : State) : SameOutside s (takeLeaveFinal s) := by
  unfold takeLeaveFinal
  split
  · exact (sameOutside_leaveFinal _ s).trans (sameOutside_settle _)
  · exact .rfl' s

theorem SameOutside.phase {s t : State} (h : SameOutside s t) : t.link.phase = s.link.phase := by rw [← h.link]

theorem SameOutside.tenure {s t : State} (h : SameOutside s t) : t.link.tenure = s.link.tenure := by rw [← h.link]

theorem noticeRoom_phaseOpens {s : State} (p : s.noticeRoom) (wordOpens : Bool) : (phaseOpens wordOpens s).noticeRoom := by
  unfold phaseOpens
  split
  · rename_i idle
    split
    · exact p
    · split
      · exact noticeRoom_standOutside (.inl idle) wordOpens p
      · have final := sameOutside_takeLeaveFinal s
        have before := noticeRoom_of_outside final p
        generalize takeLeaveFinal s = t at final before
        unfold openPhase
        split
        · exact noticeRoom_standOutside (.inl (final.phase.trans idle)) wordOpens before
        · simp only
          split
          · exact noticeRoom_of_phase (s := t) rfl rfl rfl rfl nofun nofun before
          · exact noticeRoom_of_phase (s := t) rfl rfl rfl rfl nofun nofun before
  · rename_i arbitrate
    split
    · refine noticeRoom_of_phase (s := s) rfl rfl rfl rfl ?_ ?_ p <;>
        exact fun h => by cases arbitrate.symm.trans h
    · exact p
  · exact p

theorem noticeRoom_completeRequest {s : State} (arbitrate : s.link.phase = .arbitrate) (por : s.por = false)
    (p : s.noticeRoom) (ld : Halfword) (next : AfterEmpty) : (completeRequest ld next s).noticeRoom := by
  have lost : (loseArbitration s).noticeRoom := noticeRoom_of_noTenure rfl p.1
  have arbitrates : ∀ x : LinkUnit, x.phase = .arbitrate → x.tenure = s.link.tenure → (s.setLink x).noticeRoom :=
    fun x phase tenure => noticeRoom_of_phase (s := s) rfl rfl rfl tenure (by rw [State.setLink_link, phase]; nofun)
      (by rw [State.setLink_link, phase]; nofun) p
  unfold completeRequest
  split
  · unfold emptyWord
    simp only
    split
    · exact arbitrates _ arbitrate rfl
    · split
      · exact arbitrates _ arbitrate rfl
      · exact arbitrates _ arbitrate rfl
      · exact noticeRoom_of_idle (s := s) rfl rfl rfl rfl p
  · split
    · split
      · exact lost
      · split
        · exact lost
        · exact noticeRoom_of_open por p.1 rfl rfl nofun nofun
    · exact lost

theorem noticeRoom_requestCompletes {s : State} (por : s.por = false) (p : s.noticeRoom) (ld : Halfword)
    (next : AfterEmpty) : (requestCompletes ld next s).noticeRoom := by
  unfold requestCompletes
  split
  · rename_i h
    exact noticeRoom_completeRequest h.1 por p ld next
  · exact noticeRoom_followRequest p ld next

theorem noticeRoom_counted {s t : State} (c : Prop) [Decidable c] (h : SameOutside s t) (p : s.noticeRoom) :
    (if c then t else s).noticeRoom := by
  split
  · exact noticeRoom_of_outside h p
  · exact p

/-- Only a NOTICE addresses a node (R151). -/
theorem noticeAddresses_kind {s : State} {h0 h1 : Halfword} (h : noticeAddresses s h0 h1 = true) :
    kindOf h0 = some .notice := by
  simp only [noticeAddresses, Bool.and_eq_true, beq_iff_eq] at h
  exact h.1.1

theorem awaitsHeader_phase {s : State} {index : Nat} (h : s.awaitsHeader index = true) : s.link.phase = .header := by
  simp only [State.awaitsHeader, Bool.and_eq_true, beq_iff_eq] at h
  exact h.1.1.1

/-- A header with its H1, nothing resolved yet (R54, R151). -/
theorem noticeRoom_withH1 {s t : State} {tn : Tenure} (por : s.por = false) (header : s.link.phase = .header)
    (tenure : s.link.tenure = some tn) (asRequester : Bool) (h1 : Halfword) (por' : t.por = s.por)
    (notices : t.notices = s.notices) (phase : t.link.phase = .header)
    (known : t.link.tenure = some (withH1 s asRequester tn h1)) (p : s.noticeRoom) : t.noticeRoom := by
  have unresolved : tn.outcome = none := (p.2.1 tn tenure).1 header
  have fit : t.noticesFit := by unfold State.noticesFit; rw [notices]; exact p.1
  refine noticeRoom_of_open (por'.trans por) fit known unresolved (fun addressed => ?_) (by rw [phase]; nofun)
  have h : (!asRequester && noticeAddresses s tn.h0 h1) = true := addressed
  exact noticeAddresses_kind (Bool.and_eq_true_iff.mp h).2

theorem noticeRoom_h0Arrives {s : State} (por : s.por = false) (p : s.noticeRoom) (ld : Halfword) :
    (h0Arrives ld s).noticeRoom := by
  unfold h0Arrives takeH0
  split
  · rename_i awaits
    refine noticeRoom_counted _ (sameOutside_countProtocolError _) ?_
    exact noticeRoom_of_open por p.1 rfl rfl nofun (fun h => by cases (awaitsHeader_phase awaits).symm.trans h)
  · exact noticeRoom_followOpen p

theorem noticeRoom_h1Arrives {s : State} (por : s.por = false) (p : s.noticeRoom) (ld : Halfword) :
    (h1Arrives ld s).noticeRoom := by
  unfold h1Arrives takeH1
  split
  · rename_i tn awaits tenure
    have header := awaitsHeader_phase awaits
    refine noticeRoom_counted _ (sameOutside_countProtocolError _) ?_
    exact noticeRoom_withH1 por header tenure false ld rfl rfl header rfl p
  · exact noticeRoom_followOpen p

/-! ## Response, data -/

theorem noticeRoom_nextData {s : State} {i length : Nat} (p : s.noticeRoom) : (nextData i length s).noticeRoom := by
  unfold nextData
  split
  · exact noticeRoom_of_phase (s := s) rfl rfl rfl rfl nofun nofun p
  · exact noticeRoom_of_phase (s := s) rfl rfl rfl rfl nofun nofun p

/-- The response word opened with H1's completion is no NOTICE's, so its node is not addressed (R153). -/
theorem noticeRoom_openResponse {s : State} {tn : Tenure} (por : s.por = false) (header : s.link.phase = .header)
    (tenure : s.link.tenure = some tn) (p : s.noticeRoom) : (openResponse tn s).noticeRoom := by
  obtain ⟨unresolved, law⟩ := p.2.1 tn tenure
  refine ⟨p.1, fun t e => ?_, fun h => ?_⟩
  · have e' : s.link.tenure = some t := e
    cases tenure.symm.trans e'
    refine ⟨nofun, fun addressed => ⟨(law addressed).1, fun past => ?_⟩⟩
    obtain resolved | ⟨_, wordOpen, _⟩ := past
    · exact absurd (unresolved header) resolved
    · have opens : (s.link.sender.isSome && kindOf tn.h0 != some .notice) = true := wordOpen
      rw [(law addressed).1] at opens
      simp at opens
  · have h' : s.por = true := h
    rw [por] at h'; cases h'

theorem noticeRoom_completeWord {s : State} {tn : Tenure} (por : s.por = false) (tenure : s.link.tenure = some tn)
    (p : s.noticeRoom) (ld : Halfword) : (completeWord ld tn s).noticeRoom := by
  unfold completeWord
  split
  · rename_i header _
    split
    · split
      · exact noticeRoom_withH1 por header tenure true _ rfl rfl header rfl p
      · exact noticeRoom_pulseAndAbort p _
    · refine ⟨p.1, fun t e => ?_, p.2.2⟩
      obtain ⟨unresolved, law⟩ := p.2.1 t e
      refine ⟨unresolved, fun addressed => ⟨(law addressed).1, fun past => ?_⟩⟩
      obtain resolved | ⟨response, _⟩ := past
      · exact absurd (unresolved header) resolved
      · cases header.symm.trans response
  · rename_i header _
    split
    · exact noticeRoom_pulseAndAbort p _
    · exact noticeRoom_openResponse por header tenure p
  · exact noticeRoom_nextData p
  · exact p

theorem noticeRoom_noticeResponseOpens {s : State} (p : s.noticeRoom) : (noticeResponseOpens s).noticeRoom := by
  unfold noticeResponseOpens
  split
  · rename_i tn tenure
    split
    · rename_i h
      obtain ⟨response, _⟩ := h
      have law := (p.2.1 tn tenure).2
      have one : ∀ t, s.link.tenure = some t → t = tn := fun t e => Option.some.inj (e.symm.trans tenure)
      split
      · refine noticeRoom_tryTake ⟨p.1, fun t e => ?_, p.2.2⟩
        obtain rfl := one t e
        refine ⟨fun h => (by cases response.symm.trans h), fun addressed => ⟨(law addressed).1, fun past => ?_⟩⟩
        obtain resolved | ⟨_, _, taken⟩ := past
        · exact (law addressed).2 (.inl resolved)
        · refine absurd ?_ taken
          show (if t.addressed = true then TakenPin.withheld else .follows) = _
          rw [if_pos addressed]
      · rename_i other
        refine ⟨p.1, fun t e => ?_, p.2.2⟩
        obtain rfl := one t e
        exact ⟨fun h => (by cases response.symm.trans h), fun addressed => absurd (law addressed).1 other⟩
    · exact p
  · exact noticeRoom_followOpen p

/-- The response word completes at an addressed node only once it has taken it (R74, R76). -/
theorem noticeRoom_responseCompletes {s : State} (p : s.noticeRoom) (present : NodeMask) (lines : RespLines) :
    (responseCompletes present lines s).noticeRoom := by
  unfold responseCompletes
  split
  · rename_i tn tenure
    split
    · rename_i h
      obtain ⟨response, holding, opened⟩ := h
      have law := (p.2.1 tn tenure).2
      have taken : s.link.taken ≠ .withheld := by simpa [State.holdingOff] using holding
      have latched : ∀ (mask : NodeMask) (ls : RespLines), ((updateRoster mask s).setLink
          { (updateRoster mask s).link with
            tenure := some (latchResponse tn mask ls)
            wordOpen := false
            valid := (updateRoster mask s).link.valid == (updateRoster mask s).link.wordOpen }).noticeRoom := by
        refine fun mask ls => ⟨p.1, fun t e => ?_, fun h => ?_⟩
        · cases e
          refine ⟨fun h => (by cases response.symm.trans h), fun addressed => ⟨(law addressed).1, fun _ => ?_⟩⟩
          have wordOpen : s.link.wordOpen = true := opened.resolve_right fun other => other (law addressed).1
          exact (law addressed).2 (.inr ⟨response, wordOpen, taken⟩)
        · cases tenure.symm.trans (p.2.2 h)
      unfold completeResponse
      simp only
      split
      · exact noticeRoom_pulseAndAbort (latched _ _) _
      · exact noticeRoom_nextData (latched _ _)
    · exact p
  · exact noticeRoom_followCompletion p

theorem keepDataWord_frame (tn : Tenure) (ld : Halfword) (s : State) :
    (keepDataWord tn ld s).por = s.por ∧ (keepDataWord tn ld s).link = s.link ∧
      (keepDataWord tn ld s).notices.inbound = s.notices.inbound ∧
      (keepDataWord tn ld s).notices.reserved = s.notices.reserved := by
  unfold keepDataWord
  split
  · split
    · split <;> exact ⟨rfl, rfl, rfl, rfl⟩
    · split <;> exact ⟨rfl, rfl, rfl, rfl⟩
  · split <;> exact ⟨rfl, rfl, rfl, rfl⟩

theorem noticeRoom_dataArrives {s : State} (p : s.noticeRoom) (ld : Halfword) : (dataArrives ld s).noticeRoom := by
  unfold dataArrives
  split
  · rename_i tn _
    split
    · rename_i h
      obtain ⟨data, _⟩ := h
      obtain ⟨por, _, inbound, reserved⟩ := keepDataWord_frame tn ld s
      refine noticeRoom_of_phase (s := s) por inbound reserved rfl ?_ ?_ p <;>
        exact fun h => by cases data.symm.trans h
    · exact p
  · exact noticeRoom_followOpen p

/-! ## The end of a tenure -/

/-- A commit leaves POR, and the inbound queue and the reservation but for an addressed node's message (R157). -/
theorem commitTenure_notices (tn : Tenure) (s : State) : (commitTenure tn s).1.por = s.por ∧
    ((commitTenure tn s).1.notices = s.notices ∨ kindOf tn.h0 = some .notice ∧ tn.addressed = true ∧
      (commitTenure tn s).1.notices.inbound = s.notices.inbound ++ [⟨sourceOf tn.h0, s.notices.buffer⟩]) := by
  unfold commitTenure
  split
  · rename_i kind
    unfold commitNotice
    split
    · rename_i addressed; exact ⟨rfl, .inr ⟨kind, addressed, rfl⟩⟩
    · exact ⟨rfl, .inl rfl⟩
  · obtain ⟨joined, _⟩ := commitJoin_outside tn s
    exact ⟨joined.por, .inl joined.notices⟩
  · have same := sameOutside_commitVar tn
    exact ⟨(same _ _ s).por, .inl (same _ _ s).notices⟩
  · exact ⟨rfl, .inl rfl⟩

theorem noticeRoom_endTenure {s : State} {tn : Tenure} (tenure : s.link.tenure = some tn) (p : s.noticeRoom) :
    (endTenure tn s).noticeRoom := by
  by_cases committed : tn.outcome = some .committed
  · rw [endTenure_of_committed committed]
    refine noticeRoom_of_outside (sameOutside_slotTurns _ _ _) (noticeRoom_of_noTenure rfl ?_)
    have unreserved : (committedState tn s).notices.reserved = false := rfl
    have inbound : (committedState tn s).notices.inbound = (commitTenure tn s).1.notices.inbound := rfl
    have fit := p.1
    unfold State.noticesFit
    rw [unreserved, if_neg Bool.false_ne_true, inbound]
    obtain ⟨_, same | ⟨_, addressed, appended⟩⟩ := commitTenure_notices tn s
    · rw [same]
      omega
    · have reserved := ((p.2.1 tn tenure).2 addressed).2 (.inl (by rw [committed]; nofun))
      rw [if_pos reserved] at fit
      rw [appended, List.length_append, List.length_singleton]
      exact fit
  · unfold endTenure endState
    rw [if_neg committed]
    exact noticeRoom_of_outside (sameOutside_slotTurns _ _ _)
      (noticeRoom_of_noTenure rfl (noticesFit_of_unreserved (s := s) rfl rfl p.1))

theorem noticeRoom_lbusyReleased {s : State} (p : s.noticeRoom) : (lbusyReleased s).noticeRoom := by
  unfold lbusyReleased
  split
  · exact noticeRoom_endTenure ‹_› p
  · exact noticeRoom_of_idle (s := s) ‹_› rfl rfl rfl p
  · exact p

theorem noticeRoom_lbusyFalls {s : State} (p : s.noticeRoom) : (lbusyFalls s).noticeRoom := by
  have tenure : (if s.link.sender.isSome = true then s else pulseAndAbort .cleared s).noticeRoom := by
    split
    · exact p
    · exact noticeRoom_pulseAndAbort p _
  unfold lbusyFalls
  split
  · split
    · exact p
    · split
      · exact noticeRoom_pulseAndAbort p _
      · exact noticeRoom_of_idle (s := s) rfl rfl rfl rfl p
  · exact tenure
  · exact tenure
  · exact tenure
  · exact noticeRoom_followFall p
  · exact p
  · exact p

theorem noticeRoom_clearReleased {s : State} (p : s.noticeRoom) : (clearReleased s).noticeRoom := by
  by_cases clear : s.link.phase = .clear
  · exact noticeRoom_of_idle (s := s) (if_pos clear) rfl rfl rfl p
  · exact noticeRoom_of_same (s := s) rfl rfl rfl rfl (if_neg clear) rfl rfl p

/-! ## Expiries -/

theorem noticeRoom_handshakeExpires {s : State} (p : s.noticeRoom) : (handshakeExpires s).noticeRoom := by
  unfold handshakeExpires
  split
  · split
    · exact p
    · exact noticeRoom_pulseAndAbort p _
  · exact p

theorem noticeRoom_noticeWaitExpires {s : State} (p : s.noticeRoom) : (noticeWaitExpires s).noticeRoom := by
  unfold noticeWaitExpires
  split
  · split
    · exact noticeRoom_pulseAndAbort p _
    · exact p
  · exact p

theorem sameOutside_holdExpires (r : HoldIx) (s : State) : SameOutside s (holdExpires r s) := by
  unfold holdExpires
  split
  · exact (sameOutside_endHold r .holdExpired s).trans (sameOutside_settle _)
  · exact .rfl' s

theorem sameOutside_backoffExpires (k : SlotIx) (s : State) : SameOutside s (backoffExpires k s) := by
  unfold backoffExpires
  split
  · exact (((SameOutside.rfl' s).writeSlot k _).replan k).trans (sameOutside_settle _)
  · exact .rfl' s

theorem noticeRoom_idleStep {s : State} (p : s.noticeRoom) : (idleStep s).noticeRoom := by
  have hold : ∀ t r, SameOutside t (expireHold t r) := fun t r => by
    unfold expireHold
    split
    · split
      · exact sameOutside_holdExpires r t
      · exact .rfl' t
    · exact .rfl' t
  have backoff : ∀ t k, SameOutside t (expireBackoff t k) := fun t k => by
    unfold expireBackoff
    split
    · exact sameOutside_backoffExpires k t
    · exact .rfl' t
  have wait : ∀ t, t.noticeRoom → (expireWait t).noticeRoom := fun t p => by
    unfold expireWait
    split
    · split
      · exact noticeRoom_noticeWaitExpires (noticeRoom_handshakeExpires p)
      · exact p
    · exact p
  have timers : ∀ t, t.noticeRoom → (runTimers t).noticeRoom := fun t =>
    noticeRoom_of_same (s := t) rfl rfl rfl rfl rfl rfl rfl
  unfold idleStep
  split
  · exact p
  · exact wait _ (noticeRoom_of_outside ((SameOutside.foldl hold _ _).trans (SameOutside.foldl backoff _ _))
      (timers _ (noticeRoom_of_outside (sameOutside_takeLeaveFinal s) p)))

/-! ## Steps -/

theorem noticeRoom_hostWrite {f : State → State} {s : State} (h : s.noticeRoom → (f s).noticeRoom) (p : s.noticeRoom) :
    (hostWrite f s).noticeRoom := by
  unfold hostWrite
  split
  · exact p
  · exact h p

theorem noticeRoom_linkEvent {f : State → State} {s : State} (h : s.noticeRoom → (f s).noticeRoom) (p : s.noticeRoom) :
    (linkEvent f s).noticeRoom := by
  unfold linkEvent
  split
  · exact p
  · exact h p

theorem noticeRoom_wordEvent {take follow : State → State} {s : State} (h : s.por = false → s.noticeRoom → (take s).noticeRoom)
    (g : s.noticeRoom → (follow s).noticeRoom) (p : s.noticeRoom) : (wordEvent take follow s).noticeRoom := by
  unfold wordEvent
  split
  · exact g p
  · rename_i por
    exact h (Bool.eq_false_iff.mpr por) p

theorem noticeRoom_stageAndSubmit {f : Staging → Staging} {s t : State} (h : stageAndSubmit f s = .next t)
    (p : s.noticeRoom) : t.noticeRoom := by
  cases h
  exact noticeRoom_hostWrite (fun p => noticeRoom_submit (s := setStaging f s)
    (noticeRoom_of_same (s := s) rfl rfl rfl rfl rfl rfl rfl p)) p

theorem noticeRoom_exec {c : Instr} {s t : State} (h : exec c s = .next t) (p : s.noticeRoom) : t.noticeRoom := by
  cases c with
  | load | store | swap | release | hold | unhold | guard | notice | flush | join | leave | badCodeSubmit =>
    exact noticeRoom_stageAndSubmit h p
  | cqpop => cases h; exact noticeRoom_hostWrite (noticeRoom_of_outside (popCompletion_outside s)) p
  | nqpop => cases h; exact noticeRoom_hostWrite noticeRoom_popNotice p
  | softreset | linkclear | npause | cqe | nqe | atte =>
    cases h; exact noticeRoom_hostWrite (fun p => noticeRoom_writeControl p _) p
  | causeClear | counterClear =>
    cases h; exact noticeRoom_hostWrite (noticeRoom_of_outside ((SameOutside.rfl' s).setCompletion _)) p
  | registerWrite => cases h; exact noticeRoom_hostWrite (fun p => noticeRoom_writeRegister p _ _) p
  | por => cases h; exact noticeRoom_of_noTenure rfl p.1
  | porRelease => cases h; exact noticeRoom_of_noTenure rfl (Nat.zero_le _)
  | arbitrationPhaseOpen wordOpens =>
    cases h
    split
    · rename_i por
      split
      · exact p
      · exact noticeRoom_standOutside (.inr (p.2.2 por)) wordOpens p
    · exact noticeRoom_phaseOpens p wordOpens
  | requestWord ld next =>
    cases h
    exact noticeRoom_wordEvent (fun por p => noticeRoom_requestCompletes por p ld next)
      (fun p => noticeRoom_followRequest p ld next) p
  | h0Taken ld =>
    cases h; exact noticeRoom_wordEvent (fun por p => noticeRoom_h0Arrives por p ld) noticeRoom_followOpen p
  | h1Taken ld =>
    cases h; exact noticeRoom_wordEvent (fun por p => noticeRoom_h1Arrives por p ld) noticeRoom_followOpen p
  | wordComplete ld =>
    cases h
    refine noticeRoom_wordEvent (fun por p => ?_) noticeRoom_followCompletion p
    unfold wordCompletes
    split
    · exact noticeRoom_completeWord por ‹_› p ld
    · exact noticeRoom_followCompletion p
  | noticeResponseOpen =>
    cases h; exact noticeRoom_wordEvent (fun _ => noticeRoom_noticeResponseOpens) noticeRoom_followOpen p
  | responseWord present lines =>
    cases h
    exact noticeRoom_wordEvent (fun _ p => noticeRoom_responseCompletes p present lines) noticeRoom_followCompletion p
  | dataWord ld =>
    cases h; exact noticeRoom_wordEvent (fun _ p => noticeRoom_dataArrives p ld) noticeRoom_followOpen p
  | tenureEnd =>
    cases h
    split
    · rename_i por; exact noticeRoom_of_noTenure (p.2.2 por) p.1
    · exact noticeRoom_lbusyReleased p
  | linkClear =>
    cases h
    split
    · rename_i por; exact noticeRoom_of_noTenure (p.2.2 por) p.1
    · exact noticeRoom_abortLink p _
  | linkClearRelease => cases h; exact noticeRoom_clearReleased p
  | earlyLbusyFall => cases h; exact noticeRoom_wordEvent (fun _ => noticeRoom_lbusyFalls) noticeRoom_followFall p
  | handshakeTimeout => cases h; exact noticeRoom_linkEvent noticeRoom_handshakeExpires p
  | noticeWaitExpiry => cases h; exact noticeRoom_linkEvent noticeRoom_noticeWaitExpires p
  | holdExpiry r => cases h; exact noticeRoom_linkEvent (noticeRoom_of_outside (sameOutside_holdExpires r s)) p
  | backoffExpiry k => cases h; exact noticeRoom_linkEvent (noticeRoom_of_outside (sameOutside_backoffExpires k s)) p
  | leaveFinalStep => cases h; exact noticeRoom_linkEvent (noticeRoom_of_outside (sameOutside_takeLeaveFinal s)) p

/-- Settles O56: command by command, and over one microsecond. -/
theorem noticeRoomKept : Obligations.NoticeRoomKept := by
  intro s t p next
  unfold step at next
  split at next
  · exact noticeRoom_exec next (noticeRoom_of_same (s := s) rfl rfl rfl rfl rfl rfl rfl p)
  · cases next
    exact noticeRoom_idleStep p

end Sys2Proof.Machine

/-!
PROOF. What outlives a command: node ID, cold flag, timing fields and roster (R1, R84, R89, R180).
-/

namespace Sys2Proof.Machine

/-- The node ID, the cold flag and the timing fields stay. -/
structure Persists (s t : State) : Prop where
  nodeId : t.nodeId = s.nodeId
  cold : t.cold = s.cold
  timing : t.timing = s.timing

/-- And the roster stays with them. -/
structure Outlasts (s t : State) : Prop extends Persists s t where
  roster : t.link.roster = s.link.roster

theorem Persists.trans {s t u : State} (h : Persists s t) (g : Persists t u) : Persists s u :=
  ⟨g.nodeId.trans h.nodeId, g.cold.trans h.cold, g.timing.trans h.timing⟩

theorem Outlasts.ofSame {s t : State} (nodeId : t.nodeId = s.nodeId) (cold : t.cold = s.cold) (timing : t.timing = s.timing)
    (roster : t.link.roster = s.link.roster) : Outlasts s t := ⟨⟨nodeId, cold, timing⟩, roster⟩

theorem Outlasts.refl (s : State) : Outlasts s s := .ofSame rfl rfl rfl rfl

theorem Outlasts.trans {s t u : State} (h : Outlasts s t) (g : Outlasts t u) : Outlasts s u :=
  ⟨h.toPersists.trans g.toPersists, g.roster.trans h.roster⟩

theorem Outlasts.setLink {s : State} {x : LinkUnit} (roster : x.roster = s.link.roster) : Outlasts s (s.setLink x) :=
  .ofSame rfl rfl rfl roster

theorem SameOutside.outlasts {s t : State} (h : SameOutside s t) : Outlasts s t :=
  .ofSame h.nodeId h.cold h.timing (by rw [← h.link])

/-! ## Operations -/

theorem outlasts_tryTake (s : State) : Outlasts s (tryTake s) := by
  obtain ⟨_, e⟩ | ⟨_, b, _, _, e | ⟨_, _, e⟩⟩ := tryTake_cases s <;> rw [e]
  · exact .refl s
  · exact .ofSame rfl rfl rfl rfl
  · exact .ofSame rfl rfl rfl rfl

theorem outlasts_popNotice (s : State) : Outlasts s (popNotice s) := by
  unfold popNotice
  split
  · exact .refl s
  · refine .trans ?_ (outlasts_tryTake _)
    exact .ofSame rfl rfl rfl rfl

theorem outlasts_dropBuffers (s : State) : Outlasts s (dropBuffers s) := .ofSame rfl rfl rfl rfl

theorem outlasts_linkIdle (s : State) : Outlasts s (linkIdle s) := .setLink rfl

theorem outlasts_abortLink (d : Delivery) (s : State) : Outlasts s (abortLink d s) := by
  obtain ⟨_, e⟩ | ⟨_, e⟩ := abortLink_cases d s <;> rw [e]
  · have cleared : Outlasts s (clearLink s) := .setLink rfl
    exact ((cleared.trans (sameOutside_countLinkClear _).outlasts).trans (outlasts_dropBuffers _)).trans
      (sameOutside_slotTurns _ _ _).outlasts
  · exact .ofSame rfl rfl rfl rfl

theorem outlasts_pulseAndAbort (d : Delivery) (s : State) : Outlasts s (pulseAndAbort d s) := by
  have pulsed : Outlasts s (drivePulse s) := .setLink rfl
  exact pulsed.trans (outlasts_abortLink d _)

theorem persists_softReset (s : State) : Persists s (softReset s) := by
  obtain ⟨_, nodeId, cold, _⟩ := softReset_keeps s
  refine ⟨nodeId, cold, ?_⟩
  show (softResetClear s).timing = s.timing
  unfold softResetClear
  split <;> rfl

/-- The fields of CONTROL and LINKCLEAR, as a word writes them (R199). -/
theorem outlasts_controlFields (word : Halfword) (s : State) :
    Outlasts s (if word.getLsbD 1 = true then hostPulse (tryTake (s.setControl (controlOf word)))
      else tryTake (s.setControl (controlOf word))) := by
  have fields : Outlasts s (tryTake (s.setControl (controlOf word))) := by
    refine .trans ?_ (outlasts_tryTake _)
    exact .ofSame rfl rfl rfl rfl
  split
  · exact fields.trans (outlasts_pulseAndAbort .cleared _)
  · exact fields

theorem outlasts_writeControl {word : Halfword} (noReset : word.getLsbD 0 = false) (s : State) :
    Outlasts s (writeControl word s) := by
  simp only [writeControl, noReset, Bool.false_eq_true, if_false]
  exact outlasts_controlFields word s

theorem persists_writeControl (word : Halfword) (s : State) : Persists s (writeControl word s) := by
  have reset : Persists s (if word.getLsbD 0 = true then softReset s else s) := by
    split
    · exact persists_softReset s
    · exact (Outlasts.refl s).toPersists
  exact reset.trans (outlasts_controlFields word _).toPersists

theorem outlasts_submit (s : State) : Outlasts s (submit s) := by
  obtain ⟨r, _, e⟩ | ⟨b, _, _, _, _, e⟩ := submit_cases s <;> rw [e]
  · exact .ofSame rfl rfl rfl rfl
  · refine .trans ?_ (sameOutside_settle _).outlasts
    exact .ofSame rfl rfl rfl rfl

/-- What a write to any register but CONTROL and TIMING leaves (R197). -/
theorem outlasts_writeRegister {offset : Nat} (control : offset ≠ 0x06) (timing1 : offset ≠ 0x0A) (timing2 : offset ≠ 0x0C)
    (word : Halfword) (s : State) : Outlasts s (writeRegister offset word s) := by
  unfold writeRegister
  split
  · exact absurd rfl control
  · exact .ofSame rfl rfl rfl rfl
  · exact absurd rfl timing1
  · exact absurd rfl timing2
  iterate 12 exact .ofSame rfl rfl rfl rfl
  · exact outlasts_submit s
  · exact (popCompletion_outside s).outlasts
  · exact outlasts_popNotice s
  iterate 5 exact .ofSame rfl rfl rfl rfl
  · exact .refl s

theorem outlasts_followOpen (s : State) : Outlasts s (followOpen s) := by
  rw [followOpen_link]; exact .setLink rfl

theorem outlasts_followCompletion (s : State) : Outlasts s (followCompletion s) := by
  rw [followCompletion_link]; exact .setLink rfl

theorem outlasts_followRequest (ld : Halfword) (next : AfterEmpty) (s : State) : Outlasts s (followRequest ld next s) := by
  unfold followRequest
  split
  · exact (outlasts_followCompletion s).trans (outlasts_followOpen _)
  · split
    · exact (outlasts_followCompletion s).trans (.setLink rfl)
    · exact .refl s
  · exact outlasts_followCompletion s
  · refine (outlasts_followCompletion s).trans ?_
    rw [followWin_link]; exact .setLink rfl

theorem outlasts_standOutside (wordOpens : Bool) (s : State) : Outlasts s (standOutside wordOpens s) := by
  have stands : Outlasts s (if s.shutOut = true then s else releaseTaken .phase s) := by
    split
    · exact .refl s
    · exact .setLink rfl
  unfold standOutside
  simp only
  split
  · exact stands.trans (outlasts_followOpen _)
  · exact stands

theorem outlasts_phaseOpens (wordOpens : Bool) (s : State) : Outlasts s (phaseOpens wordOpens s) := by
  unfold phaseOpens
  split
  · split
    · exact .refl s
    · split
      · exact outlasts_standOutside wordOpens s
      · refine (sameOutside_takeLeaveFinal s).outlasts.trans ?_
        unfold openPhase
        split
        · exact outlasts_standOutside wordOpens _
        · simp only
          split <;> exact .setLink rfl
  · split
    · exact .setLink rfl
    · exact .refl s
  · exact .refl s

theorem outlasts_requestCompletes (ld : Halfword) (next : AfterEmpty) (s : State) :
    Outlasts s (requestCompletes ld next s) := by
  unfold requestCompletes
  split
  · unfold completeRequest
    split
    · unfold emptyWord
      simp only
      split
      · exact .setLink rfl
      · split <;> exact .setLink rfl
    · split
      · split
        · exact .setLink rfl
        · split
          · exact .setLink rfl
          · exact .ofSame rfl rfl rfl rfl
      · exact .setLink rfl
  · exact outlasts_followRequest ld next s

theorem outlasts_counted {s t : State} (c : Prop) [Decidable c] (h : Outlasts s t) :
    Outlasts s (if c then countProtocolError t else t) := by
  split
  · exact h.trans (sameOutside_countProtocolError t).outlasts
  · exact h

theorem outlasts_wordCompletes (ld : Halfword) (s : State) : Outlasts s (wordCompletes ld s) := by
  unfold wordCompletes
  split
  · unfold completeWord
    split
    · split
      · split
        · exact .setLink rfl
        · exact outlasts_pulseAndAbort _ s
      · exact .setLink rfl
    · split
      · exact outlasts_pulseAndAbort _ s
      · exact .setLink rfl
    · unfold nextData
      split <;> exact .setLink rfl
    · exact .refl s
  · exact outlasts_followCompletion s

theorem outlasts_noticeResponseOpens (s : State) : Outlasts s (noticeResponseOpens s) := by
  unfold noticeResponseOpens
  split
  · split
    · split
      · refine .trans ?_ (outlasts_tryTake _)
        exact .setLink rfl
      · exact .setLink rfl
    · exact .refl s
  · exact outlasts_followOpen s

/-- The completion of a response word writes the roster, and nothing else that outlives a command (R84). -/
theorem persists_responseCompletes (present : NodeMask) (lines : RespLines) (s : State) :
    Persists s (responseCompletes present lines s) := by
  unfold responseCompletes
  split
  · split
    · unfold completeResponse
      simp only
      split
      · refine Persists.trans ?_ (outlasts_pulseAndAbort .duplicateId _).toPersists
        exact ⟨rfl, rfl, rfl⟩
      · unfold nextData
        split <;> exact ⟨rfl, rfl, rfl⟩
    · exact (Outlasts.refl s).toPersists
  · exact (outlasts_followCompletion s).toPersists

theorem outlasts_keepDataWord (tn : Tenure) (ld : Halfword) (s : State) : Outlasts s (keepDataWord tn ld s) := by
  unfold keepDataWord
  split
  · split
    · split <;> exact .ofSame rfl rfl rfl rfl
    · split <;> exact .ofSame rfl rfl rfl rfl
  · split <;> exact .ofSame rfl rfl rfl rfl

theorem outlasts_dataArrives (ld : Halfword) (s : State) : Outlasts s (dataArrives ld s) := by
  unfold dataArrives
  split
  · split
    · exact (outlasts_keepDataWord _ ld s).trans (.setLink (by
        rw [(keepDataWord_frame _ ld s).2.1]))
    · exact .refl s
  · exact outlasts_followOpen s

/-! ## The end of a tenure -/

/-- The end of a tenure clears the cold flag or leaves it, and leaves the rest (R183). -/
structure Ends (s t : State) : Prop where
  nodeId : t.nodeId = s.nodeId
  cold : t.cold = true → s.cold = true
  timing : t.timing = s.timing
  roster : t.link.roster = s.link.roster

theorem Outlasts.ends {s t : State} (h : Outlasts s t) : Ends s t := ⟨h.nodeId, fun c => h.cold ▸ c, h.timing, h.roster⟩

theorem Ends.then {s t u : State} (h : Ends s t) (g : Outlasts t u) : Ends s u :=
  ⟨g.nodeId.trans h.nodeId, fun c => h.cold (g.cold ▸ c), g.timing.trans h.timing, g.roster.trans h.roster⟩

theorem ends_commitTenure (tn : Tenure) (s : State) : Ends s (commitTenure tn s).1 := by
  unfold commitTenure
  split
  · unfold commitNotice
    split <;> exact ⟨rfl, id, rfl, rfl⟩
  · obtain ⟨joined, cold⟩ := commitJoin_outside tn s
    obtain ⟨⟨nodeId, _, timing⟩, roster⟩ := joined.outlasts
    refine ⟨nodeId, fun c => ?_, timing, roster⟩
    obtain same | clear := cold
    · exact same ▸ c
    · cases clear.symm.trans c
  · exact (sameOutside_commitVar tn _ _ s).outlasts.ends
  · exact (Outlasts.refl s).ends

theorem ends_endTenure (tn : Tenure) (s : State) : Ends s (endTenure tn s) := by
  by_cases committed : tn.outcome = some .committed
  · rw [endTenure_of_committed committed]
    have replanned : Outlasts (commitTenure tn s).1 (replanChanged s (commitTenure tn s).1) := .ofSame rfl rfl rfl rfl
    exact (((ends_commitTenure tn s).then replanned).then ((outlasts_dropBuffers _).trans (outlasts_linkIdle _))).then
      (sameOutside_slotTurns _ _ _).outlasts
  · unfold endTenure endState
    rw [if_neg committed]
    exact (((outlasts_dropBuffers s).trans (outlasts_linkIdle _)).trans (sameOutside_slotTurns _ _ _).outlasts).ends

theorem ends_lbusyReleased (s : State) : Ends s (lbusyReleased s) := by
  unfold lbusyReleased
  split
  · exact ends_endTenure _ s
  · exact ⟨rfl, id, rfl, rfl⟩
  · exact (Outlasts.refl s).ends

theorem outlasts_lbusyFalls (s : State) : Outlasts s (lbusyFalls s) := by
  have tenure : Outlasts s (if s.link.sender.isSome = true then s else pulseAndAbort .cleared s) := by
    split
    · exact .refl s
    · exact outlasts_pulseAndAbort _ s
  unfold lbusyFalls
  split
  · split
    · exact .refl s
    · split
      · exact outlasts_pulseAndAbort _ s
      · exact .setLink rfl
  · exact tenure
  · exact tenure
  · exact tenure
  · rw [followFall_link]; exact .setLink rfl
  · exact .refl s
  · exact .refl s

theorem outlasts_handshakeExpires (s : State) : Outlasts s (handshakeExpires s) := by
  unfold handshakeExpires
  split
  · split
    · exact .refl s
    · exact outlasts_pulseAndAbort _ s
  · exact .refl s

theorem outlasts_noticeWaitExpires (s : State) : Outlasts s (noticeWaitExpires s) := by
  unfold noticeWaitExpires
  split
  · split
    · exact outlasts_pulseAndAbort _ s
    · exact .refl s
  · exact .refl s

/-! ## Commands -/

theorem outlasts_hostWrite {f : State → State} {s : State} (h : Outlasts s (f s)) : Outlasts s (hostWrite f s) := by
  unfold hostWrite
  split
  · exact .refl s
  · exact h

theorem persists_hostWrite {f : State → State} {s : State} (h : Persists s (f s)) : Persists s (hostWrite f s) := by
  unfold hostWrite
  split
  · exact (Outlasts.refl s).toPersists
  · exact h

theorem outlasts_linkEvent {f : State → State} {s : State} (h : Outlasts s (f s)) : Outlasts s (linkEvent f s) := by
  unfold linkEvent
  split
  · exact .refl s
  · exact h

theorem outlasts_wordEvent {take follow : State → State} {s : State} (h : Outlasts s (take s))
    (g : Outlasts s (follow s)) : Outlasts s (wordEvent take follow s) := by
  unfold wordEvent
  split
  · exact g
  · exact h

theorem outlasts_stageAndSubmit {f : Staging → Staging} {s t : State} (h : stageAndSubmit f s = .next t) :
    Outlasts s t := by
  cases h
  have staged : Outlasts s (setStaging f s) := .ofSame rfl rfl rfl rfl
  exact outlasts_hostWrite (staged.trans (outlasts_submit _))

/-- CONTROL as firmware writes it back resets nothing (R199). -/
theorem controlWith_noReset (c : Control) : (controlWith c).getLsbD 0 = false := by
  obtain ⟨npause, cqe, nqe, atte⟩ := c
  revert npause cqe nqe atte
  decide

/-- No address line carries bit 0 (R196). -/
theorem registerOffset_eq (offset : BitVec 7) : registerOffset offset = (offset &&& 0x7E).toNat := by
  revert offset
  decide

/-- The commands that end a tenure, complete a response word, write a register or CONTROL, or are a release of POR. -/
def Instr.changesWhatOutlives : Instr → Bool
  | .softreset _ | .linkclear _ | .registerWrite _ _ | .porRelease _ | .responseWord _ _ | .tenureEnd => true
  | _ => false

theorem outlasts_exec {c : Instr} (h : Instr.changesWhatOutlives c = false) {s t : State} (next : exec c s = .next t) :
    Outlasts s t := by
  cases c with
  | load | store | swap | release | hold | unhold | guard | notice | flush | join | leave | badCodeSubmit =>
    exact outlasts_stageAndSubmit next
  | softreset | linkclear | registerWrite | porRelease | responseWord | tenureEnd => cases h
  | cqpop => cases next; exact outlasts_hostWrite (popCompletion_outside s).outlasts
  | nqpop => cases next; exact outlasts_hostWrite (outlasts_popNotice s)
  | npause | cqe | nqe | atte => cases next; exact outlasts_hostWrite (outlasts_writeControl (controlWith_noReset _) s)
  | causeClear | counterClear => cases next; exact outlasts_hostWrite (.ofSame rfl rfl rfl rfl)
  | por => cases next; exact .ofSame rfl rfl rfl rfl
  | arbitrationPhaseOpen wordOpens =>
    cases next
    split
    · split
      · exact .refl s
      · exact outlasts_standOutside wordOpens s
    · exact outlasts_phaseOpens wordOpens s
  | requestWord ld after =>
    cases next; exact outlasts_wordEvent (outlasts_requestCompletes ld after s) (outlasts_followRequest ld after s)
  | h0Taken ld =>
    cases next
    refine outlasts_wordEvent ?_ (outlasts_followOpen s)
    unfold h0Arrives takeH0
    split
    · exact outlasts_counted _ (.setLink rfl)
    · exact outlasts_followOpen s
  | h1Taken ld =>
    cases next
    refine outlasts_wordEvent ?_ (outlasts_followOpen s)
    unfold h1Arrives takeH1
    split
    · exact outlasts_counted _ (.setLink rfl)
    · exact outlasts_followOpen s
  | wordComplete ld => cases next; exact outlasts_wordEvent (outlasts_wordCompletes ld s) (outlasts_followCompletion s)
  | noticeResponseOpen => cases next; exact outlasts_wordEvent (outlasts_noticeResponseOpens s) (outlasts_followOpen s)
  | dataWord ld => cases next; exact outlasts_wordEvent (outlasts_dataArrives ld s) (outlasts_followOpen s)
  | linkClear =>
    cases next
    split
    · exact .setLink rfl
    · exact outlasts_abortLink _ s
  | linkClearRelease => cases next; exact .setLink rfl
  | earlyLbusyFall =>
    cases next
    exact outlasts_wordEvent (outlasts_lbusyFalls s) (by rw [followFall_link]; exact .setLink rfl)
  | handshakeTimeout => cases next; exact outlasts_linkEvent (outlasts_handshakeExpires s)
  | noticeWaitExpiry => cases next; exact outlasts_linkEvent (outlasts_noticeWaitExpires s)
  | holdExpiry r => cases next; exact outlasts_linkEvent (sameOutside_holdExpires r s).outlasts
  | backoffExpiry k => cases next; exact outlasts_linkEvent (sameOutside_backoffExpires k s).outlasts
  | leaveFinalStep => cases next; exact outlasts_linkEvent (sameOutside_takeLeaveFinal s).outlasts

theorem word_or_two_bit_zero (word : Halfword) : (word ||| 2#16).getLsbD 0 = word.getLsbD 0 := by
  simp [BitVec.getLsbD_or]

theorem persists_writeRegister {offset : Nat} (timing1 : offset ≠ 0x0A) (timing2 : offset ≠ 0x0C) (word : Halfword)
    (s : State) : Persists s (writeRegister offset word s) := by
  by_cases control : offset = 0x06
  · subst control; exact persists_writeControl word s
  · exact (outlasts_writeRegister control timing1 timing2 word s).toPersists

/-- Settles O60: only the register writes, the resets, the response word and the end of a tenure change any of the four,
each those named for it. -/
theorem onlyTheseChange : Obligations.OnlyTheseChange := by
  intro c s t next noRelease
  have unchanged : Outlasts s t → t.nodeId = s.nodeId ∧ (t.cold = true → s.cold = true) ∧
      (c ≠ .tenureEnd → t.cold = s.cold) ∧
      ((∀ o w, o &&& 0x7E = 0x0A ∨ o &&& 0x7E = 0x0C → c ≠ .registerWrite o w) → t.timing = s.timing) ∧
      ((∀ w, c ≠ .softreset w) → (∀ w, w.getLsbD 0 = true → c ≠ .linkclear w) →
        (∀ o w, o &&& 0x7E = 0x06 → w.getLsbD 0 = true → c ≠ .registerWrite o w) →
        (∀ p l, c ≠ .responseWord p l) → t.link.roster = s.link.roster) := fun h =>
    ⟨h.nodeId, fun cold => h.cold ▸ cold, fun _ => h.cold, fun _ => h.timing, fun _ _ _ _ => h.roster⟩
  cases c with
  | porRelease x => exact absurd rfl (noRelease x)
  | softreset word =>
    cases next
    have kept := persists_hostWrite (persists_writeControl (word ||| 1#16) s)
    exact ⟨kept.nodeId, fun cold => kept.cold ▸ cold, fun _ => kept.cold, fun _ => kept.timing,
      fun noReset => absurd rfl (noReset word)⟩
  | linkclear word =>
    cases next
    cases bit : word.getLsbD 0 with
    | false => exact unchanged (outlasts_hostWrite (outlasts_writeControl ((word_or_two_bit_zero word).trans bit) s))
    | true =>
      have kept := persists_hostWrite (persists_writeControl (word ||| 2#16) s)
      exact ⟨kept.nodeId, fun cold => kept.cold ▸ cold, fun _ => kept.cold, fun _ => kept.timing,
        fun _ noReset => absurd rfl (noReset word bit)⟩
  | registerWrite o word =>
    cases next
    have value := registerOffset_eq o
    by_cases timing : o &&& 0x7E = 0x0A ∨ o &&& 0x7E = 0x0C
    · have kept : (hostWrite (writeRegister (registerOffset o) word) s).nodeId = s.nodeId ∧
          (hostWrite (writeRegister (registerOffset o) word) s).cold = s.cold ∧
          (hostWrite (writeRegister (registerOffset o) word) s).link.roster = s.link.roster := by
        rw [value]
        unfold hostWrite
        split
        · exact ⟨rfl, rfl, rfl⟩
        · obtain e | e := timing <;> rw [e] <;> exact ⟨rfl, rfl, rfl⟩
      obtain ⟨nodeId, cold, roster⟩ := kept
      exact ⟨nodeId, fun c => cold ▸ c, fun _ => cold, fun other => absurd rfl (other o word timing), fun _ _ _ _ => roster⟩
    · have timing1 : registerOffset o ≠ 0x0A := fun e => timing (.inl (BitVec.eq_of_toNat_eq (value.symm.trans e)))
      have timing2 : registerOffset o ≠ 0x0C := fun e => timing (.inr (BitVec.eq_of_toNat_eq (value.symm.trans e)))
      have kept := persists_hostWrite (persists_writeRegister timing1 timing2 word s)
      refine ⟨kept.nodeId, fun c => kept.cold ▸ c, fun _ => kept.cold, fun _ => kept.timing, fun _ _ noReset _ => ?_⟩
      refine (outlasts_hostWrite ?_).roster
      by_cases control : registerOffset o = 0x06
      · rw [control]
        have at06 : o &&& 0x7E = 0x06 := BitVec.eq_of_toNat_eq (value.symm.trans control)
        exact outlasts_writeControl (Bool.eq_false_iff.mpr fun bit => noReset o word at06 bit rfl) s
      · exact outlasts_writeRegister control timing1 timing2 word s
  | responseWord present lines =>
    cases next
    have kept : Persists s (wordEvent (responseCompletes present lines) followCompletion s) := by
      unfold wordEvent
      split
      · exact (outlasts_followCompletion s).toPersists
      · exact persists_responseCompletes present lines s
    exact ⟨kept.nodeId, fun cold => kept.cold ▸ cold, fun _ => kept.cold, fun _ => kept.timing,
      fun _ _ _ other => absurd rfl (other present lines)⟩
  | tenureEnd =>
    cases next
    have ends : Ends s (if s.por then releaseTaken .nothing s else lbusyReleased s) := by
      split
      · exact ⟨rfl, id, rfl, rfl⟩
      · exact ends_lbusyReleased s
    exact ⟨ends.nodeId, ends.cold, fun other => absurd rfl other, fun _ => ends.timing, fun _ _ _ _ => ends.roster⟩
  | _ => exact unchanged (outlasts_exec rfl next)

end Sys2Proof.Machine

/-!
PROOF. The step, the submit rows as staging and one submit (R95, R96), and the laws right after reset (R195).
-/

namespace Sys2Proof.Machine

/-- Settles O1. -/
theorem stepRunsFrontCommand : Obligations.StepRunsFrontCommand := by
  intro s c rest pending
  unfold step
  rw [pending]

/-! ## The submit rows -/

/-- A submit row at a node that is not in POR (R95). -/
theorem stageAndSubmit_of_por_clear {s : State} (por : s.por = false) (f : Staging → Staging) :
    stageAndSubmit f s = .next (submit (s.setPort { s.port with staging := f s.port.staging })) :=
  congrArg Host.Outcome.next (hostWrite_of_por_clear por _)

theorem badCode_range : ∀ code : BitVec 4, codeIsBad code = true → code.toNat = 0 ∨ 12 ≤ code.toNat := by decide

/-- The codes 0 and 12 to 15 fail the first check (R96). -/
theorem formBody_of_badCode {code : BitVec 4} (bad : codeIsBad code = true) (nodeId : NodeId) {st : Staging}
    (staged : stagedCode st = code) : formBody nodeId st = .error .badCode := by
  have range := badCode_range code bad
  unfold formBody
  rw [staged]
  split <;> first | omega | rfl

theorem submit_of_error {s : State} {r : SubmitResult} (h : checkSubmit s = .error r) :
    submit s = s.setPort { s.port with result := r } := by simp only [submit, h]

theorem submit_of_ok {s : State} {b : Body} (h : checkSubmit s = .ok b) : submit s = settle (enqueue b s) := by
  simp only [submit, h]

theorem checkSubmit_of_formBody_error {s : State} {r : SubmitResult} (h : formBody s.nodeId s.port.staging = .error r) :
    checkSubmit s = .error r := by simp only [checkSubmit, h]

/-- Settles O3: each row is its staging and one submit, and a bad code is refused by the first check. -/
theorem submitRowsStageAndSubmit : Obligations.SubmitRowsStageAndSubmit := by
  intro s tag cvar carg0 carg1 payload por
  have row := fun f => stageAndSubmit_of_por_clear por f
  refine ⟨row _, row _, row _, row _, row _, row _, row _, row _, row _, row _, row _, fun code bad => ?_⟩
  refine (row fun st => { st with cmd := cmdWord code tag }).trans (congrArg Host.Outcome.next ?_)
  exact submit_of_error (checkSubmit_of_formBody_error (formBody_of_badCode bad _ (cmdWord_fields code tag).1))

/-! ## Reset -/

theorem emptyHolds_get (r : HoldIx) : emptyHolds[r] = none := by simp [emptyHolds]

/-- Settles O58. -/
theorem resetIsSafe : Obligations.ResetIsSafe :=
  ⟨creditLaw_of_reset rfl rfl rfl rfl rfl, agesRanked_empty rfl, rfl, fun _ listed => (by cases listed),
    fun r _ _ _ active => (by cases (emptyHolds_get r).symm.trans active), copyLaw_of_reset rfl rfl, Nat.zero_le _,
    noticeRoom_of_noTenure rfl (by unfold State.noticesFit; exact Nat.zero_le _)⟩

end Sys2Proof.Machine

/-!
PROOF. The notice pop with the holdoff it may end, and the writes of CONTROL (R154, R162, R175, R199).
-/

namespace Sys2Proof.Machine

/-! ## The end of a holdoff, case by case (R154) -/

theorem tryTake_of_open {s : State} (h : s.link.taken ≠ .withheld) : tryTake s = s := by
  have holding : s.holdingOff = false := by simpa [State.holdingOff] using h
  simp [tryTake, holding]

theorem holdingOff_of_withheld {s : State} (h : s.link.taken = .withheld) : s.holdingOff = true := by
  simp [State.holdingOff, h]

/-- A holding node with a reservation takes the word once NPAUSE is clear. -/
theorem tryTake_of_reserved {s : State} (withheld : s.link.taken = .withheld) (reserved : s.notices.reserved = true)
    (clear : s.control.npause = false) : tryTake s = s.setLink { s.link with taken := .follows } := by
  simp [tryTake, holdingOff_of_withheld withheld, reserved, clear]

/-- A holding node without a reservation takes one where there is room, and the word with NPAUSE clear. -/
theorem tryTake_of_room {s : State} (withheld : s.link.taken = .withheld) (unreserved : s.notices.reserved = false)
    (room : 0 < s.room) (clear : s.control.npause = false) :
    tryTake s = (s.setNotices { s.notices with reserved := true }).setLink { s.link with taken := .follows } := by
  simp [tryTake, holdingOff_of_withheld withheld, unreserved, room, clear]

/-- With NPAUSE set a holding node takes a reservation where there is room, and goes on holding. -/
theorem tryTake_of_paused {s : State} (withheld : s.link.taken = .withheld) (paused : s.control.npause = true)
    (room : s.notices.reserved = true ∨ 0 < s.room) :
    tryTake s = s.setNotices { s.notices with reserved := true } := by
  cases reserved : s.notices.reserved with
  | true =>
    have same : s.setNotices { s.notices with reserved := true } = s := by rw [← reserved]; rfl
    simp [tryTake, holdingOff_of_withheld withheld, reserved, paused, same]
  | false =>
    have free : 0 < s.room := room.resolve_left (by rw [reserved]; exact Bool.false_ne_true)
    simp [tryTake, holdingOff_of_withheld withheld, reserved, paused, free]

/-- A holdoff's end leaves the blocks outside notices and link (R154). -/
theorem tryTake_keeps (s : State) : (tryTake s).control = s.control ∧ (tryTake s).completion = s.completion ∧
    (tryTake s).port = s.port ∧ (tryTake s).timing = s.timing := by
  obtain ⟨_, e⟩ | ⟨_, b, _, _, e | ⟨_, _, e⟩⟩ := tryTake_cases s <;> rw [e] <;> exact ⟨rfl, rfl, rfl, rfl⟩

theorem exec_nqpop_of_por_clear {s : State} (por : s.por = false) : exec .nqpop s = .next (popNotice s) :=
  congrArg Host.Outcome.next (hostWrite_of_por_clear por popNotice)

/-- Settles O21, by the four ways a holdoff stands when the head notice leaves. -/
theorem noticePop : Obligations.NoticePop := by
  intro s por
  rw [exec_nqpop_of_por_clear por]
  refine ⟨fun empty => by simp only [popNotice, empty], fun n rest queue short => ?_⟩
  have popped : popNotice s = tryTake (s.setNotices { s.notices with inbound := rest }) := by
    simp only [popNotice, queue]
  rw [popped]
  have room : s.notices.reserved = false → 0 < (s.setNotices { s.notices with inbound := rest }).room := fun unreserved => by
    have value : (s.setNotices { s.notices with inbound := rest }).room = 16 - rest.length := by
      simp [State.room, unreserved, Config.inboundCapacity]
    omega
  generalize popped' : s.setNotices { s.notices with inbound := rest } = u at room ⊢
  have same : u.link = s.link ∧ u.control = s.control ∧ u.notices.reserved = s.notices.reserved := by
    subst popped'; exact ⟨rfl, rfl, rfl⟩
  obtain ⟨link, control, reservation⟩ := same
  refine ⟨fun open' => ?_, fun withheld unreserved clear => ?_, fun withheld paused => ?_⟩
  · rw [tryTake_of_open (by rw [link]; exact open')]
  · rw [tryTake_of_room (by rw [link]; exact withheld) (reservation.trans unreserved) (room unreserved)
      (by rw [control]; exact clear)]
    subst popped'
    rfl
  · rw [tryTake_of_paused (by rw [link]; exact withheld) (by rw [control]; exact paused)]
    · subst popped'
      rfl
    · cases reserved : s.notices.reserved with
      | true => exact .inl (reservation.trans reserved)
      | false => exact .inr (room reserved)

/-! ## The fields of CONTROL -/

/-- CONTROL written back as it is writes its fields as they stand (R199). -/
theorem controlOf_controlWith (c : Control) : controlOf (controlWith c) = c := by
  obtain ⟨npause, cqe, nqe, atte⟩ := c
  revert npause cqe nqe atte
  decide

theorem controlWith_noClear (c : Control) : (controlWith c).getLsbD 1 = false := by
  obtain ⟨npause, cqe, nqe, atte⟩ := c
  revert npause cqe nqe atte
  decide

/-- A write of CONTROL with neither SOFTRESET nor LINKCLEAR writes the fields, which may end a holdoff (R199). -/
theorem writeControl_of_fields {word : Halfword} (reset : word.getLsbD 0 = false) (clear : word.getLsbD 1 = false)
    (s : State) : writeControl word s = tryTake (s.setControl (controlOf word)) := by
  simp only [writeControl, reset, clear, Bool.false_eq_true, if_false]

theorem writeControl_controlWith (c : Control) (s : State) : writeControl (controlWith c) s = tryTake (s.setControl c) := by
  rw [writeControl_of_fields (controlWith_noReset c) (controlWith_noClear c), controlOf_controlWith]

/-- LINKCLEAR acts after the fields, as the host's pulse (R199). -/
theorem writeControl_of_linkclear {word : Halfword} (reset : word.getLsbD 0 = false) (clear : word.getLsbD 1 = true)
    (s : State) : writeControl word s = hostPulse (tryTake (s.setControl (controlOf word))) := by
  simp only [writeControl, reset, clear, Bool.false_eq_true, if_false, if_true]

section
variable {s : State} (por : s.por = false) (on : Bool) (word : Halfword)
include por

theorem exec_npause_of_por_clear : exec (.npause on) s = .next (tryTake (s.setControl { s.control with npause := on })) :=
  congrArg Host.Outcome.next ((hostWrite_of_por_clear por _).trans (writeControl_controlWith _ s))

theorem exec_cqe_of_por_clear : exec (.cqe on) s = .next (tryTake (s.setControl { s.control with cqe := on })) :=
  congrArg Host.Outcome.next ((hostWrite_of_por_clear por _).trans (writeControl_controlWith _ s))

theorem exec_nqe_of_por_clear : exec (.nqe on) s = .next (tryTake (s.setControl { s.control with nqe := on })) :=
  congrArg Host.Outcome.next ((hostWrite_of_por_clear por _).trans (writeControl_controlWith _ s))

theorem exec_atte_of_por_clear : exec (.atte on) s = .next (tryTake (s.setControl { s.control with atte := on })) :=
  congrArg Host.Outcome.next ((hostWrite_of_por_clear por _).trans (writeControl_controlWith _ s))

theorem exec_linkclear_of_por_clear : exec (.linkclear word) s = .next (writeControl (word ||| 2#16) s) :=
  congrArg Host.Outcome.next (hostWrite_of_por_clear por _)

theorem exec_softreset_of_por_clear : exec (.softreset word) s = .next (writeControl (word ||| 1#16) s) :=
  congrArg Host.Outcome.next (hostWrite_of_por_clear por _)

theorem exec_linkClear_of_por_clear : exec .linkClear s = .next (abortLink .cleared s) := by
  show Host.Outcome.next (if s.por = true then hearClear s else abortLink .cleared s) = _
  rw [if_neg (by rw [por]; exact Bool.false_ne_true)]

end

theorem controlOf_or_two (word : Halfword) : controlOf (word ||| 2#16) = controlOf word := by
  simp [controlOf, BitVec.getLsbD_or, -BitVec.getLsbD_eq_getElem]

theorem controlOf_or_one (word : Halfword) : controlOf (word ||| 1#16) = controlOf word := by
  simp [controlOf, BitVec.getLsbD_or, -BitVec.getLsbD_eq_getElem]

/-- A bit that is set is set again without a change. -/
theorem or_one_of_bit {word : Halfword} (bit : word.getLsbD 0 = true) : word ||| 1#16 = word := by
  apply BitVec.eq_of_getLsbD_eq
  intro i lt
  have one : (1#16).getLsbD i = decide (i = 0) := by
    rw [BitVec.getLsbD_one]; simp
  rw [BitVec.getLsbD_or, one]
  by_cases zero : i = 0
  · subst zero; rw [bit]; rfl
  · simp [zero]

/-- Settles O23. -/
theorem controlWrites : Obligations.ControlWrites := by
  intro s on word por
  refine ⟨exec_npause_of_por_clear por on, exec_cqe_of_por_clear por on, exec_nqe_of_por_clear por on,
    exec_atte_of_por_clear por on, fun noReset => ?_, fun reset => ?_, fun withheld reserved => ?_⟩
  · have reset' : (word ||| 2#16).getLsbD 0 = false := (word_or_two_bit_zero word).trans noReset
    have clear' : (word ||| 2#16).getLsbD 1 = true := by simp [BitVec.getLsbD_or, -BitVec.getLsbD_eq_getElem]
    refine ⟨_, exec_linkclear_of_por_clear por word, ?_⟩
    rw [writeControl_of_linkclear reset' clear', controlOf_or_two, exec_linkClear_of_por_clear]
    · rfl
    · exact (tryTake_frame _).1.trans por
  · rw [exec_linkclear_of_por_clear por, exec_softreset_of_por_clear por]
    have bit : (word ||| 2).getLsbD 0 = true := (word_or_two_bit_zero word).trans reset
    rw [or_one_of_bit bit]
    rfl
  · rw [exec_npause_of_por_clear por]
    exact congrArg Host.Outcome.next
      (tryTake_of_reserved (s := s.setControl { s.control with npause := false }) withheld reserved rfl)

/-! ## IRQ (R175) -/

theorem regControl_fields (s : State) : (regControl s).getLsbD 8 = s.control.cqe ∧ (regControl s).getLsbD 9 = s.control.nqe ∧
    (regControl s).getLsbD 10 = s.control.atte := by
  unfold regControl
  generalize s.control = c
  obtain ⟨npause, cqe, nqe, atte⟩ := c
  revert npause cqe nqe atte
  decide

/-- CAUSE and the causes of IRQ are read from the inbound queue and the completion unit alone. -/
theorem causes_of_same {s t : State} (inbound : t.notices.inbound = s.notices.inbound)
    (completion : t.completion = s.completion) : t.cq = s.cq ∧ t.nq = s.nq ∧ regCause t = regCause s := by
  have cq : t.cq = s.cq := by simp only [State.cq, completion]
  have nq : t.nq = s.nq := by simp only [State.nq, inbound]
  exact ⟨cq, nq, by simp only [regCause, cq, nq, completion]⟩

/-- A write of an enable: the field reads back, CAUSE stays, and IRQ is the level the enables now give. -/
theorem enable_written {s : State} (por : s.por = false) (c : Control) :
    (tryTake (s.setControl c)).control = c ∧ (tryTake (s.setControl c)).hostRead 0x08 = s.hostRead 0x08 ∧
      (tryTake (s.setControl c)).irq =
        ((s.cq && c.cqe) || (s.nq && c.nqe) || (s.completion.latched.any && c.atte)) := by
  obtain ⟨control, completion, _, _⟩ := tryTake_keeps (s.setControl c)
  obtain ⟨samePor, inbound⟩ := tryTake_frame (s.setControl c)
  obtain ⟨cq, nq, cause⟩ := causes_of_same (s := s) inbound completion
  obtain ⟨_, _, _, read, _⟩ := hostRead_status por
  obtain ⟨_, _, _, read', _⟩ := hostRead_status (samePor.trans por)
  refine ⟨control, by rw [read, read', cause], ?_⟩
  rw [State.irq, cq, nq, control, completion]
  rfl

/-- Settles O24. -/
theorem irqIsLevel : Obligations.IrqIsLevel := by
  intro s on por
  refine ⟨?_, ⟨_, hostRead_of_por_clear por 0x06, regControl_fields s⟩,
    ⟨_, exec_cqe_of_por_clear por on, enable_written por _⟩, ⟨_, exec_nqe_of_por_clear por on, enable_written por _⟩,
    ⟨_, exec_atte_of_por_clear por on, enable_written por _⟩⟩
  simp only [State.irq, State.cq, State.nq, Latched.any, Bool.or_eq_true, Bool.and_eq_true, Bool.not_eq_true',
    List.isEmpty_eq_false_iff, or_assoc]

end Sys2Proof.Machine

/-!
PROOF. The two resets and POR, and the register window by access class (R73, R194 to R202).
-/

namespace Sys2Proof.Machine

/-! ## Soft reset -/

/-- An OFFLINE node in IDLE observes nothing of its own pulse (R90, R92). -/
theorem hostPulse_unobserved {s : State} (idle : s.link.phase = .idle) (offline : s.participation = .offline) :
    hostPulse s = clearOutside (drivePulse s) := by
  have unobserved : (drivePulse s).observesClear = false := by
    simp [State.observesClear, State.inTenure, drivePulse, idle, offline]
  obtain ⟨observed, _⟩ | ⟨_, outside⟩ := abortLink_cases .cleared (drivePulse s)
  · rw [unobserved] at observed; cases observed
  · exact outside

/-- The command SOFTRESET, with LINKCLEAR in its word or not (R194, R199). -/
theorem exec_softreset_eq {s : State} (por : s.por = false) (word : Halfword) :
    exec (.softreset word) s = .next (if word.getLsbD 1 then
      clearOutside (drivePulse ((softReset s).setControl (controlOf word)))
      else (softReset s).setControl (controlOf word)) := by
  have bit : (word ||| 1#16).getLsbD 0 = true := by simp
  have clear : (word ||| 1#16).getLsbD 1 = word.getLsbD 1 := by simp [BitVec.getLsbD_or, -BitVec.getLsbD_eq_getElem]
  have pulse : hostPulse ((softReset s).setControl (controlOf word)) =
      clearOutside (drivePulse ((softReset s).setControl (controlOf word))) := hostPulse_unobserved rfl rfl
  rw [exec_softreset_of_por_clear por, writeControl_softreset bit, clear, controlOf_or_one, pulse]

/-- The lines of the link unit that a soft reset leaves as they are, after the clear it pulses as a participant (R194). -/
theorem softResetClear_link (s : State) :
    (softResetClear s).link.valid = (!s.inTenure && s.link.valid) ∧
      (softResetClear s).link.pulse = (if s.inTenure = true then 2 else s.link.pulse) ∧
      (softResetClear s).link.lclr = (s.inTenure || s.link.lclr) := by
  unfold softResetClear
  split
  · rename_i inTenure
    rw [inTenure]
    exact ⟨rfl, rfl, rfl⟩
  · rename_i outside
    rw [Bool.eq_false_iff.mpr outside]
    exact ⟨rfl, rfl, rfl⟩

theorem softResetClear_outside (s : State) :
    (softResetClear s).nodeId = s.nodeId ∧ (softResetClear s).por = s.por ∧ (softResetClear s).cold = s.cold ∧
      (softResetClear s).port = s.port ∧ (softResetClear s).timing = s.timing ∧
      (softResetClear s).home = s.home ∧ (softResetClear s).pending = s.pending := by
  unfold softResetClear
  split
  · simp [countLinkClear, latch, raiseCounter, clearLink, drivePulse]
  · exact ⟨rfl, rfl, rfl, rfl, rfl, rfl, rfl⟩

/-- A node whose queues and latched causes are empty asserts no IRQ (R175). -/
theorem irq_of_quiet {s : State} (completions : s.completion.queue = []) (inbound : s.notices.inbound = [])
    (latched : s.completion.latched = Latched.clear) : s.irq = false := by
  simp only [State.irq, State.cq, State.nq, completions, inbound, latched]
  rfl

theorem emptyCopy_fields {s : State} (h : s.copy = CopyUnit.empty) (i : EntryIx) : s.copy.entries[i].state = .none ∧
    s.copy.entries[i].tag = none ∧ s.copy.entries[i].reservedBy = none ∧ s.copy.entries[i].age = i.val := by
  rw [h, emptyCopy_entry]
  exact ⟨rfl, rfl, rfl, rfl⟩

theorem pinTaken_of_follows {s : State} (h : s.link.taken = .follows) : s.pinTaken = s.link.valid := by
  simp only [State.pinTaken, h]

/-- Settles O22: the blocks by the definition of the reset, the link unit with LINKCLEAR in the word and without. -/
theorem softResetEffects : Obligations.SoftResetEffects := by
  intro s word por
  obtain ⟨nodeId, samePor, cold, port, timing, home, pending⟩ := softResetClear_outside s
  obtain ⟨valid, pulse, lclr⟩ := softResetClear_link s
  obtain ⟨_, _, _, counters⟩ := softReset_keeps s
  have next := exec_softreset_eq por word
  have blocks : ∀ x : LinkUnit, ((softReset s).setControl (controlOf word)).setLink x =
      { softReset s with control := controlOf word, link := x } := fun x => rfl
  have whole : ∀ t : State, t = ((softReset s).setControl (controlOf word)).setLink t.link → t.irq = false := fun t e => by
    rw [e]; exact irq_of_quiet rfl rfl rfl
  have idle : ∀ k : SlotIx, (softReset s).tracker.slots[k] = Slot.idle := emptyTracker_slot
  have entries : ∀ i : EntryIx, _ := emptyCopy_fields (s := softReset s) rfl
  have homeUnit : (softReset s).home = ⟨s.home.records, []⟩ := by
    show HomeUnit.mk (softResetClear s).home.records [] = _
    rw [home]
  have portUnit : (softReset s).port = { s.port with queue := [] } := by
    show { (softResetClear s).port with queue := [] } = _
    rw [port]
  cases clear : word.getLsbD 1 with
  | true =>
    rw [clear, if_pos rfl] at next
    exact ⟨_, next, nodeId, samePor.trans por, rfl, cold, portUnit, timing, rfl, homeUnit, entries, rfl, idle, rfl,
      emptyHolds_get, rfl, rfl, rfl, rfl, counters, rfl, rfl, rfl, rfl, rfl, rfl, rfl, (if_pos (.inr rfl)).symm,
      by simp; rfl, by rw [pinTaken_of_follows rfl]; simp; rfl, whole _ rfl, pending⟩
  | false =>
    rw [clear, if_neg Bool.false_ne_true] at next
    exact ⟨_, next, nodeId, samePor.trans por, rfl, cold, portUnit, timing, rfl, homeUnit, entries, rfl, idle, rfl,
      emptyHolds_get, rfl, rfl, rfl, rfl, counters, rfl, rfl, rfl, rfl, rfl, rfl, rfl, pulse.trans (by simp),
      lclr.trans (by simp), (pinTaken_of_follows rfl).trans (valid.trans (by simp)), whole _ rfl, pending⟩

/-! ## POR -/

/-- The TAKEN contribution keeps its level while POR is asserted (R73). -/
theorem pinTaken_assertPor (s : State) : (assertPor s).pinTaken = s.pinTaken := by
  cases inTenure : s.inTenure with
  | true =>
    have taken : (assertPor s).link.taken = .frozen s.pinTaken := by
      show (if s.inTenure = true then TakenPin.frozen s.pinTaken else s.link.taken) = _
      rw [if_pos inTenure]
    simp only [State.pinTaken, taken]
  | false =>
    have taken : (assertPor s).link.taken = s.link.taken := by
      show (if s.inTenure = true then TakenPin.frozen s.pinTaken else s.link.taken) = _
      rw [if_neg (by rw [inTenure]; exact Bool.false_ne_true)]
    simp only [State.pinTaken, taken]
    rfl

theorem hostWrite_of_por {s : State} (por : s.por = true) (f : State → State) : hostWrite f s = s := by
  simp only [hostWrite, por, if_true]

/-- Settles O29. -/
theorem porSilences : Obligations.PorSilences := by
  refine ⟨fun s => ?_, fun s word offset on tag w por => ?_⟩
  · have silent : (assertPor s).drivesValid = false := rfl
    refine ⟨assertPor s, rfl, rfl, rfl, rfl, silent, rfl, rfl, rfl, ?_, pinTaken_assertPor s, rfl⟩
    rw [State.pinValid, silent, if_neg Bool.false_ne_true]
  · have ignored := fun f => congrArg (Host.Outcome.next (φ := Fault) (ρ := Refusal)) (hostWrite_of_por por f)
    refine ⟨?_, ignored _, ignored _, ignored _, ignored _, ignored _, ignored _, ignored _, ignored _, ignored _, ignored _,
      ignored _, ignored _, ignored _⟩
    rw [State.hostRead, if_pos por]

/-- Settles O30. -/
theorem porReleaseValues : Obligations.PorReleaseValues := by
  intro s straps
  have reset := resetContent_releasePor straps s
  obtain ⟨ident, _⟩ := hostRead_status reset.por
  have read := hostRead_of_por_clear reset.por
  exact ⟨_, rfl, rfl, rfl, rfl, rfl, rfl, rfl, rfl, rfl, rfl, fun _ => rfl, rfl, emptyCopy_fields (s := releasePor straps s) rfl,
    rfl, emptyTracker_slot, rfl, emptyHolds_get, rfl, rfl, rfl, rfl, rfl, rfl, rfl, irq_of_quiet rfl rfl rfl,
    pinTaken_assertPor s, rfl, ident.trans (congrArg some (regIdent_eq _)), reset.hostRead_state, (read 0x0A).trans (congrArg some (by show 0#3 ++ Config.porRetryLimit ++ Config.porHandshake = 0x0F32#16; decide)),
    (read 0x0C).trans (congrArg some (by show Config.porNoticeWait ++ Config.porBackoffUnit = 0x0A08#16; decide)), reset.hostRead_credits⟩

/-! ## The register window -/

/-- The offsets at which a write does something (R197). -/
def writableOffsets : List Nat :=
  [0x06, 0x08, 0x0A, 0x0C, 0x10, 0x12, 0x14, 0x16, 0x18, 0x1A, 0x1C, 0x1E, 0x20, 0x22, 0x24, 0x26, 0x28, 0x48, 0x62, 0x70,
    0x72, 0x74, 0x76, 0x78]

/-- A write to a read-only register or an unmapped offset is ignored (R197). -/
theorem writeRegister_of_readOnly {offset : Nat} (h : offset ∉ writableOffsets) (word : Halfword) (s : State) :
    writeRegister offset word s = s := by
  unfold writeRegister
  split
  iterate 24 exact absurd (by decide) h
  rfl

theorem exec_registerWrite_of_por_clear {s : State} (por : s.por = false) (offset : BitVec 7) (word : Halfword) :
    exec (.registerWrite offset word) s = .next (writeRegister (registerOffset offset) word s) :=
  congrArg Host.Outcome.next (hostWrite_of_por_clear por _)

/-- A word whose one bit stands at `k`, set into a word that has it set (R199). -/
theorem or_of_bit {word mask : Halfword} {k : Nat} (single : ∀ i, mask.getLsbD i = decide (i = k))
    (bit : word.getLsbD k = true) : word ||| mask = word := by
  apply BitVec.eq_of_getLsbD_eq
  intro i _
  rw [BitVec.getLsbD_or, single]
  by_cases same : i = k
  · subst same; simp [bit, -BitVec.getLsbD_eq_getElem]
  · simp [same]

theorem two_bit (i : Nat) : (2#16).getLsbD i = decide (i = 1) := by
  have e : (2#16) = BitVec.twoPow 16 1 := rfl
  rw [e, BitVec.getLsbD_twoPow]
  by_cases one : i = 1 <;> simp [one, eq_comm]

/-- TIMING2's two fields are the word written (R201). -/
theorem timing2_word (word : Halfword) : word.extractLsb' 8 8 ++ word.extractLsb' 0 8 = word := by
  apply BitVec.eq_of_getLsbD_eq
  intro i lt
  interval_cases i <;> simp [BitVec.getLsbD_append, -BitVec.getLsbD_eq_getElem, -Nat.reduceAdd]

/-- TIMING1 keeps bits 12 to 0 of the word written (R201). -/
theorem timing1_word (word : Halfword) : 0#3 ++ word.extractLsb' 8 5 ++ word.extractLsb' 0 8 = word &&& 0x1FFF#16 := by
  apply BitVec.eq_of_getLsbD_eq
  intro i lt
  rw [BitVec.getLsbD_and]
  interval_cases i <;> simp [BitVec.getLsbD_append, BitVec.getLsbD_extractLsb', -BitVec.getLsbD_eq_getElem, -Nat.reduceAdd]

/-- CONTROL reads the four kept bits of the word written (R199). -/
theorem control_word (word : Halfword) : controlWith (controlOf word) = word &&& 0x0710#16 := by
  apply BitVec.eq_of_getLsbD_eq
  intro i lt
  rw [BitVec.getLsbD_and]
  have flag : ∀ (b : Bool) j, (flagBit b).getLsbD j = (decide (j = 0) && b) := fun b j => by
    cases b <;> cases j <;> simp [flagBit, -BitVec.getLsbD_eq_getElem]
  unfold controlWith controlOf
  interval_cases i <;> simp [BitVec.getLsbD_append, flag, -BitVec.getLsbD_eq_getElem, -Nat.reduceAdd]

/-- A clear leaves POR and CONTROL (R91). -/
theorem abortLink_control (d : Delivery) (s : State) :
    (abortLink d s).por = s.por ∧ (abortLink d s).control = s.control := by
  obtain ⟨_, e⟩ | ⟨_, e⟩ := abortLink_cases d s <;> rw [e]
  · have turns := sameOutside_slotTurns s.link.sender d (dropBuffers (countLinkClear (clearLink s)))
    have counted := sameOutside_countLinkClear (clearLink s)
    exact ⟨turns.por.trans counted.por, turns.control.trans counted.control⟩
  · exact ⟨rfl, rfl⟩

/-- A write of CONTROL leaves POR, and the four kept fields as written (R199). -/
theorem writeControl_control (word : Halfword) (s : State) :
    (writeControl word s).por = s.por ∧ (writeControl word s).control = controlOf word := by
  have fields : ∀ u : State, (tryTake (u.setControl (controlOf word))).por = u.por ∧
      (tryTake (u.setControl (controlOf word))).control = controlOf word := fun u =>
    ⟨(tryTake_frame _).1, (tryTake_keeps _).1⟩
  have reset : (if word.getLsbD 0 = true then softReset s else s).por = s.por := by
    split
    · exact (softReset_keeps s).1
    · rfl
  unfold writeControl
  simp only
  obtain ⟨por, control⟩ := fields (if word.getLsbD 0 = true then softReset s else s)
  split
  · obtain ⟨por', control'⟩ := abortLink_control .cleared
      (drivePulse (tryTake ((if word.getLsbD 0 = true then softReset s else s).setControl (controlOf word))))
    exact ⟨por'.trans (por.trans reset), control'.trans control⟩
  · exact ⟨por.trans reset, control⟩

theorem regControl_eq (s : State) : regControl s = controlWith s.control := rfl

theorem hostRead_after {s t : State} {offset : BitVec 7} {word x : Halfword} (por : s.por = false)
    (next : exec (.registerWrite offset word) s = .next t)
    (stays : (writeRegister (registerOffset offset) word s).por = s.por)
    (reads : readRegister (writeRegister (registerOffset offset) word s) (registerOffset offset) = x) :
    t.hostRead offset = some x := by
  cases (exec_registerWrite_of_por_clear por offset word).symm.trans next
  rw [hostRead_of_por_clear (stays.trans por), reads]

/-- Settles O28: register by register through the access classes. -/
theorem registerWritesByClass : Obligations.RegisterWritesByClass := by
  refine ⟨fun s word por => ?_, fun s offset word => ?_, fun s t word por offset mem next => ?_, fun s t word por next => ?_,
    fun s word por => ?_, fun s word offset mem => ?_⟩
  · have write := fun offset => exec_registerWrite_of_por_clear por offset word
    refine ⟨write 0x10, write 0x12, write 0x14, write 0x16, fun k => ?_, write 0x0A, write 0x0C, write 0x28,
      (write 0x62).trans (exec_nqpop_of_por_clear por).symm⟩
    rw [write]
    fin_cases k <;> rfl
  · have same : registerOffset (offset &&& 0x7E) = registerOffset offset := by
      revert offset
      decide
    show Host.Outcome.next (hostWrite (writeRegister (registerOffset offset) word) s) = _
    rw [← same]
    rfl
  · simp only [List.mem_cons, List.not_mem_nil, or_false] at mem
    obtain rfl | rfl | rfl | rfl | rfl | rfl | rfl | rfl | rfl | rfl | rfl | rfl | rfl := mem
    iterate 4 exact hostRead_after por next rfl rfl
    iterate 8 exact hostRead_after por next rfl (Vector.getElem_set_self _)
    exact hostRead_after por next rfl (timing2_word word)
  · exact hostRead_after por next rfl (timing1_word word)
  · have write := exec_registerWrite_of_por_clear por 0x06 word
    refine ⟨fun reset clear => write.trans (congrArg Host.Outcome.next (writeControl_of_fields reset clear s)),
      fun reset => ?_, fun clear => ?_, _, write, ?_⟩
    · rw [write, exec_softreset_of_por_clear por, or_one_of_bit reset]
      rfl
    · rw [write, exec_linkclear_of_por_clear por, or_of_bit two_bit clear]
      rfl
    · obtain ⟨samePor, control⟩ := writeControl_control word s
      refine hostRead_after por write samePor ?_
      show regControl (writeControl word s) = _
      rw [regControl_eq, control, control_word]
      rfl
  · have readOnly : registerOffset offset ∉ writableOffsets := by
      revert offset
      decide
    show Host.Outcome.next (hostWrite (writeRegister (registerOffset offset) word) s) = _
    unfold hostWrite
    rw [writeRegister_of_readOnly readOnly, ite_self]

end Sys2Proof.Machine

/-!
PROOF. Arbitration: the phase that opens, the bid that wins, and the request words this node does not win (R77 to R80).
-/

namespace Sys2Proof.Machine

/-! ## Link events out of POR -/

theorem linkEvent_of_por_clear {s : State} (por : s.por = false) (f : State → State) : linkEvent f s = f s := by
  rw [linkEvent, por, if_neg Bool.false_ne_true]

theorem wordEvent_of_por_clear {s : State} (por : s.por = false) (take follow : State → State) :
    wordEvent take follow s = take s := by
  rw [wordEvent, por, if_neg Bool.false_ne_true]

theorem exec_arbitrationPhaseOpen_of_por_clear {s : State} (por : s.por = false) (wordOpens : Bool) :
    exec (.arbitrationPhaseOpen wordOpens) s = .next (phaseOpens wordOpens s) :=
  congrArg Host.Outcome.next (if_neg (by rw [por]; exact Bool.false_ne_true))

theorem exec_requestWord_of_por_clear {s : State} (por : s.por = false) (ld : Halfword) (next : AfterEmpty) :
    exec (.requestWord ld next) s = .next (requestCompletes ld next s) :=
  congrArg Host.Outcome.next (wordEvent_of_por_clear por _ _)

theorem exec_h0Taken_of_por_clear {s : State} (por : s.por = false) (ld : Halfword) :
    exec (.h0Taken ld) s = .next (h0Arrives ld s) := congrArg Host.Outcome.next (wordEvent_of_por_clear por _ _)

theorem exec_h1Taken_of_por_clear {s : State} (por : s.por = false) (ld : Halfword) :
    exec (.h1Taken ld) s = .next (h1Arrives ld s) := congrArg Host.Outcome.next (wordEvent_of_por_clear por _ _)

theorem exec_wordComplete_of_por_clear {s : State} (por : s.por = false) (ld : Halfword) :
    exec (.wordComplete ld) s = .next (wordCompletes ld s) :=
  congrArg Host.Outcome.next (wordEvent_of_por_clear por _ _)

theorem exec_noticeResponseOpen_of_por_clear {s : State} (por : s.por = false) :
    exec .noticeResponseOpen s = .next (noticeResponseOpens s) :=
  congrArg Host.Outcome.next (wordEvent_of_por_clear por _ _)

theorem exec_responseWord_of_por_clear {s : State} (por : s.por = false) (present : NodeMask) (lines : RespLines) :
    exec (.responseWord present lines) s = .next (responseCompletes present lines s) :=
  congrArg Host.Outcome.next (wordEvent_of_por_clear por _ _)

theorem exec_dataWord_of_por_clear {s : State} (por : s.por = false) (ld : Halfword) :
    exec (.dataWord ld) s = .next (dataArrives ld s) := congrArg Host.Outcome.next (wordEvent_of_por_clear por _ _)

/-! ## A node outside -/

theorem followOpen_of_open {s : State} (isOpen : s.link.wordOpen = true) : followOpen s = s := by
  simp [followOpen, isOpen]

theorem followOpen_of_not_follows {s : State} (h : s.follows = false) : followOpen s = s := by
  simp [followOpen, h]

theorem followOpen_of_closed {s : State} (idle : s.link.phase = .idle) (outside : s.link.outside ≠ .nothing)
    (closed : s.link.wordOpen = false) :
    followOpen s = s.setLink { s.link with wordOpen := true, valid := !s.link.valid } := by
  simp [followOpen, State.follows, idle, outside, closed]

theorem shutOut_of_outside {s : State} (h : s.link.outside = .phase ∨ s.link.outside = .tenure
    ∨ (s.link.outside = .lost ∧ s.link.wordOpen = true)) : s.shutOut = true := by
  obtain outside | outside | ⟨outside, isOpen⟩ := h <;> simp [State.shutOut, *]

theorem not_shutOut {s : State} (h : s.link.outside = .nothing ∨ (s.link.outside = .lost ∧ s.link.wordOpen = false)) :
    s.shutOut = false := by
  obtain outside | ⟨outside, closed⟩ := h <;> simp [State.shutOut, *]

/-- A node outside follows VALID where a word opens (R73). -/
theorem standOutside_of_shutOut {s : State} (idle : s.link.phase = .idle) (shut : s.shutOut = true) (wordOpens : Bool) :
    standOutside wordOpens s = s.setLink { s.link with
      wordOpen := s.link.wordOpen || wordOpens
      valid := s.link.valid != (wordOpens && !s.link.wordOpen) } := by
  have outside : s.link.outside ≠ .nothing := fun none => by simp [State.shutOut, none] at shut
  cases wordOpens with
  | false => simp [standOutside, shut, State.setLink]
  | true => cases isOpen : s.link.wordOpen with
    | false => simp [standOutside, shut, followOpen_of_closed idle outside isOpen, isOpen]
    | true =>
      have same : s = s.setLink { s.link with wordOpen := true } :=
        congrArg (fun b => s.setLink { s.link with wordOpen := b }) isOpen
      simpa [standOutside, shut, followOpen_of_open isOpen] using same

theorem standOutside_of_not_shutOut {s : State} (idle : s.link.phase = .idle) (shut : s.shutOut = false) (wordOpens : Bool) :
    standOutside wordOpens s = s.setLink { s.link with
      outside := .phase, taken := .follows, wordOpen := wordOpens, valid := s.link.valid != wordOpens } := by
  cases wordOpens with
  | false => simp [standOutside, shut, releaseTaken]
  | true =>
    have opened := followOpen_of_closed (s := releaseTaken .phase s) idle nofun rfl
    simp [standOutside, shut, opened]
    rfl

/-! ## Opening a phase -/

theorem phaseOpens_of_idle {s : State} (idle : s.link.phase = .idle) (wordOpens : Bool) :
    phaseOpens wordOpens s = if s.link.lclr then s else if s.shutOut then standOutside wordOpens s
      else openPhase wordOpens (takeLeaveFinal s) := by
  rw [phaseOpens, idle]

theorem takeLeaveFinal_of_none {s : State} (none : s.leaveDue = none) : takeLeaveFinal s = s := by
  rw [takeLeaveFinal, none]

/-- A participant enters ARBITRATE: the first request word is open, or awaited (R77, R78, R86). -/
theorem openPhase_of_participant {s : State} (participant : s.participation ≠ .offline) (wordOpens : Bool) :
    openPhase wordOpens s = if wordOpens || s.frameReady then
      s.setLink { s.link with
        phase := .arbitrate
        outside := .nothing
        taken := .follows
        wordOpen := true
        valid := !s.link.valid
        opener := s.frameReady
        bidding := s.frameReady && !s.link.inhibit
        wait := some ⟨.wordCompletion, max 1 s.timing.handshake.toNat⟩ }
    else s.setLink { s.link with
        phase := .arbitrate
        outside := .nothing
        taken := .follows
        wordOpen := false
        wait := some ⟨.firstRequest, max 1 s.timing.handshake.toNat⟩ } := by
  rw [openPhase, if_neg participant]
  rfl

/-- LD in an open request word: this node's bid (R78). -/
theorem pinLd_of_arbitrate {s : State} (por : s.por = false) (phase : s.link.phase = .arbitrate)
    (isOpen : s.link.wordOpen = true) : s.pinLd = s.bidWord := by
  simp [State.pinLd, por, phase, isOpen]

theorem drivesValid_of_arbitrate {s : State} (por : s.por = false) (phase : s.link.phase = .arbitrate)
    (isOpen : s.link.wordOpen = true) : s.drivesValid = s.link.opener := by
  simp [State.drivesValid, por, phase, isOpen]

/-- Settles O31: where LCLR is asserted, outside, OFFLINE, and at a participant with the word open or awaited. -/
theorem phaseOpens_holds : Obligations.PhaseOpens := by
  intro s wordOpens por idle
  have run := (exec_arbitrationPhaseOpen_of_por_clear por wordOpens).trans
    (congrArg Host.Outcome.next (phaseOpens_of_idle idle wordOpens))
  refine ⟨fun lclr => ?_, fun lclr outside => ?_, fun lclr outside notDue => ?_⟩
  · rw [run, if_pos lclr]
  · rw [run, lclr, if_neg Bool.false_ne_true, shutOut_of_outside outside, if_pos rfl,
      standOutside_of_shutOut idle (shutOut_of_outside outside)]
  · rw [lclr, if_neg Bool.false_ne_true, not_shutOut outside, if_neg Bool.false_ne_true,
      takeLeaveFinal_of_none notDue] at run
    refine ⟨fun offline => ?_, fun participant ready => ?_, fun participant awaited notReady => ?_⟩
    · rw [run, openPhase, if_pos offline, standOutside_of_not_shutOut idle (not_shutOut outside)]
    · have opens : (wordOpens || s.frameReady) = true := by simpa using ready
      rw [openPhase_of_participant participant, opens, if_pos rfl] at run
      refine ⟨_, run, rfl, ?_, ?_, ?_⟩
      · rw [pinLd_of_arbitrate (by simpa using por) (by rfl) (by rfl)]
        simp only [State.bidWord, nodeBit, State.setLink_link, State.setLink_nodeId, Bool.and_eq_true, Bool.not_eq_true']
        rfl
      · simp only [State.pinLbusy, State.setLink_por, por, State.setLink_link]
        rfl
      · rw [State.pinValid, drivesValid_of_arbitrate (by simpa using por) (by rfl) (by rfl)]
        rfl
    · rw [openPhase_of_participant participant, awaited, notReady] at run
      rw [awaited, run, if_neg nofun]

/-! ## The request word -/

/-- A set bit of a request word bounds the bit that names the winner (R78). -/
theorem lowestBid_of_bit {w : Halfword} {i : Fin 16} (bit : w.getLsbD i.val = true) :
    ∃ n, lowestBid w = some n ∧ n.toNat ≤ i.val := by
  cases found : (List.finRange 16).find? fun j => w.getLsbD j.val with
  | none => exact absurd bit (List.find?_eq_none.mp found i (List.mem_finRange i))
  | some j =>
    refine ⟨BitVec.ofNat 4 j.val, by rw [lowestBid, found]; rfl, ?_⟩
    have small : j.val % 16 = j.val := Nat.mod_eq_of_lt j.isLt
    rw [BitVec.toNat_ofNat, show 2 ^ 4 = 16 from rfl, small]
    by_contra above
    obtain ⟨_, before, after, split, none⟩ := List.find?_eq_some_iff_append.mp found
    have sorted : (before ++ j :: after).Pairwise (· < ·) := split ▸ List.pairwise_lt_finRange 16
    have mem : i ∈ before ++ j :: after := split ▸ List.mem_finRange i
    obtain _ | below := List.mem_append.mp mem
    · rename_i low
      have := none i low
      simp [bit, -BitVec.getLsbD_eq_getElem] at this
    · obtain ⟨_, later, _⟩ := List.pairwise_append.mp sorted
      obtain same | high := List.mem_cons.mp below
      · exact above (same ▸ Nat.le_refl _)
      · exact above (Nat.le_of_lt ((List.pairwise_cons.mp later).1 i high))

/-- The lowest set bit names the winner (R78). -/
theorem lowestBid_of_lowest {w : Halfword} {n : NodeId} (bit : w.getLsbD n.toNat = true)
    (lower : ∀ i : Fin 16, i.val < n.toNat → w.getLsbD i.val = false) : lowestBid w = some n := by
  have bound : n.toNat < 16 := n.isLt
  obtain ⟨m, found, le⟩ := lowestBid_of_bit (i := ⟨n.toNat, bound⟩) bit
  cases atBit : (List.finRange 16).find? fun j => w.getLsbD j.val with
  | none => rw [lowestBid, atBit] at found; cases found
  | some j =>
    rw [lowestBid, atBit] at found
    have set := List.find?_some atBit
    have named : m = BitVec.ofNat 4 j.val := (Option.some.inj found).symm
    have value : m.toNat = j.val := by
      rw [named, BitVec.toNat_ofNat]
      exact Nat.mod_eq_of_lt j.isLt
    have same : m = n := BitVec.eq_of_toNat_eq <| Nat.le_antisymm le <| by
      by_contra below
      rw [lower j (by omega)] at set
      cases set
    rw [lowestBid, atBit, same.symm, named]
    rfl

theorem requestCompletes_of_open {s : State} (phase : s.link.phase = .arbitrate) (isOpen : s.link.wordOpen = true)
    (ld : Halfword) (next : AfterEmpty) : requestCompletes ld next s = completeRequest ld next s := by
  rw [requestCompletes, if_pos ⟨phase, isOpen⟩]

theorem bidWord_of_not_bidding {s : State} (h : s.link.bidding = false) : s.bidWord = 0 := by
  exact if_neg (by rw [h]; exact Bool.false_ne_true)

theorem bidWord_of_bidding {s : State} (h : s.link.bidding = true) : s.bidWord = nodeBit s.nodeId := by
  rw [State.bidWord, h, if_pos rfl]

theorem nodeBit_getLsbD (n : NodeId) (i : Fin 16) : (nodeBit n).getLsbD i.val = decide (i.val = n.toNat) := by
  rw [nodeBit, show 1#16 <<< n.toNat = BitVec.twoPow 16 n.toNat from (BitVec.twoPow_eq 16 _).symm, BitVec.getLsbD_twoPow]
  simp [n.isLt, eq_comm]

/-- A lower bit, or no bid of its own: the node awaits the winner's header (R78). -/
theorem completeRequest_of_lost {s : State} {ld : Halfword} {i : Fin 16} (bit : ld.getLsbD i.val = true)
    (lost : s.link.bidding = false ∨ i.val < s.nodeId.toNat) (next : AfterEmpty) :
    completeRequest ld next s = loseArbitration s := by
  obtain ⟨n, found, le⟩ := lowestBid_of_bit (w := ld ||| s.bidWord) (i := i)
    (by rw [BitVec.getLsbD_or, bit, Bool.true_or])
  have notOwn : ¬ (n = s.nodeId ∧ s.link.bidding = true) := fun ⟨own, bids⟩ => by
    obtain silent | lower := lost
    · rw [silent] at bids; cases bids
    · rw [own] at le; omega
  rw [completeRequest, found]
  exact if_neg notOwn

/-- The empty request word at a node that did not bid (R79). -/
theorem completeRequest_of_empty {s : State} (silent : s.link.bidding = false) (next : AfterEmpty) :
    completeRequest 0 next s = emptyWord next s := by
  rw [completeRequest, bidWord_of_not_bidding silent]
  rfl

/-- A search over the rotation finds the nearest place (R126). -/
theorem find_rotation {P : SlotIx → Bool} (p : SlotIx) : ∀ d : Fin 4, P (p + d) = true →
    (∀ e : Fin 4, e.val < d.val → P (p + e) = false) → (rotation p).find? P = some (p + d) := by
  have zero : p + 0 = p := by revert p; decide
  have order : rotation p = [p + 0, p + 1, p + 2, p + 3] := by rw [zero]; rfl
  rw [order]
  intro d hit skip
  match d with
  | 0 => exact List.find?_cons_of_pos hit
  | 1 =>
    rw [List.find?_cons, skip 0 (by decide)]
    exact List.find?_cons_of_pos hit
  | 2 =>
    rw [List.find?_cons, skip 0 (by decide), List.find?_cons, skip 1 (by decide)]
    exact List.find?_cons_of_pos hit
  | 3 =>
    rw [List.find?_cons, skip 0 (by decide), List.find?_cons, skip 1 (by decide), List.find?_cons, skip 2 (by decide)]
    exact List.find?_cons_of_pos hit

/-- The rotation reaches `k` first of the slots in SEND (R126). -/
theorem sendChoice_of_first {s : State} {k : SlotIx} (sends : s.tracker.slots[k].phase = .send)
    (first : ∀ d : Fin 4, d.val < (k - s.tracker.pointer).val → s.tracker.slots[s.tracker.pointer + d].phase ≠ .send) :
    s.sendChoice = some k := by
  have rebuild : ∀ p k : SlotIx, p + (k - p) = k := by decide
  have at_k := rebuild s.tracker.pointer k
  have hit : (s.tracker.slots[k].phase == .send) = true := by rw [sends]; rfl
  have found := find_rotation (P := fun j => s.tracker.slots[j].phase == .send) s.tracker.pointer (k - s.tracker.pointer)
    ((congrArg (fun j : SlotIx => s.tracker.slots[j].phase == .send) at_k).trans hit)
    fun e lt => beq_false_of_ne (first e lt)
  exact found.trans (congrArg some at_k)

/-- Settles O33. -/
theorem requestWordNotWon : Obligations.RequestWordNotWon := by
  intro s next por phase isOpen
  have run := fun ld => (exec_requestWord_of_por_clear por ld next).trans
    (congrArg Host.Outcome.next (requestCompletes_of_open phase isOpen ld next))
  refine ⟨fun ld i bit lost => ?_, fun silent ready => ?_, fun silent notReady => ?_⟩
  · rw [run, completeRequest_of_lost bit lost]
    rfl
  · rw [run, completeRequest_of_empty silent]
    have same : (s.setLink { s.link with inhibit := false, bidding := false, wordOpen := false }).frameReady = true := ready
    refine congrArg Host.Outcome.next ((if_pos same).trans ?_)
    rw [openRequestWord, same]
    rfl
  · have same : (s.setLink { s.link with inhibit := false, bidding := false, wordOpen := false }).frameReady = false :=
      notReady
    refine ⟨?_, ?_, ?_⟩ <;> rintro rfl
    · rw [run, completeRequest_of_empty silent]
      refine congrArg Host.Outcome.next ((if_neg (by rw [same]; exact Bool.false_ne_true)).trans ?_)
      show openRequestWord _ = _
      rw [openRequestWord, same]
      rfl
    iterate 2
      rw [run, completeRequest_of_empty silent]
      exact congrArg Host.Outcome.next (if_neg (by rw [same]; exact Bool.false_ne_true))

/-! ## H0 packed and read -/

theorem packH0_fields (kind : Kind) (source : NodeId) (attempt : BitVec 5) (flags : BitVec 3) :
    (packH0 kind source attempt flags).extractLsb' 12 4 = kind.number ∧
      sourceOf (packH0 kind source attempt flags) = source ∧ attemptOf (packH0 kind source attempt flags) = attempt ∧
      flagsOf (packH0 kind source attempt flags) = flags := by
  simp [packH0, sourceOf, attemptOf, flagsOf, BitVec.extractLsb'_append_eq_of_le,
    BitVec.extractLsb'_append_eq_of_add_le, -Nat.reduceAdd]

/-- The kind code is read back as the kind (R47, R49). -/
theorem kindOf_of_number {h0 : Halfword} {k : Kind} (h : h0.extractLsb' 12 4 = k.number) : kindOf h0 = some k := by
  rw [kindOf, h]
  cases k <;> rfl

theorem number_of_kindOf {h0 : Halfword} {k : Kind} (h : kindOf h0 = some k) : h0.extractLsb' 12 4 = k.number := by
  unfold kindOf at h
  generalize h0.extractLsb' 12 4 = code at h
  revert h
  cases k <;> revert code <;> decide

theorem kindOf_eq_none (h0 : Halfword) :
    kindOf h0 = none ↔ (h0.extractLsb' 12 4).toNat = 0 ∨ 9 ≤ (h0.extractLsb' 12 4).toNat := by
  unfold kindOf
  generalize h0.extractLsb' 12 4 = code
  revert code
  decide

/-- The four fields of H0 are the whole word. -/
theorem append_fields (h0 : Halfword) : h0.extractLsb' 12 4 ++ h0.extractLsb' 8 4 ++ h0.extractLsb' 3 5 ++
    h0.extractLsb' 0 3 = h0 := by
  apply BitVec.eq_of_getLsbD_eq
  intro i lt
  interval_cases i <;> simp [BitVec.getLsbD_append, -BitVec.getLsbD_eq_getElem, -Nat.reduceAdd]

/-- Settles O34. -/
theorem headerPacks : Obligations.HeaderPacks := by
  refine ⟨fun kind source attempt flags => ?_, kindOf_eq_none, fun h0 k kind => ?_⟩
  · obtain ⟨number, sourceField, attemptField, flagsField⟩ := packH0_fields kind source attempt flags
    refine ⟨kindOf_of_number number, sourceField, attemptField, flagsField, ?_, ?_⟩
    · have bit : coldOf (packH0 kind source attempt flags) = (flagsOf (packH0 kind source attempt flags)).getLsbD 0 := by
        simp [coldOf, flagsOf, -BitVec.getLsbD_eq_getElem]
      rw [bit, flagsField]
    · rw [noticeLength, flagsField]
  · rw [packH0, ← number_of_kindOf kind]
    exact append_fields h0

/-! ## The win -/

/-- The one bidder with no lower bit in the word wins with the slot the pointer reaches first (R78, R126). -/
theorem completeRequest_of_won {s : State} {ld : Halfword} {k : SlotIx} {f : Frame} (bids : s.link.bidding = true)
    (lower : ∀ i : Fin 16, i.val < s.nodeId.toNat → ld.getLsbD i.val = false) (choice : s.sendChoice = some k)
    (frame : s.tracker.slots[k].frame = some f) (next : AfterEmpty) :
    completeRequest ld next s = winWith k f s := by
  have own : ∀ i : Fin 16, (ld ||| s.bidWord).getLsbD i.val = (ld.getLsbD i.val || decide (i.val = s.nodeId.toNat)) :=
    fun i => by rw [BitVec.getLsbD_or, bidWord_of_bidding bids, nodeBit_getLsbD]
  have lowest : lowestBid (ld ||| s.bidWord) = some s.nodeId :=
    lowestBid_of_lowest (by rw [own ⟨s.nodeId.toNat, s.nodeId.isLt⟩]; simp)
      fun i lt => by rw [own, lower i lt]; simp; omega
  rw [completeRequest, lowest]
  show (if s.nodeId = s.nodeId ∧ s.link.bidding = true then _ else _) = _
  rw [if_pos ⟨rfl, bids⟩, choice]
  show (match s.tracker.slots[k].frame with | none => _ | some f => winWith k f s) = _
  rw [frame]

/-- LD in an open header word at the requester: the word of the header in turn (R74). -/
theorem pinLd_of_header {s : State} {tn : Tenure} {k : SlotIx} (por : s.por = false) (phase : s.link.phase = .header)
    (isOpen : s.link.wordOpen = true) (sender : s.link.sender = some k) (tenure : s.link.tenure = some tn) :
    s.pinLd = if s.link.wordIndex = 0 then tn.h0 else tn.h1.getD 0#16 := by
  simp [State.pinLd, por, phase, isOpen, sender, tenure]

theorem pinValid_of_header {s : State} {k : SlotIx} (por : s.por = false) (phase : s.link.phase = .header)
    (isOpen : s.link.wordOpen = true) (sender : s.link.sender = some k) : s.pinValid = some s.link.valid := by
  simp [State.pinValid, State.drivesValid, por, phase, isOpen, sender]

/-- Settles O32: the winner's next state, and the fields of its H0. -/
theorem winSendsFrame : Obligations.WinSendsFrame := by
  intro s ld next k f por phase isOpen bids lower sends frame first
  have run := (exec_requestWord_of_por_clear por ld next).trans (congrArg Host.Outcome.next
    ((requestCompletes_of_open phase isOpen ld next).trans
      (completeRequest_of_won bids lower (sendChoice_of_first sends first) frame next)))
  obtain ⟨number, source, attempt, flags⟩ := packH0_fields f.kind s.nodeId
    (BitVec.ofNat 5 s.tracker.slots[k].unsuccessful) (frameFlags f s.cold)
  refine ⟨_, newTenure (formH0 s.nodeId s.cold f s.tracker.slots[k].unsuccessful) (some f.h1), run, rfl, number, source,
    attempt, flags.trans ?_, rfl, rfl, rfl, ?_, ?_, ?_, rfl, fun j => ?_, rfl⟩
  · unfold frameFlags
    cases f.kind <;> rfl
  · exact pinLd_of_header (s := winWith k f s) por rfl rfl rfl rfl
  · exact pinValid_of_header (s := winWith k f s) por rfl rfl rfl
  · intro follows
    exact pinTaken_of_follows (s := winWith k f s) follows
  · refine (writeSlot_slot k j _ s).trans ?_
    simp only [eq_comm (a := k) (b := j)]
    rfl

end Sys2Proof.Machine

/-!
PROOF. The header: H0 and H1 taken or driven, and the answers fixed at H1 (R7 to R10, R28, R49 to R57, R151).
-/

namespace Sys2Proof.Machine

/-! ## H0 -/

/-- A protocol error counted (R71). -/
theorem countProtocolError_eq (s : State) : countProtocolError s = s.setCompletion { s.completion with
    counters := { s.completion.counters with proto := satAdd s.completion.counters.proto 1 }
    latched := { s.completion.latched with linkErr := true } } := by
  simp [countProtocolError, latch, raiseCounter, Counters.set, Counters.get]
  rfl

theorem awaitsHeader_of_not_header {s : State} (h : s.link.phase ≠ .header) (index : Nat) :
    s.awaitsHeader index = false := by
  simp [State.awaitsHeader, h]

theorem follows_of_or {s : State} (h : s.link.outside = .nothing ∨ s.link.phase ≠ .idle) : s.follows = false := by
  obtain h | h := h <;> simp [State.follows, h]

theorem h0Arrives_of_awaited {s : State} (awaited : s.awaitsHeader 0 = true) (ld : Halfword) :
    h0Arrives ld s = takeH0 ld s := by
  rw [h0Arrives, awaited, if_pos rfl]

theorem h0Arrives_of_not_awaited {s : State} (awaited : s.awaitsHeader 0 = false) (ld : Halfword) :
    h0Arrives ld s = followOpen s := by
  rw [h0Arrives, awaited, if_neg Bool.false_ne_true]

/-- Settles O35. -/
theorem h0Taken : Obligations.H0Taken := by
  intro s ld por
  have run := exec_h0Taken_of_por_clear por ld
  refine ⟨fun awaited low high => ?_, fun awaited undefined => ?_, fun other still => ?_, fun idle outside closed => ?_⟩
  · have defined : (kindOf ld).isNone = false := by
      rw [Option.isNone_eq_false_iff, Option.isSome_iff_ne_none, Ne, kindOf_eq_none]
      omega
    rw [run, h0Arrives_of_awaited awaited, takeH0, defined]
    rfl
  · rw [run, h0Arrives_of_awaited awaited, takeH0, (kindOf_eq_none ld).mpr undefined]
    exact congrArg Host.Outcome.next (countProtocolError_eq _)
  · rw [run, h0Arrives_of_not_awaited other]
    obtain none | busy | isOpen := still
    · rw [followOpen_of_not_follows (follows_of_or (.inl none))]
    · rw [followOpen_of_not_follows (follows_of_or (.inr busy))]
    · rw [followOpen_of_open isOpen]
  · rw [run, h0Arrives_of_not_awaited (awaitsHeader_of_not_header (by rw [idle]; nofun) 0),
      followOpen_of_closed idle outside closed]

/-! ## The variable a header names -/

section
variable {h0 : Halfword} {k : Kind}

theorem namedVar_of_var (kind : kindOf h0 = some k) (isVar : k.isVar = true) (h1 : Halfword) :
    namedVar h0 h1 = some (h1Var h1) := by
  simp [namedVar, kind, isVar]

theorem namedVar_of_not_var (kind : kindOf h0 = some k) (isVar : k.isVar = false) (h1 : Halfword) :
    namedVar h0 h1 = none := by
  simp [namedVar, kind, isVar]

theorem namedVar_of_undefined (kind : kindOf h0 = none) (h1 : Halfword) : namedVar h0 h1 = none := by
  simp [namedVar, kind]

end

/-! ## The answers -/

theorem full_of_participation {s : State} (h : s.participation = .online ∨ s.participation = .draining) :
    s.full = true := by
  simpa [State.full] using h

theorem full_eq (s : State) : s.full = decide (s.participation = .online ∨ s.participation = .draining) := by
  cases h : s.participation <;> simp [State.full, h]

theorem ownsVar_of_home {s : State} {v : VarNum} (h : homeOf v = s.nodeId) : s.ownsVar v = true := by
  simp [State.ownsVar, h]

theorem not_ownsVar {s : State} {v : VarNum} (h : homeOf v ≠ s.nodeId) : s.ownsVar v = false := by
  simp [State.ownsVar, h]

section
variable {s : State} {h0 h1 : Halfword} {k : Kind}

theorem answersTo_of_unnamed (h : namedVar h0 h1 = none) (asRequester : Bool) :
    answersTo s asRequester h0 h1 = quietLines := by
  unfold answersTo
  rw [h]
  cases kindOf h0 <;> rfl

theorem answersTo_of_not_full (h : s.full = false) (asRequester : Bool) :
    answersTo s asRequester h0 h1 = quietLines := by
  unfold answersTo
  rw [h]
  cases kindOf h0 <;> cases namedVar h0 h1 <;> rfl

theorem answersTo_of_home (kind : kindOf h0 = some k) (isVar : k.isVar = true) (full : s.full = true)
    (home : homeOf (h1Var h1) = s.nodeId) (asRequester : Bool) : answersTo s asRequester h0 h1 =
      homeAnswers k (sourceOf h0 != s.nodeId) (s.held (h1Var h1)) (s.record (h1Var h1)) := by
  unfold answersTo
  rw [kind, namedVar_of_var kind isVar, full]
  simp only [ownsVar_of_home home, if_true]

theorem answersTo_of_requester (isVar : (kindOf h0).any Kind.isVar = true) (foreign : homeOf (h1Var h1) ≠ s.nodeId) :
    answersTo s true h0 h1 = quietLines := by
  cases kind : kindOf h0 with
  | none => exact answersTo_of_unnamed (namedVar_of_undefined kind h1) true
  | some k =>
    have var : k.isVar = true := by simpa [kind] using isVar
    unfold answersTo
    rw [kind, namedVar_of_var kind var]
    simp only [not_ownsVar foreign, if_true, Bool.false_eq_true, if_false, ite_self]

theorem answersTo_of_holder (kind : kindOf h0 = some k) (isVar : k.isVar = true) (full : s.full = true)
    (foreign : homeOf (h1Var h1) ≠ s.nodeId) {i : EntryIx} (entry : s.entryOf (h1Var h1) = some i) :
    answersTo s false h0 h1 = copyAnswers k (s.held (h1Var h1)) s.copy.entries[i] := by
  unfold answersTo
  rw [kind, namedVar_of_var kind isVar, full]
  simp only [not_ownsVar foreign, if_true, Bool.false_eq_true, if_false, entry]

theorem answersTo_of_no_entry (kind : kindOf h0 = some k) (isVar : k.isVar = true) (full : s.full = true)
    (foreign : homeOf (h1Var h1) ≠ s.nodeId) (none : s.entryOf (h1Var h1) = none) :
    answersTo s false h0 h1 = quietLines := by
  unfold answersTo
  rw [kind, namedVar_of_var kind isVar, full]
  simp only [not_ownsVar foreign, if_true, Bool.false_eq_true, if_false, none]

theorem claimOnLent_of_unnamed (h : namedVar h0 h1 = none) : claimOnLent s h0 h1 = false := by
  unfold claimOnLent
  rw [h]
  cases kindOf h0 with
  | none => rfl
  | some k => cases k <;> rfl

theorem claimOnLent_of_var (kind : kindOf h0 = some k) (isVar : k.isVar = true) : claimOnLent s h0 h1 =
    (decide (k = .claim) && (s.full && s.ownsVar (h1Var h1) && sourceOf h0 != s.nodeId && (s.record (h1Var h1)).state.isLent)) := by
  unfold claimOnLent
  rw [kind, namedVar_of_var kind isVar]
  cases k <;> rfl

theorem not_noticeAddresses (h : kindOf h0 ≠ some .notice) : noticeAddresses s h0 h1 = false := by
  simp [noticeAddresses, h]

end

/-- An entry that is NONE answers nothing (R28). -/
theorem copyAnswers_of_none {e : CopyEntry} (none : e.state = .none) (k : Kind) (held : Bool) :
    copyAnswers k held e = quietLines := by
  simp [copyAnswers, none, quietLines]

/-- A holder's answers (R28). -/
theorem copyAnswers_of_held {e : CopyEntry} (state : e.state ≠ .none) (k : Kind) (held : Bool) :
    copyAnswers k held e =
      { haveLine := true
        modLine := decide (e.state = .dirty)
        retryLine := held && decide (k = .read ∨ k = .own ∨ k = .claim)
        homeLine := false
        denyLine := false } := by
  have request : k.isRequest = decide (k = .read ∨ k = .own ∨ k = .claim) := by cases k <;> rfl
  have live : (e.state != .none) = true := bne_iff_ne.mpr state
  have modified : (e.state == .dirty) = decide (e.state = .dirty) := rfl
  simp only [copyAnswers, live, request, modified, Bool.true_and]

/-- The home's answers to another node, spelled out (R7 to R10, R138). -/
theorem homeAnswers_peer (k : Kind) (held : Bool) (r : HomeRecord) : homeAnswers k true held r =
    { homeLine := true
      denyLine := decide ((r.guard = .privateAccess ∧ (k = .read ∨ k = .own ∨ k = .claim)) ∨
        (r.guard = .homeOnly ∧ (k = .own ∨ k = .claim)))
      retryLine := (held && decide (k = .read ∨ k = .own ∨ k = .claim)) || (decide (k = .claim) && r.state.isLent)
      haveLine := decide (k = .read ∧ r.guard = .homeOnly)
      modLine := false } := by
  have denies : guardDenies r.guard k = decide ((r.guard = .privateAccess ∧ (k = .read ∨ k = .own ∨ k = .claim)) ∨
      (r.guard = .homeOnly ∧ (k = .own ∨ k = .claim))) := by
    generalize r.guard = g
    cases g <;> cases k <;> rfl
  have request : k.isRequest = decide (k = .read ∨ k = .own ∨ k = .claim) := by cases k <;> rfl
  have have' : (k == .read && r.guard == .homeOnly) = decide (k = .read ∧ r.guard = .homeOnly) := by
    rw [Bool.decide_and]
    rfl
  have claim : (k == .claim) = decide (k = .claim) := rfl
  simp only [homeAnswers, Bool.true_and, denies, request, have', claim, Bool.and_comm held]

/-! ## H1 -/

theorem h1Arrives_of_awaited {s : State} {t : Tenure} (awaited : s.awaitsHeader 1 = true) (tenure : s.link.tenure = some t)
    (ld : Halfword) : h1Arrives ld s = takeH1 ld t s := by
  rw [h1Arrives, awaited, tenure]

/-- H1 taken without a protocol error (R54). -/
theorem takeH1_eq {s : State} {t : Tenure} {ld : Halfword} (silent : claimOnLent s t.h0 ld = false) :
    takeH1 ld t s = s.setLink { s.link with
      wordOpen := true
      valid := !s.link.valid
      tenure := some { t with
        h1 := some ld
        bound := namedVar t.h0 ld
        answers := answersTo s false t.h0 ld
        addressed := noticeAddresses s t.h0 ld }
      wait := some ⟨.wordCompletion, max 1 s.timing.handshake.toNat⟩ } := by
  rw [takeH1, silent, if_neg Bool.false_ne_true]
  rfl

/-- H1 taken with the protocol error of a CLAIM on a LENT record (R9). -/
theorem takeH1_of_claimOnLent {s : State} {t : Tenure} {ld : Halfword} (error : claimOnLent s t.h0 ld = true) :
    takeH1 ld t s = (s.setLink { s.link with
      wordOpen := true
      valid := !s.link.valid
      tenure := some { t with
        h1 := some ld
        bound := namedVar t.h0 ld
        answers := answersTo s false t.h0 ld
        addressed := noticeAddresses s t.h0 ld }
      wait := some ⟨.wordCompletion, max 1 s.timing.handshake.toNat⟩ }).setCompletion { s.completion with
        counters := { s.completion.counters with proto := satAdd s.completion.counters.proto 1 }
        latched := { s.completion.latched with linkErr := true } } := by
  rw [takeH1, error, if_pos rfl]
  exact countProtocolError_eq _

theorem ne_notice_of_isVar {h0 : Halfword} {k : Kind} (kind : kindOf h0 = some k) (isVar : k.isVar = true) :
    kindOf h0 ≠ some .notice := by
  rw [kind]
  rintro ⟨⟩
  cases isVar

/-- Settles O36: the answers as the table spells them, with the protocol error or without. -/
theorem homeAnswers_holds : Obligations.HomeAnswers := by
  intro s ld tn k por awaited tenure kind isVar participation v r home source
  have full := full_of_participation participation
  have peer : (sourceOf tn.h0 != s.nodeId) = true := bne_iff_ne.mpr source
  have answers := (answersTo_of_home (s := s) (h1 := ld) kind isVar full home false).trans
    ((congrArg (fun b => homeAnswers k b (s.held v) (s.record v)) peer).trans (homeAnswers_peer k (s.held v) r))
  have error : claimOnLent s tn.h0 ld = (decide (k = .claim) && r.state.isLent) := by
    rw [claimOnLent_of_var kind isVar, full, ownsVar_of_home home, peer]
    rfl
  have notNotice := not_noticeAddresses (s := s) (h1 := ld) (ne_notice_of_isVar kind isVar)
  have run := (exec_h1Taken_of_por_clear por ld).trans
    (congrArg Host.Outcome.next (h1Arrives_of_awaited awaited tenure ld))
  intro claimError
  cases isError : claimError with
  | true =>
    rw [run, takeH1_of_claimOnLent (error.trans isError), answers, notNotice, namedVar_of_var kind isVar, if_pos rfl, ← isError]
  | false =>
    rw [run, takeH1_eq (error.trans isError), answers, notNotice, namedVar_of_var kind isVar, if_neg Bool.false_ne_true,
      ← isError]
    rfl

/-- Settles O37: by the kind, the participation and the entry. -/
theorem otherAnswers : Obligations.OtherAnswers := by
  intro s ld tn por awaited tenure v after
  have run := (exec_h1Taken_of_por_clear por ld).trans
    (congrArg Host.Outcome.next (h1Arrives_of_awaited awaited tenure ld))
  refine ⟨fun k kind isVar => ?_, fun notice => ?_, fun other => ?_⟩
  · have notNotice := not_noticeAddresses (s := s) (h1 := ld) (ne_notice_of_isVar kind isVar)
    have named := namedVar_of_var kind isVar ld
    have takes : ∀ answers, claimOnLent s tn.h0 ld = false → answersTo s false tn.h0 ld = answers →
        exec (.h1Taken ld) s = .next (after (some v) answers false) := fun answers silent same => by
      rw [run, takeH1_eq silent, same, notNotice, named]
    refine ⟨fun joining => ?_, fun participation foreign => ?_⟩
    · have partial' : s.full = false := by rw [full_eq, joining]; rfl
      exact takes _ (by rw [claimOnLent_of_var kind isVar, partial']; simp) (answersTo_of_not_full partial' false)
    · have full := full_of_participation participation
      have silent : claimOnLent s tn.h0 ld = false := by
        rw [claimOnLent_of_var kind isVar, not_ownsVar foreign]
        simp
      refine ⟨fun none => takes _ silent (answersTo_of_no_entry kind isVar full foreign none), fun i entry => ?_⟩
      have holder := answersTo_of_holder (s := s) (h1 := ld) kind isVar full foreign entry
      exact ⟨fun state => takes _ silent (holder.trans (copyAnswers_of_none state k _)),
        fun state => takes _ silent (holder.trans (copyAnswers_of_held state k _))⟩
  · have unnamed := namedVar_of_not_var notice rfl ld
    rw [run, takeH1_eq (claimOnLent_of_unnamed unnamed), answersTo_of_unnamed unnamed, unnamed, noticeAddresses, notice,
      full_eq]
    rfl
  · have unnamed : namedVar tn.h0 ld = none := by
      obtain join | undefined := other
      · exact namedVar_of_not_var join rfl ld
      · exact namedVar_of_undefined undefined ld
    have notNotice : kindOf tn.h0 ≠ some .notice := by
      obtain kind | kind := other <;> rw [kind] <;> nofun
    rw [run, takeH1_eq (claimOnLent_of_unnamed unnamed), answersTo_of_unnamed unnamed, unnamed,
      not_noticeAddresses notNotice]

/-! ## A header word completes -/

/-- The answers that this node drives in an open response word (R57, R72). -/
theorem pinLines_of_response {s : State} {tn : Tenure} (por : s.por = false) (phase : s.link.phase = .response)
    (isOpen : s.link.wordOpen = true) (tenure : s.link.tenure = some tn) : s.pinLines = tn.answers := by
  simp [State.pinLines, por, phase, isOpen, tenure]

theorem presentBit_eq (s : State) : s.presentBit =
    if s.participation = .online ∨ s.participation = .draining then 1#16 <<< s.nodeId.toNat else 0 := by
  rw [State.presentBit, full_eq]
  simp only [decide_eq_true_eq]
  rfl

/-- LD in an open response word: the present bit (R56). -/
theorem pinLd_of_response {s : State} (por : s.por = false) (phase : s.link.phase = .response)
    (isOpen : s.link.wordOpen = true) : s.pinLd =
      if s.participation = .online ∨ s.participation = .draining then 1#16 <<< s.nodeId.toNat else 0 := by
  rw [← presentBit_eq]
  simp [State.pinLd, por, phase, isOpen]

theorem pinValid_of_response {s : State} {k : SlotIx} (por : s.por = false) (phase : s.link.phase = .response)
    (isOpen : s.link.wordOpen = true) (sender : s.link.sender = some k) : s.pinValid = some s.link.valid := by
  simp [State.pinValid, State.drivesValid, por, phase, isOpen, sender]

/-- Nothing is driven while no word is open (R72). -/
theorem pins_of_closed {s : State} (closed : s.link.wordOpen = false) : s.pinLines = quietLines ∧ s.pinLd = 0 := by
  refine ⟨?_, ?_⟩
  · simp [State.pinLines, closed]
  · simp [State.pinLd, closed]

theorem wordCompletes_of_open {s : State} {t : Tenure} (isOpen : s.link.wordOpen = true) (tenure : s.link.tenure = some t)
    (ld : Halfword) : wordCompletes ld s = completeWord ld t s := by
  rw [wordCompletes, isOpen, tenure]

section
variable {s : State} {t : Tenure} {ld h1 : Halfword}

theorem completeWord_of_h0_requester (phase : s.link.phase = .header) (index : s.link.wordIndex = 0)
    (sends : s.link.sender.isSome = true) (same : ld ||| t.h0 = t.h0) : completeWord ld t s = driveH1 t s := by
  simp [completeWord, phase, index, sends, same]

theorem completeWord_of_h0_other (phase : s.link.phase = .header) (index : s.link.wordIndex = 0)
    (sender : s.link.sender = none) : completeWord ld t s = awaitH1 s := by
  simp [completeWord, phase, index, sender]

theorem completeWord_of_h1 (phase : s.link.phase = .header) (index : s.link.wordIndex = 1) (header : t.h1 = some h1)
    (same : s.link.sender = none ∨ ld ||| h1 = h1) : completeWord ld t s = openResponse t s := by
  rw [completeWord, phase, index]
  refine if_neg fun ⟨sends, differs⟩ => ?_
  rw [header] at differs
  obtain none | same := same
  · rw [none] at sends
    cases sends
  · exact differs same

end

/-- Settles O38: by the word that completes and by who drove it. -/
theorem headerWordCompletes : Obligations.HeaderWordCompletes := by
  intro s ld h1 tn por phase isOpen tenure limit
  have run := (exec_wordComplete_of_por_clear por ld).trans
    (congrArg Host.Outcome.next (wordCompletes_of_open isOpen tenure ld))
  refine ⟨fun index sends header same => ?_, fun index other => ?_, fun index header other => ?_,
    fun index header sends same => ?_⟩
  · obtain ⟨k, sender⟩ := Option.isSome_iff_exists.mp sends
    have next : completeWord ld tn s = s.setLink { s.link with
        wordIndex := 1, valid := !s.link.valid, tenure := some (withH1 s true tn h1), wait := some ⟨.wordCompletion, limit⟩ } := by
      rw [completeWord_of_h0_requester phase index sends same, driveH1, header]
      exact congrArg (fun b => s.setLink { s.link with
        wordOpen := b
        wordIndex := 1, valid := !s.link.valid, tenure := some (withH1 s true tn h1),
        wait := some ⟨.wordCompletion, limit⟩ }) isOpen.symm
    refine ⟨_, withH1 s true tn h1, run, next, rfl, rfl, rfl, ?_, fun k kind isVar => namedVar_of_var kind isVar h1,
      fun k kind isVar foreign => answersTo_of_requester (by rw [kind]; exact isVar) foreign,
      fun k kind isVar home source participation => ?_,
      fun k kind isVar => answersTo_of_unnamed (namedVar_of_not_var kind isVar h1) true⟩
    · rw [next]
      exact pinLd_of_header (s := s.setLink { s.link with
        wordIndex := 1, valid := !s.link.valid, tenure := some (withH1 s true tn h1),
        wait := some ⟨.wordCompletion, limit⟩ }) por phase isOpen sender rfl
    · refine (answersTo_of_home (s := s) (h1 := h1) kind isVar (full_of_participation participation) home true).trans ?_
      rw [bne_eq_false_iff_eq.mpr source]
      rfl
  · rw [run, completeWord_of_h0_other phase index other]
    rfl
  · have next : completeWord ld tn s = s.setLink { s.link with
          phase := .response, wordOpen := false, wordIndex := 0, wait := some ⟨.nextWord, limit⟩ } := by
      rw [completeWord_of_h1 phase index header (.inl other), openResponse]
      simp [other, handshakeWait]
      rfl
    obtain ⟨lines, ld⟩ := pins_of_closed (s := s.setLink { s.link with
          phase := .response, wordOpen := false, wordIndex := 0, wait := some ⟨.nextWord, limit⟩ }) rfl
    exact ⟨_, run, next, by rw [next]; exact lines, by rw [next]; exact ld⟩
  · obtain ⟨k, sender⟩ := Option.isSome_iff_exists.mp sends
    have opens := completeWord_of_h1 phase index header (.inr same)
    refine ⟨fun other => ?_, fun notice => ?_⟩
    · have next : completeWord ld tn s = s.setLink { s.link with
            phase := .response, valid := !s.link.valid, wordIndex := 0, wait := some ⟨.wordCompletion, limit⟩ } := by
        rw [opens, openResponse]
        have kind : (kindOf tn.h0 != some .notice) = true := bne_iff_ne.mpr other
        simp only [sends, kind, Bool.and_self, if_true, Bool.bne_true]
        exact congrArg (fun b => s.setLink { s.link with
          wordOpen := b
          phase := .response, valid := !s.link.valid, wordIndex := 0, wait := some ⟨.wordCompletion, limit⟩ }) isOpen.symm
      have lines := pinLines_of_response (s := s.setLink { s.link with
        phase := .response, valid := !s.link.valid, wordIndex := 0, wait := some ⟨.wordCompletion, limit⟩ })
        por rfl isOpen tenure
      have valid := pinValid_of_response (s := s.setLink { s.link with
        phase := .response, valid := !s.link.valid, wordIndex := 0, wait := some ⟨.wordCompletion, limit⟩ })
        por rfl isOpen sender
      have present := pinLd_of_response (s := s.setLink { s.link with
        phase := .response, valid := !s.link.valid, wordIndex := 0, wait := some ⟨.wordCompletion, limit⟩ })
        por rfl isOpen
      exact ⟨_, run, next, by rw [next]; exact lines, by rw [next]; exact valid, by rw [next]; exact present⟩
    · rw [run, opens, openResponse]
      simp [notice, sends]

end Sys2Proof.Machine

/-!
PROOF. The response word and the data words of a tenure (R11, R12, R29, R36, R56 to R64, R84, R153).
-/

namespace Sys2Proof.Machine

/-! ## The response word of a NOTICE opens -/

/-- With the inbound queue full a holding node goes on holding (R154). -/
theorem tryTake_of_full {s : State} (unreserved : s.notices.reserved = false) (full : s.room = 0) : tryTake s = s := by
  simp [tryTake, unreserved, full]

theorem room_of_unreserved {s : State} (unreserved : s.notices.reserved = false) :
    s.room = 16 - s.notices.inbound.length := by
  rw [State.room, unreserved, if_neg Bool.false_ne_true]
  rfl

/-- What a participant drives in an open response word, a take or a holdoff aside (R56, R57). -/
theorem drives_of_tryTake {s : State} {tn : Tenure} (por : s.por = false) (phase : s.link.phase = .response)
    (isOpen : s.link.wordOpen = true) (tenure : s.link.tenure = some tn) :
    (tryTake s).pinLines = tn.answers ∧ (tryTake s).pinLd =
      if s.participation = .online ∨ s.participation = .draining then 1#16 <<< s.nodeId.toNat else 0 := by
  have lines := pinLines_of_response por phase isOpen tenure
  have present := pinLd_of_response por phase isOpen
  obtain ⟨_, e⟩ | ⟨_, b, _, _, e | ⟨_, _, e⟩⟩ := tryTake_cases s <;> rw [e] <;> exact ⟨lines, present⟩

theorem noticeResponseOpens_of_tenure {s : State} {t : Tenure} (phase : s.link.phase = .response)
    (closed : s.link.wordOpen = false) (tenure : s.link.tenure = some t) : noticeResponseOpens s =
      if kindOf t.h0 = some .notice then openNoticeResponse t s else seeResponse s := by
  rw [noticeResponseOpens, tenure]
  exact if_pos ⟨phase, closed⟩

/-- The response word of a NOTICE open, before a place is reserved (R87, R153). -/
def noticeResponse (t : Tenure) (s : State) : State :=
  s.setLink { s.link with
    wordOpen := true
    valid := !s.link.valid
    taken := if t.addressed then .withheld else .follows
    wait := some ⟨.noticeResponse, noticeResponseLimit s.link.sender.isSome s.timing⟩ }

theorem openNoticeResponse_eq (t : Tenure) (s : State) : openNoticeResponse t s = tryTake (noticeResponse t s) := rfl

/-- Settles O39: the table of R153 by address, room and NPAUSE. -/
theorem noticeResponseOpens_holds : Obligations.NoticeResponseOpens := by
  intro s tn por phase closed tenure drives
  have run := (exec_noticeResponseOpen_of_por_clear por).trans
    (congrArg Host.Outcome.next (noticeResponseOpens_of_tenure phase closed tenure))
  refine ⟨fun other => ?_, ?_⟩
  · rw [if_neg other] at run
    exact ⟨_, run, rfl, pinLines_of_response (s := seeResponse s) por phase rfl tenure,
      pinLd_of_response (s := seeResponse s) por phase rfl⟩
  · intro notice unreserved limit after
    rw [if_pos notice, openNoticeResponse_eq] at run
    have unreserved' : (noticeResponse tn s).notices.reserved = false := unreserved
    have room := room_of_unreserved unreserved'
    have same : s.notices = { s.notices with reserved := false } := by rw [← unreserved]
    have withheld : tn.addressed = true → (noticeResponse tn s).link.taken = .withheld := fun addressed => if_pos addressed
    have held : ∀ b, tn.addressed = true → (noticeResponse tn s).setNotices { s.notices with reserved := b } = after b .withheld :=
      fun b addressed => by
        show (s.setNotices _).setLink { s.link with
          wordOpen := true, valid := _, taken := (noticeResponse tn s).link.taken, wait := _ } = _
        rw [withheld addressed]
        rfl
    refine ⟨fun t next => ?_, fun other => ?_, fun addressed small clear => ?_, fun addressed small paused => ?_,
      fun addressed full => ?_⟩
    · cases run.symm.trans next
      obtain ⟨lines, present⟩ := drives_of_tryTake (s := noticeResponse tn s) por phase rfl tenure
      exact ⟨lines, present⟩
    · have follows : (noticeResponse tn s).link.taken = .follows := if_neg (by rw [other]; exact Bool.false_ne_true)
      rw [run, tryTake_of_open (by rw [follows]; nofun)]
      show Host.Outcome.next ((s.setNotices s.notices).setLink { s.link with
        wordOpen := true, valid := _, taken := (noticeResponse tn s).link.taken, wait := _ }) = _
      rw [follows, same]
      rfl
    · have free : 0 < (noticeResponse tn s).room := by
        rw [room]
        exact Nat.sub_pos_of_lt small
      rw [run, tryTake_of_room (withheld addressed) unreserved' free clear]
      rfl
    · have free : 0 < (noticeResponse tn s).room := by
        rw [room]
        exact Nat.sub_pos_of_lt small
      rw [run, tryTake_of_paused (withheld addressed) paused (.inr free)]
      exact congrArg Host.Outcome.next (held true addressed)
    · have none : (noticeResponse tn s).room = 0 := by
        rw [room]
        exact Nat.sub_eq_zero_of_le full
      rw [run, tryTake_of_full unreserved' none, ← held false addressed, ← same]
      rfl

/-! ## The response word completes -/

/-- The roster written, with its cause (R84). -/
theorem updateRoster_eq (mask : NodeMask) (s : State) : updateRoster mask s =
    (s.setLink { s.link with roster := mask }).setCompletion { s.completion with latched :=
      { s.completion.latched with roster := s.completion.latched.roster || decide (s.link.roster ≠ mask) } } := by
  have differs : (s.link.roster != mask) = decide (s.link.roster ≠ mask) := by
    by_cases h : s.link.roster = mask <;> simp [h]
  simp [updateRoster, latch, differs]

theorem responseCompletes_of_response {s : State} {t : Tenure} {present : NodeMask} {lines : RespLines}
    (phase : s.link.phase = .response) (word : s.link.wordOpen = true ∨ kindOf t.h0 ≠ some .notice)
    (takes : s.link.taken ≠ .withheld) (tenure : s.link.tenure = some t) :
    responseCompletes present lines s = completeResponse t present lines s := by
  have holding : s.holdingOff = false := by simpa [State.holdingOff] using takes
  rw [responseCompletes, tenure]
  exact if_pos ⟨phase, holding, word⟩

/-- The state in which the response word has been latched and nothing is open (R58, R75, R84). -/
def responseLatched (t : Tenure) (present : NodeMask) (lines : RespLines) (s : State) : State :=
  ((updateRoster (present ||| s.presentBit) s).setLink { (updateRoster (present ||| s.presentBit) s).link with
    tenure := some (latchResponse t (present ||| s.presentBit) (orLines lines t.answers))
    wordOpen := false
    valid := s.link.valid == s.link.wordOpen })

theorem completeResponse_eq (t : Tenure) (present : NodeMask) (lines : RespLines) (s : State) :
    completeResponse t present lines s = if duplicateSeen t (present ||| s.presentBit) s = true
      then pulseAndAbort .duplicateId (responseLatched t present lines s)
      else nextData 0 (latchResponse t (present ||| s.presentBit) (orLines lines t.answers)).dataLength
        (responseLatched t present lines s) := rfl

/-- The number of data words, spelled out (R61, R62). -/
theorem dataLengthFor_eq (o : TenureOutcome) (h0 h1 : Halfword) (lines : RespLines) :
    dataLengthFor o h0 h1 lines = if o ≠ .committed then 0 else match kindOf h0 with
      | some .read => if lines.modLine = false ∧ homeOf (h1Var h1) = sourceOf h0 then 0 else 8
      | some .own => if lines.modLine = false ∧ homeOf (h1Var h1) = sourceOf h0 then 0 else 8
      | some .writeback => 8
      | some .notice => (h0.extractLsb' 0 3).toNat + 1
      | _ => 0 := by
  have supplier : supplierIsRequester h0 h1 lines = decide (lines.modLine = false ∧ homeOf (h1Var h1) = sourceOf h0) := by
    rw [supplierIsRequester, Bool.decide_and]
    cases lines.modLine <;> rfl
  have words : dataWords h0 h1 lines = match kindOf h0 with
      | some .read => if lines.modLine = false ∧ homeOf (h1Var h1) = sourceOf h0 then 0 else 8
      | some .own => if lines.modLine = false ∧ homeOf (h1Var h1) = sourceOf h0 then 0 else 8
      | some .writeback => 8
      | some .notice => (h0.extractLsb' 0 3).toNat + 1
      | _ => 0 := by
    unfold dataWords
    simp only [supplier, decide_eq_true_eq]
    cases kindOf h0 with
    | none => rfl
    | some k => cases k <;> rfl
  rw [dataLengthFor, words]
  by_cases committed : o = .committed
  · rw [if_pos committed, if_neg (not_not_intro committed)]
  · rw [if_neg committed, if_pos committed]

/-- The first data word, or the close where there is none (R61, R82). -/
theorem nextData_frame (i length : Nat) (s : State) : (nextData i length s).link.phase = (if i < length then .data else .close) ∧
    (nextData i length s).link.roster = s.link.roster ∧ (nextData i length s).link.tenure = s.link.tenure ∧
    (nextData i length s).link.sender = s.link.sender ∧ (nextData i length s).link.inhibit = s.link.inhibit ∧
    nextData i length s = s.setLink (nextData i length s).link := by
  unfold nextData
  split <;> exact ⟨rfl, rfl, rfl, rfl, rfl, rfl⟩

/-- Settles O40. -/
theorem responseLatched_holds : Obligations.ResponseLatched := by
  intro s present lines tn h1 por phase word takes tenure header mask notDuplicate all isVar outcome fetch length
  have bits : present ||| s.presentBit = mask := by rw [presentBit_eq]
  have single : duplicateSeen tn (present ||| s.presentBit) s = false := by
    rw [Bool.eq_false_iff]
    intro seen
    refine notDuplicate ?_
    rw [duplicateSeen, bits] at seen
    simpa [inMask, and_assoc, -BitVec.getLsbD_eq_getElem] using seen
  have latched : latchResponse tn (present ||| s.presentBit) (orLines lines tn.answers) =
      { tn with present := mask, lines := all, outcome := some outcome, dataLength := length } := by
    rw [bits, latchResponse, dataLengthFor_eq, header]
    rfl
  have run := (exec_responseWord_of_por_clear por present lines).trans (congrArg Host.Outcome.next
    ((responseCompletes_of_response phase word takes tenure).trans ((completeResponse_eq tn present lines s).trans
      (if_neg (by rw [single]; exact Bool.false_ne_true)))))
  obtain ⟨toPhase, roster, toTenure, sender, inhibit, frame⟩ := nextData_frame 0
    (latchResponse tn (present ||| s.presentBit) (orLines lines tn.answers)).dataLength (responseLatched tn present lines s)
  have updated := updateRoster_eq mask s
  rw [← bits] at updated
  have link : (responseLatched tn present lines s).link = { s.link with
      roster := mask, tenure := some { tn with present := mask, lines := all, outcome := some outcome, dataLength := length },
      wordOpen := false, valid := s.link.valid == s.link.wordOpen } := by
    rw [responseLatched, updated, latched, bits]
    rfl
  have completion : (responseLatched tn present lines s).completion = { s.completion with latched :=
      { s.completion.latched with roster := s.completion.latched.roster || decide (s.link.roster ≠ mask) } } := by
    rw [responseLatched, updated, bits]
    rfl
  have rest : responseLatched tn present lines s =
      (s.setCompletion (responseLatched tn present lines s).completion).setLink (responseLatched tn present lines s).link := by
    rw [responseLatched, updated]
    rfl
  have kept : (nextData 0 (latchResponse tn (present ||| s.presentBit) (orLines lines tn.answers)).dataLength
      (responseLatched tn present lines s)).completion = (responseLatched tn present lines s).completion := by rw [frame]; rfl
  refine ⟨_, run, roster.trans (by rw [link]), kept.trans completion, toTenure.trans (by rw [link]),
    toPhase.trans (by rw [latched]), sender.trans (by rw [link]), inhibit.trans (by rw [link]), ?_⟩
  rw [kept]
  refine frame.trans ?_
  conv_lhs => rw [rest]
  rfl

/-! ## Data words sent -/

section
variable {s : State} {tn : Tenure} {h1 : Halfword} {k : Kind}

/-- The words this node drives, its tenure, kind and place as sender given (R63). -/
theorem dataSource_of_notice {j : SlotIx} {f : Frame} (tenure : s.link.tenure = some tn) (kind : kindOf tn.h0 = some .notice)
    (sender : s.link.sender = some j) (frame : s.tracker.slots[j].frame = some f) : s.dataSource = some f.payload := by
  simp only [State.dataSource, tenure, kind, sender, frame]
  rfl

theorem dataSource_of_writeback {j : SlotIx} (tenure : s.link.tenure = some tn) (header : tn.h1 = some h1)
    (kind : kindOf tn.h0 = some .writeback) (sender : s.link.sender = some j) :
    s.dataSource = (s.entryOf (h1Var h1)).map fun i => s.copy.entries[i].value.toList := by
  simp only [State.dataSource, tenure, kind, sender, header, Option.getD_some, namedVar_of_var kind rfl]

theorem dataSource_of_fetch (tenure : s.link.tenure = some tn) (header : tn.h1 = some h1) (kind : kindOf tn.h0 = some k)
    (fetch : k = .read ∨ k = .own) (sender : s.link.sender = none) : s.dataSource =
      if tn.lines.modLine then
        (if tn.answers.modLine then (s.entryOf (h1Var h1)).map fun i => s.copy.entries[i].value.toList else none)
      else if tn.answers.homeLine then some (s.record (h1Var h1)).value.toList else none := by
  obtain rfl | rfl := fetch <;>
    simp only [State.dataSource, tenure, kind, sender, header, Option.getD_some, namedVar_of_var kind rfl]

theorem dataSource_of_listener (tenure : s.link.tenure = some tn) (kind : kindOf tn.h0 = some k)
    (sends : k = .writeback ∨ k = .notice) (sender : s.link.sender = none) : s.dataSource = none := by
  simp only [State.dataSource, tenure, kind, sender]
  obtain rfl | rfl := sends <;> cases namedVar tn.h0 (tn.h1.getD 0#16) <;> rfl

end

theorem drivesValid_of_data {s : State} (por : s.por = false) (phase : s.link.phase = .data)
    (isOpen : s.link.wordOpen = true) : s.drivesValid = s.dataSource.isSome := by
  simp [State.drivesValid, por, phase, isOpen]

theorem pinLd_of_data {s : State} (por : s.por = false) (phase : s.link.phase = .data) (isOpen : s.link.wordOpen = true) :
    s.pinLd = (s.dataSource).elim 0 fun ws => ws.getD s.link.wordIndex 0 := by
  simp [State.pinLd, por, phase, isOpen]

theorem phase_eta {l : LinkUnit} {p : LinkPhase} (h : l.phase = p) : { l with phase := p } = l := by
  rw [← h]

/-- A data word completes: the next one opens here or is awaited (R61, R86). -/
theorem nextData_of_more {s : State} {i length : Nat} (phase : s.link.phase = .data) (more : i < length) :
    nextData i length s = s.setLink { s.link with
      wordIndex := i
      wordOpen := s.dataSource.isSome
      valid := s.link.valid != s.dataSource.isSome
      wait := some ⟨if s.dataSource.isSome = true then .wordCompletion else .nextWord, max 1 s.timing.handshake.toNat⟩ } := by
  have wait : (if s.dataSource.isSome then handshakeWait .wordCompletion s else handshakeWait .nextWord s) =
      some ⟨if s.dataSource.isSome = true then .wordCompletion else .nextWord, max 1 s.timing.handshake.toNat⟩ := by
    split <;> rfl
  rw [nextData, if_pos more, wait]
  exact congrArg (fun l : LinkUnit => s.setLink { l with
      wordIndex := i
      wordOpen := s.dataSource.isSome
      valid := s.link.valid != s.dataSource.isSome
      wait := some ⟨if s.dataSource.isSome = true then .wordCompletion else .nextWord, max 1 s.timing.handshake.toNat⟩ })
    (phase_eta phase)

theorem completeWord_of_data {s : State} {t : Tenure} (phase : s.link.phase = .data) (ld : Halfword) :
    completeWord ld t s = nextData (s.link.wordIndex + 1) t.dataLength s := by
  simp [completeWord, phase]

/-- Settles O42: what is driven by the source of the words, and the word after. -/
theorem dataWordsSent : Obligations.DataWordsSent := by
  intro s ld h1 tn k i por phase isOpen tenure header kind index v limit
  have drives := drivesValid_of_data por phase isOpen
  have level := pinLd_of_data por phase isOpen
  rw [index] at level
  have silent : s.dataSource = none → s.pinLd = 0 ∧ s.drivesValid = false := fun none =>
    ⟨by rw [level, none]; rfl, by rw [drives, none]; rfl⟩
  have words : ∀ (ws : List Halfword) (w : Halfword), s.dataSource = some ws → ws[i.val]? = some w →
      s.pinLd = w ∧ s.drivesValid = true := fun ws w source word =>
    ⟨by rw [level, source]; show ws.getD i.val 0 = w; rw [List.getD_eq_getElem?_getD, word]; rfl, by rw [drives, source]; rfl⟩
  have value : ∀ x : Value, s.dataSource = some x.toList → s.pinLd = x[i] ∧ s.drivesValid = true := fun x source =>
    words _ _ source (by simp)
  have run := (exec_wordComplete_of_por_clear por ld).trans (congrArg Host.Outcome.next
    ((wordCompletes_of_open isOpen tenure ld).trans (completeWord_of_data phase ld)))
  rw [index] at run
  refine ⟨fun fetch other => ?_, fun writeback sends e entry => ?_, fun notice j f w sender frame word => ?_,
    fun sends sender => silent (dataSource_of_listener tenure kind sends sender), fun more => ?_, fun last => ?_⟩
  · have source := dataSource_of_fetch tenure header kind fetch other
    refine ⟨fun clean home => value _ ?_, fun modified own e entry => value _ ?_, fun foreign clean => silent ?_,
      fun modified foreign => silent ?_⟩
    · rw [source, clean, home]
      rfl
    · rw [source, modified, own, entry]
      rfl
    · rw [source, foreign, clean]
      simp
    · rw [source, modified, foreign]
      rfl
  · obtain ⟨j, sender⟩ := Option.isSome_iff_exists.mp sends
    subst writeback
    exact value _ ((dataSource_of_writeback tenure header kind sender).trans (by rw [entry]; rfl))
  · subst notice
    exact words _ _ (dataSource_of_notice tenure kind sender frame) word
  · rw [run, nextData_of_more phase more, drives]
  · rw [run, nextData, if_neg (Nat.not_lt.mpr last)]
    rfl

/-! ## Data words kept -/

/-- The capture condition, spelled out (R12). -/
theorem captures_iff {t : Tenure} {s : State} {v : VarNum} {k : Kind} (kind : kindOf t.h0 = some k) :
    captures t s v = true ↔ (((k = .read ∨ k = .own) ∧ t.lines.modLine = true ∧
        ∃ l : NodeId, (s.record v).state = .lent l ∧ t.present.getLsbD l.toNat = true) ∨
      (k = .writeback ∧ (s.record v).state = .lent (sourceOf t.h0))) := by
  unfold captures
  rw [kind]
  cases state : (s.record v).state <;> cases k <;> simp [inMask, -BitVec.getLsbD_eq_getElem]

theorem dataArrives_of_awaited {s : State} {t : Tenure} (phase : s.link.phase = .data) (closed : s.link.wordOpen = false)
    (silent : s.dataSource = none) (tenure : s.link.tenure = some t) (ld : Halfword) :
    dataArrives ld s = takeData t ld s := by
  rw [dataArrives, tenure]
  exact if_pos ⟨phase, closed, by rw [silent]; rfl⟩

section
variable {s : State} {t : Tenure} {ld h1 : Halfword} {k : Kind}

theorem keepDataWord_of_named (kind : kindOf t.h0 = some k) (isVar : k.isVar = true) (header : t.h1 = some h1) :
    keepDataWord t ld s = if s.ownsVar (h1Var h1) then
        (if captures t s (h1Var h1) then s.setHome { s.home with capture := s.home.capture ++ [ld] } else s)
      else if s.link.sender.isSome then s.setCopy { s.copy with receive := s.copy.receive ++ [ld] } else s := by
  rw [keepDataWord, header, Option.getD_some, namedVar_of_var kind isVar]

theorem keepDataWord_of_notice (kind : kindOf t.h0 = some .notice) : keepDataWord t ld s =
    if t.addressed then s.setNotices { s.notices with buffer := s.notices.buffer ++ [ld] } else s := by
  rw [keepDataWord, namedVar_of_not_var kind rfl]

end

/-- Settles O43: by the home, the requester and the listener. -/
theorem dataWordKept : Obligations.DataWordKept := by
  intro s ld h1 tn por phase closed silent tenure header taken v
  have run := (exec_dataWord_of_por_clear por ld).trans
    (congrArg Host.Outcome.next (dataArrives_of_awaited phase closed silent tenure ld))
  refine ⟨fun k kind isVar => ⟨fun home => ?_, fun foreign => ?_⟩, fun notice => ?_⟩
  · have kept : keepDataWord tn ld s =
        if captures tn s v then s.setHome { s.home with capture := s.home.capture ++ [ld] } else s := by
      rw [keepDataWord_of_named kind isVar header, ownsVar_of_home home, if_pos rfl]
    refine ⟨fun captured => ?_, fun dropped => ?_⟩
    · rw [run, takeData, kept, if_pos ((captures_iff kind).mpr captured)]
      rfl
    · rw [run, takeData, kept, if_neg (mt (captures_iff kind).mp dropped)]
      rfl
  · have kept : keepDataWord tn ld s =
        if s.link.sender.isSome then s.setCopy { s.copy with receive := s.copy.receive ++ [ld] } else s := by
      rw [keepDataWord_of_named kind isVar header, not_ownsVar foreign, if_neg Bool.false_ne_true]
    refine ⟨fun sends => ?_, fun sender => ?_⟩
    · rw [run, takeData, kept, if_pos sends]
      rfl
    · rw [run, takeData, kept, sender]
      rfl
  · refine ⟨fun addressed => ?_, fun other => ?_⟩
    · rw [run, takeData, keepDataWord_of_notice notice, if_pos addressed]
      rfl
    · rw [run, takeData, keepDataWord_of_notice notice, if_neg (by rw [other]; exact Bool.false_ne_true)]
      rfl

end Sys2Proof.Machine

/-!
PROOF. A command that is submitted where slot 0 stands open: admitted, started and planned in the one event (R95 to R101,
R116).
-/

namespace Sys2Proof.Machine

/-! ## Completions where nothing is reserved -/

theorem setEntries_self {s : State} {entries : Vector CopyEntry 32} (h : ∀ i : EntryIx, entries[i] = s.copy.entries[i]) :
    s.setCopy { s.copy with entries := entries } = s := by
  have same : entries = s.copy.entries := Vector.ext fun i lt => h ⟨i, lt⟩
  rw [same]
  rfl

/-- A slot that holds no reservation releases none (R37). -/
theorem releaseReservations_of_unreserved {s : State} {k : SlotIx} (h : ∀ i : EntryIx, s.copy.entries[i].reservedBy ≠ some k) :
    releaseReservations k s = s :=
  setEntries_self fun i => by
    simp only [Fin.getElem_fin, Vector.getElem_ofFn]
    exact if_neg (h i)

/-- A command's end, where its slot holds no reservation: its record, its credits and the slot FREE (R132). -/
theorem complete_of_unreserved {s : State} {k : SlotIx} {c : Command} (command : s.tracker.slots[k].command = some c)
    (unreserved : ∀ i : EntryIx, s.copy.entries[i].reservedBy ≠ some k) (r : CmdResult) (d : Option NodeMask) :
    complete k r d s = (s.setCompletion { s.completion with
        free := s.completion.free + creditsReturned c.body r.status
        queue := s.completion.queue ++ [slotRecord c s.tracker.slots[k].tenures r d] }).setTracker
      { s.tracker with slots := s.tracker.slots.set k Slot.idle } := by
  unfold complete
  rw [command]
  simp only
  rw [releaseReservations_of_unreserved (s := freeCredits (creditsReturned c.body r.status)
    (post (slotRecord c s.tracker.slots[k].tenures r d) s)) unreserved]
  rfl

/-- A search in rising number finds the lowest place. -/
theorem find_finRange {n : Nat} {P : Fin n → Bool} {k : Fin n} (hit : P k = true) (first : ∀ j : Fin n, j < k → P j = false) :
    (List.finRange n).find? P = some k := by
  rw [List.find?_eq_some_iff_getElem]
  refine ⟨hit, k.val, by simp, by simp, fun j lt => ?_⟩
  rw [List.getElem_finRange]
  simpa using first ⟨j, lt.trans k.isLt⟩ lt

/-! ## The staged rows -/

/-- The row `i` stages `g` and submits it; `b`, tagged `tag`, is the command formed (R95). -/
def Staged (s : State) (i : Instr) (tag : Tag) (g : Staging) (b : Body) : Prop :=
  exec i s = .next (submit (s.setPort { s.port with staging := g })) ∧ formBody s.nodeId g = .ok b ∧ stagedTag g = tag

/-- A row whose staged code and tag are its own (R95). -/
theorem staged_of_formBody {s : State} {i : Instr} {tag : Tag} {code : BitVec 4} {g : Staging} {b : Body} (cmd : g.cmd = cmdWord code tag)
    (run : exec i s = .next (submit (s.setPort { s.port with staging := g })))
    (formed : stagedCode g = code → formBody s.nodeId g = .ok b) : Staged s i tag g b := by
  obtain ⟨codeField, tagField⟩ := cmdWord_fields code tag
  exact ⟨run, formed (by rw [stagedCode, cmd, codeField]), by rw [stagedTag, cmd, tagField]⟩

section
variable {s : State} (por : s.por = false) (tag : Tag) (cvar carg0 carg1 : Halfword) (payload : Value)
include por

theorem staged_load : Staged s (.load tag cvar) tag { s.port.staging with cmd := cmdWord 1 tag, cvar := cvar }
    (.load (operandVar cvar)) :=
  staged_of_formBody rfl (stageAndSubmit_of_por_clear por _) fun code => by rw [formBody, code]; rfl

theorem staged_store (mask : operandByte carg0 ≠ 0) : Staged s (.store tag cvar carg0 payload) tag
    { s.port.staging with cmd := cmdWord 2 tag, cvar := cvar, carg0 := carg0, stage := payload }
    (.store (operandVar cvar) (operandByte carg0) payload) :=
  staged_of_formBody rfl (stageAndSubmit_of_por_clear por _) fun code => by rw [formBody, code]; exact if_neg mask

theorem staged_swap : Staged s (.swap tag cvar carg0 carg1 payload) tag ⟨cmdWord 3 tag, cvar, carg0, carg1, payload⟩
    (.swap (operandVar cvar) (carg1 ++ carg0) payload) :=
  staged_of_formBody rfl (stageAndSubmit_of_por_clear por _) fun code => by rw [formBody, code]; rfl

theorem staged_release : Staged s (.release tag cvar) tag { s.port.staging with cmd := cmdWord 4 tag, cvar := cvar }
    (.release (operandVar cvar)) :=
  staged_of_formBody rfl (stageAndSubmit_of_por_clear por _) fun code => by rw [formBody, code]; rfl

theorem staged_hold (duration : operandByte carg0 ≠ 0) : Staged s (.hold tag cvar carg0) tag
    { s.port.staging with cmd := cmdWord 5 tag, cvar := cvar, carg0 := carg0 }
    (.hold (operandVar cvar) (operandByte carg0)) :=
  staged_of_formBody rfl (stageAndSubmit_of_por_clear por _) fun code => by rw [formBody, code]; exact if_neg duration

theorem staged_unhold : Staged s (.unhold tag cvar) tag { s.port.staging with cmd := cmdWord 6 tag, cvar := cvar }
    (.unhold (operandVar cvar)) :=
  staged_of_formBody rfl (stageAndSubmit_of_por_clear por _) fun code => by rw [formBody, code]; rfl

theorem staged_guard {level : Guard} (home : homeOf (operandVar cvar) = s.nodeId)
    (named : carg0.extractLsb' 0 2 = level.number) : Staged s (.guard tag cvar carg0) tag
    { s.port.staging with cmd := cmdWord 7 tag, cvar := cvar, carg0 := carg0 } (.guard (operandVar cvar) level) :=
  staged_of_formBody rfl (stageAndSubmit_of_por_clear por _) fun code => by
    have staged : ∀ g : Staging, g.carg0 = carg0 → stagedLevel g = some level := fun g e => by
      rw [stagedLevel, e, named]
      cases level <;> rfl
    rw [formBody, code, staged _ rfl]
    exact if_pos home

theorem staged_notice (mask : carg0 ≠ 0) (other : carg0.getLsbD s.nodeId.toNat = false)
    (low : 1 ≤ (carg1.extractLsb' 0 4).toNat) (high : (carg1.extractLsb' 0 4).toNat ≤ 8) :
    Staged s (.notice tag carg0 carg1 payload) tag
      { s.port.staging with cmd := cmdWord 8 tag, carg0 := carg0, carg1 := carg1, stage := payload }
      (.notice carg0 (payload.toList.take (carg1.extractLsb' 0 4).toNat)) :=
  staged_of_formBody rfl (stageAndSubmit_of_por_clear por _) fun code => by
    rw [formBody, code]
    refine if_neg ?_
    rintro (zero | own | none | long)
    · exact mask zero
    · exact Bool.false_ne_true (other.symm.trans own)
    · exact absurd none (Nat.ne_of_gt low)
    · exact absurd high (Nat.not_le.mpr long)

theorem staged_flush : Staged s (.flush tag) tag { s.port.staging with cmd := cmdWord 9 tag } .flush :=
  staged_of_formBody rfl (stageAndSubmit_of_por_clear por _) fun code => by rw [formBody, code]; rfl

theorem staged_join : Staged s (.join tag) tag { s.port.staging with cmd := cmdWord 10 tag } .join :=
  staged_of_formBody rfl (stageAndSubmit_of_por_clear por _) fun code => by rw [formBody, code]; rfl

theorem staged_leave : Staged s (.leave tag) tag { s.port.staging with cmd := cmdWord 11 tag } .leave :=
  staged_of_formBody rfl (stageAndSubmit_of_por_clear por _) fun code => by rw [formBody, code]; rfl

end

/-! ## The start -/

/-- Slot 0 as a start leaves it, for the command submitted with `tag` (R101). -/
def State.freshSlot (s : State) (tag : Tag) (b : Body) : Slot :=
  { Slot.idle with phase := .plan, command := some ⟨tag, s.port.nextSeq, b⟩ }

theorem started_slot (s : State) (g : Staging) (b : Body) (x : Slot) (j : SlotIx) :
    (s.started g b x).tracker.slots[j] = if 0 = j then x else s.tracker.slots[j] :=
  writeSlot_slot 0 j x s

theorem started_slot_zero (s : State) (g : Staging) (b : Body) (x : Slot) : (s.started g b x).tracker.slots[(0 : SlotIx)] = x := by
  rw [started_slot, if_pos rfl]

theorem started_slot_other (s : State) (g : Staging) (b : Body) (x : Slot) {j : SlotIx} (h : j ≠ 0) :
    (s.started g b x).tracker.slots[j] = s.tracker.slots[j] := by
  rw [started_slot, if_neg (Ne.symm h)]

theorem slots_set_set (slots : Vector Slot 4) (k : SlotIx) (x y : Slot) : (slots.set k x).set k y = slots.set k y := by
  simp

theorem slots_set_self {slots : Vector Slot 4} {k : SlotIx} {x : Slot} (h : slots[k] = x) : slots.set k x = slots := by
  rw [← h]
  simp

/-- A later write of slot 0 replaces what the start left there. -/
theorem writeSlot_started (s : State) (g : Staging) (b : Body) (x y : Slot) :
    writeSlot 0 y (s.started g b x) = s.started g b y := by
  have set := slots_set_set s.tracker.slots 0 x y
  exact congrArg (fun slots => (s.submitted g (s.completion.free - b.credits) s.completion.queue).setTracker
    { s.tracker with slots := slots }) set

/-- A node at rest with room has slot 0 open. -/
theorem slotZeroOpen_of_ready {s : State} (h : s.ready) : s.slotZeroOpen := by
  obtain ⟨⟨por, queue, idle, unreserved⟩, online, free⟩ := h
  refine ⟨por, online, free, queue, idle 0, fun j => ?_, fun i => by rw [unreserved]; nofun⟩
  rw [State.slotBody, idle j]
  exact ⟨nofun, rfl⟩

theorem busyCommands_of_idle {s : State} (idle : ∀ k : SlotIx, s.tracker.slots[k] = Slot.idle) : s.busyCommands = [] := by
  simp only [State.busyCommands, idle]
  decide

/-- With no command busy a lone record may start (R100). -/
theorem eligible_alone (c : Command) : eligible [] [] c = true := by
  unfold eligible
  cases c.body <;> rfl

theorem mem_busyCommands {s : State} {d : Command} (h : d ∈ s.busyCommands) :
    ∃ j : SlotIx, s.tracker.slots[j].command = some d := by
  obtain ⟨j, _, command⟩ := List.mem_filterMap.mp h
  exact ⟨j, command⟩

theorem not_isBarrier_of_open {s : State} (h : s.slotZeroOpen) {d : Command} (busy : d ∈ s.busyCommands) :
    d.body.isBarrier = false := by
  obtain ⟨_, _, _, _, _, others, _⟩ := h
  obtain ⟨j, command⟩ := mem_busyCommands busy
  obtain ⟨_, body⟩ := others j
  rw [State.slotBody, command] at body
  simpa using body

/-- Where slot 0 stands open, a command whose variable no slot names may start (R100). -/
theorem eligible_of_open {s : State} (h : s.slotZeroOpen) {c : Command} {v : VarNum} (var : c.body.var? = some v)
    (alone : ∀ j : SlotIx, s.slotVar j ≠ some v) : eligible s.busyCommands [] c = true := by
  have barrier : s.busyCommands.any (·.body.isBarrier) = false := by
    rw [List.any_eq_false]
    exact fun d busy => by rw [not_isBarrier_of_open h busy]; exact Bool.false_ne_true
  have names : s.busyCommands.any (fun d => d.body.var? == some v) = false := by
    rw [List.any_eq_false]
    intro d busy same
    obtain ⟨j, command⟩ := mem_busyCommands busy
    refine alone j ?_
    rw [State.slotVar, State.slotBody, command]
    exact beq_iff_eq.mp same
  unfold eligible
  simp only [var, names, barrier, List.any_nil, Bool.not_false, Bool.and_true, Bool.true_and]
  cases body : c.body <;> rw [body] at var <;> first | rfl | cases var

section
variable {s : State} {i : Instr} {tag : Tag} {g : Staging} {b : Body}

theorem checkSubmit_of_staged (staged : Staged s i tag g b) (states : stateAdmits s.participation b = true)
    (queue : s.port.queue = []) (credits : b.credits ≤ s.completion.free) :
    checkSubmit (s.setPort { s.port with staging := g }) = .ok b := by
  obtain ⟨_, formed, _⟩ := staged
  have room : hasRoom (s.setPort { s.port with staging := g }) b = true := by
    simp [hasRoom, queue, credits, Config.queueCapacity]
  rw [checkSubmit]
  show (match formBody s.nodeId g with | .error r => _ | .ok b => _) = _
  rw [formed]
  show (if stateAdmits s.participation b = true then _ else _) = _
  rw [if_pos states, if_pos room]

/-- The state in which an admitted command starts in slot 0, where its start leaves the participation and the link alone (R97,
R101). -/
theorem startSlot_enqueue (queue : s.port.queue = []) (tagged : stagedTag g = tag)
    (plain : b.code ≠ .join ∧ b.code ≠ .leave) :
    startSlot 0 ⟨tag, s.port.nextSeq, b⟩ [] (enqueue b (s.setPort { s.port with staging := g })) =
      s.started g b (s.freshSlot tag b) := by
  obtain ⟨join, leave⟩ := plain
  have participation : ∀ u, startParticipation b u = u := fun u => by
    cases b <;> first | rfl | exact absurd rfl join | exact absurd rfl leave
  rw [startSlot, participation]
  rfl

/-- An admitted command starts in the lowest FREE slot and plans in the same event (R97, R101, R116). -/
theorem exec_of_staged_at {k : SlotIx} (staged : Staged s i tag g b) (states : stateAdmits s.participation b = true)
    (queue : s.port.queue = []) (credits : b.credits ≤ s.completion.free) (free : s.freeSlot = some k)
    (still : ∀ j : SlotIx, s.due j = false) (starts : eligible s.busyCommands [] ⟨tag, s.port.nextSeq, b⟩ = true)
    (first : ∀ j : SlotIx, j < k → (startSlot k ⟨tag, s.port.nextSeq, b⟩ []
      (enqueue b (s.setPort { s.port with staging := g }))).due j = false) :
    exec i s = .next (settleFor 62 (planSlot k
      (startSlot k ⟨tag, s.port.nextSeq, b⟩ [] (enqueue b (s.setPort { s.port with staging := g }))))) := by
  have admitted := checkSubmit_of_staged staged states queue credits
  obtain ⟨run, _, tagged⟩ := staged
  have queued : (enqueue b (s.setPort { s.port with staging := g })).port.queue = [⟨tag, s.port.nextSeq, b⟩] := by
    show s.port.queue ++ [⟨stagedTag g, s.port.nextSeq, b⟩] = _
    rw [queue, tagged]
    rfl
  have quiet : (enqueue b (s.setPort { s.port with staging := g })).nextDue = none :=
    List.find?_eq_none.mpr fun j _ => by
      show ¬ s.due j = true
      rw [still j]
      exact Bool.false_ne_true
  have free' : (enqueue b (s.setPort { s.port with staging := g })).freeSlot = some k := free
  have start : startNext (enqueue b (s.setPort { s.port with staging := g })) =
      some (startSlot k ⟨tag, s.port.nextSeq, b⟩ [] (enqueue b (s.setPort { s.port with staging := g }))) := by
    rw [startNext, free']
    simp only
    rw [queued, takeEligible]
    show (match (if eligible s.busyCommands [] ⟨tag, s.port.nextSeq, b⟩ = true then some (_, [] ++ []) else _) with
      | none => none | some (c, rest) => some (startSlot k c rest _)) = _
    rw [if_pos starts]
    rfl
  have due : (startSlot k ⟨tag, s.port.nextSeq, b⟩ [] (enqueue b (s.setPort { s.port with staging := g }))).nextDue = some k :=
    find_finRange (by rw [State.due, startSlot_slot, if_pos rfl]; rfl) first
  rw [run, submit_of_ok admitted]
  exact congrArg Host.Outcome.next ((settleFor_start quiet start 63).trans (settleFor_plan due 62))

/-- An admitted command starts in the open slot 0 and plans in the same event (R97, R101, R116). -/
theorem exec_of_staged (staged : Staged s i tag g b) (states : stateAdmits s.participation b = true)
    (queue : s.port.queue = []) (credits : b.credits ≤ s.completion.free)
    (open' : s.tracker.slots[(0 : SlotIx)] = Slot.idle) (still : ∀ j : SlotIx, s.due j = false)
    (starts : eligible s.busyCommands [] ⟨tag, s.port.nextSeq, b⟩ = true) :
    exec i s = .next (settleFor 62 (planSlot 0
      (startSlot 0 ⟨tag, s.port.nextSeq, b⟩ [] (enqueue b (s.setPort { s.port with staging := g }))))) :=
  exec_of_staged_at staged states queue credits (find_finRange (by rw [open']; rfl) nofun) still starts nofun

theorem not_due_of_not_plan {j : SlotIx} (h : s.tracker.slots[j].phase ≠ .plan) : s.due j = false := by
  rw [State.due, beq_false_of_ne h, Bool.false_and]

/-- Where slot 0 stands open, an ordinary command plans in it (R97, R101, R116). -/
theorem exec_of_open (staged : Staged s i tag g b) (h : s.slotZeroOpen) (credits : b.credits ≤ s.completion.free)
    (plain : b.code ≠ .join ∧ b.code ≠ .leave) (starts : eligible s.busyCommands [] ⟨tag, s.port.nextSeq, b⟩ = true) :
    exec i s = .next (settleFor 62 (planSlot 0 (s.started g b (s.freshSlot tag b)))) := by
  obtain ⟨_, online, _, queue, idle, others, _⟩ := h
  have states : stateAdmits s.participation b = true := by
    rw [online]
    cases b <;> first | rfl | exact absurd rfl plain.1
  have still : ∀ j : SlotIx, s.due j = false := fun j => by
    obtain ⟨phase, _⟩ := others j
    exact not_due_of_not_plan phase
  rw [exec_of_staged staged states queue credits idle still starts]
  obtain ⟨_, _, tagged⟩ := staged
  rw [startSlot_enqueue queue tagged plain]

end

/-! ## The end of the round -/

/-- A round ends where no slot is to plan and nothing is queued (R116). -/
theorem settleFor_of_still {s : State} (queue : s.port.queue = []) (still : ∀ j : SlotIx, s.due j = false) (n : Nat) :
    settleFor n s = s :=
  settleFor_quiet (List.find?_eq_none.mpr fun j _ => by rw [still j]; exact Bool.false_ne_true)
    (startNext_of_queue_nil queue) n

theorem not_due_of_open {s t : State} (h : s.slotZeroOpen) {j : SlotIx} (same : t.tracker.slots[j] = s.tracker.slots[j]) :
    t.due j = false := by
  obtain ⟨_, _, _, _, _, others, _⟩ := h
  obtain ⟨phase, _⟩ := others j
  exact not_due_of_not_plan (by rw [same]; exact phase)

/-- The home, copy and hold blocks as a plan leaves them, the rest as it was. -/
def State.withBlocks (s : State) (home : HomeUnit) (copy : CopyUnit) (holds : Vector (Option HoldRecord) 4) : State :=
  ((s.setHome home).setCopy copy).setHolds holds

section
variable {s : State} {i : Instr} {tag : Tag} {g : Staging} {b : Body}

/-- The plan of the started command is its end: the event ends with the command's record (R132). -/
theorem exec_of_completes (run : exec i s = .next (settleFor 62 (planSlot 0 (s.started g b (s.freshSlot tag b)))))
    (h : s.slotZeroOpen) {home : HomeUnit} {copy : CopyUnit} {holds : Vector (Option HoldRecord) 4} {r : CmdResult}
    {x : Slot} (command : x.command = some ⟨tag, s.port.nextSeq, b⟩) (tenures : x.tenures = 0)
    (plan : planSlot 0 (s.started g b (s.freshSlot tag b)) = complete 0 r none ((s.started g b x).withBlocks home copy holds))
    (unreserved : ∀ e : EntryIx, copy.entries[e].reservedBy ≠ some 0) :
    exec i s = .next ((s.submitted g (s.completion.free - b.credits + creditsReturned b r.status)
      (s.completion.queue ++ [⟨tag, b.code, b.subject, r.status, 0, r.value, none⟩])).withBlocks home copy holds) := by
  have ended : complete 0 r none ((s.started g b x).withBlocks home copy holds) =
      (s.submitted g (s.completion.free - b.credits + creditsReturned b r.status)
        (s.completion.queue ++ [⟨tag, b.code, b.subject, r.status, 0, r.value, none⟩])).withBlocks home copy holds := by
    obtain ⟨_, _, _, _, idle, _, _⟩ := h
    have zero := started_slot_zero s g b x
    have atZero : ((s.started g b x).withBlocks home copy holds).tracker.slots[(0 : SlotIx)] = x := zero
    rw [complete_of_unreserved (s := (s.started g b x).withBlocks home copy holds) (c := ⟨tag, s.port.nextSeq, b⟩)
      (by rw [atZero, command]) unreserved, atZero, tenures]
    have slots : (s.started g b x).tracker.slots.set 0 Slot.idle = s.tracker.slots :=
      (slots_set_set s.tracker.slots 0 _ Slot.idle).trans (slots_set_self idle)
    show State.setTracker _ { s.tracker with slots := (s.started g b x).tracker.slots.set 0 Slot.idle } = _
    rw [slots]
    rfl
  rw [run, plan, ended]
  refine congrArg Host.Outcome.next (settleFor_of_still ?_ (fun j => ?_) 62)
  · rfl
  · exact not_due_of_open (s := s) h rfl

/-- The started command's plan is a frame in slot 0 (R117, R125). -/
theorem exec_of_sends (run : exec i s = .next (settleFor 62 (planSlot 0 (s.started g b (s.freshSlot tag b)))))
    (h : s.slotZeroOpen) {copy : CopyUnit} {x : Slot} (sends : x.phase = .send)
    (plan : planSlot 0 (s.started g b (s.freshSlot tag b)) = (s.started g b x).setCopy copy) :
    exec i s = .next ((s.started g b x).setCopy copy) := by
  rw [run, plan]
  refine congrArg Host.Outcome.next (settleFor_of_still (s := (s.started g b x).setCopy copy) rfl (fun j => ?_) 62)
  by_cases zero : j = 0
  · subst zero
    exact not_due_of_not_plan (by
      show (s.started g b x).tracker.slots[(0 : SlotIx)].phase ≠ .plan
      rw [started_slot_zero, sends]
      nofun)
  · exact not_due_of_open h (started_slot_other s g b x zero)

/-- The started command's plan waits in slot 0 (R117). -/
theorem exec_of_waits (run : exec i s = .next (settleFor 62 (planSlot 0 (s.started g b (s.freshSlot tag b)))))
    (h : s.slotZeroOpen) {copy : CopyUnit} {x : Slot}
    (waits : ((s.started g b x).setCopy copy).due 0 = false)
    (plan : planSlot 0 (s.started g b (s.freshSlot tag b)) = (s.started g b x).setCopy copy) :
    exec i s = .next ((s.started g b x).setCopy copy) := by
  rw [run, plan]
  refine congrArg Host.Outcome.next (settleFor_of_still (s := (s.started g b x).setCopy copy) rfl (fun j => ?_) 62)
  by_cases zero : j = 0
  · subst zero
    exact waits
  · exact not_due_of_open h (started_slot_other s g b x zero)

end

end Sys2Proof.Machine

/-!
PROOF. What one plan of a slot does, command by command (R20, R21, R106, R117 to R121, R134, R135, R139).
-/

namespace Sys2Proof.Machine

/-! ## Writes that change nothing -/

theorem writeSlot_self {s : State} {k : SlotIx} {x : Slot} (h : s.tracker.slots[k] = x) : writeSlot k x s = s := by
  have same := slots_set_self h
  rw [writeSlot, same]
  rfl

theorem writeEntry_self {s : State} {i : EntryIx} {e : CopyEntry} (h : s.copy.entries[i] = e) : writeEntry i e s = s := by
  have same : s.copy.entries.set i e = s.copy.entries := by
    rw [← h]
    simp
  rw [writeEntry, same]
  rfl

/-! ## Plans by the command -/

section
variable {s : State} {k : SlotIx} {c : Command} {v : VarNum}

theorem planSlot_of_var (command : s.tracker.slots[k].command = some c) (var : c.body.var? = some v)
    (plain : c.body.code ≠ .unhold) : planSlot k s = planVar k c v s := by
  unfold planSlot
  rw [command]
  simp only
  cases body : c.body <;> rw [body] at var plain <;> cases var <;> first | exact absurd rfl plain | rfl

theorem planSlot_of_notice {mask : NodeMask} {words : List Halfword} (command : s.tracker.slots[k].command = some c)
    (body : c.body = .notice mask words) : planSlot k s = sendFrame k ⟨.notice, mask, words⟩ s := by
  simp only [planSlot, command, body]

theorem planSlot_of_join (command : s.tracker.slots[k].command = some c) (body : c.body = .join) :
    planSlot k s = sendFrame k ⟨.join, 0, []⟩ s := by
  simp only [planSlot, command, body]
  rfl

theorem planSlot_of_unhold (command : s.tracker.slots[k].command = some c) (body : c.body = .unhold v) :
    planSlot k s = planUnhold k v s := by
  simp only [planSlot, command, body]

theorem planSlot_of_flush (command : s.tracker.slots[k].command = some c) (body : c.body = .flush) :
    planSlot k s = planDrain k .flush s := by
  simp only [planSlot, command, body]

theorem planSlot_of_leave (command : s.tracker.slots[k].command = some c) (body : c.body = .leave) :
    planSlot k s = planDrain k .leave s := by
  simp only [planSlot, command, body]

/-- A command on a bound variable waits (R117). -/
theorem planVar_of_bound (bound : s.boundVar = some v) : planVar k c v s = waitFor k .binding (forgetEntry k v s) :=
  if_pos bound

theorem planVar_of_release {w : VarNum} (free : s.boundVar ≠ some v) (body : c.body = .release w) :
    planVar k c v s = planRelease k v (forgetEntry k v s) := by
  rw [planVar, if_neg free, body]

/-- LOAD, STORE, SWAP, HOLD and GUARD plan at the home (R118). -/
theorem planVar_of_home (free : s.boundVar ≠ some v) (home : homeOf v = s.nodeId) (plain : c.body.code ≠ .release) :
    planVar k c v s = planHome k c v s := by
  have owns := ownsVar_of_home home
  rw [planVar, if_neg free]
  cases body : c.body <;> rw [body] at plain <;> first | exact absurd rfl plain | rfl | exact if_pos owns

/-- LOAD, STORE, SWAP and HOLD plan on the copy table for a variable homed elsewhere (R119). -/
theorem planVar_of_copy (free : s.boundVar ≠ some v) (foreign : homeOf v ≠ s.nodeId) (needs : c.body.code.needsEntry) :
    planVar k c v s = planCopy k c v (forgetEntry k v s) := by
  have other := not_ownsVar foreign
  rw [planVar, if_neg free]
  cases body : c.body <;> rw [body] at needs <;>
    first | exact if_neg (by rw [other]; exact Bool.false_ne_true) | (obtain h | h | h | h := needs <;> cases h)

/-! ## At the home -/

/-- A command that runs at once on its own record is applied and completes (R118). -/
theorem planHome_of_applied {t : State} {r : CmdResult} (runs : homeTenure c.body (s.record v).state = none)
    (applied : applyHome c v s = (t, some r)) : planHome k c v s = complete k r none t := by
  rw [planHome, runs]
  show completeApplied k (applyHome c v s) = _
  rw [applied]
  rfl

theorem planHome_of_tenure {kind : Kind} (needs : homeTenure c.body (s.record v).state = some kind) :
    planHome k c v s = sendFrame k (varFrame kind v) s := by
  rw [planHome, needs]

theorem homeTenure_quiet (b : Body) : homeTenure b .quiet = none := by
  cases b <;> rfl

/-- What STORE, SWAP and HOLD need of a record that is not QUIET (R20, R118). -/
theorem homeTenure_of_writer {b : Body} (writes : b.code = .store ∨ b.code = .swap ∨ b.code = .hold) :
    homeTenure b .shared = some .purge ∧ ∀ n, homeTenure b (.lent n) = some .own := by
  cases b <;> first | exact ⟨rfl, fun _ => rfl⟩ | (obtain h | h | h := writes <;> cases h)

theorem isLent_iff {st : HomeState} : st.isLent = true ↔ ∃ n, st = .lent n := by
  cases st <;> simp [HomeState.isLent]

/-! ## A command applied to a value -/

theorem word0_eq_iff {x : Value} {low high : Halfword} : word0 x = high ++ low ↔ x[0] = low ∧ x[1] = high := by
  constructor
  · intro same
    have low' := congrArg (BitVec.extractLsb' 0 16) same
    have high' := congrArg (BitVec.extractLsb' 16 16) same
    simp only [word0] at low' high'
    rw [BitVec.extractLsb'_append_eq_right, BitVec.extractLsb'_append_eq_right] at low'
    rw [BitVec.extractLsb'_append_eq_left, BitVec.extractLsb'_append_eq_left] at high'
    exact ⟨low', high'⟩
  · rintro ⟨rfl, rfl⟩
    rfl

theorem applyHome_of_load {w : VarNum} (body : c.body = .load w) :
    applyHome c v s = (s, some ⟨.ok, some (s.record v).value⟩) := by
  rw [applyHome_of_data (by rw [body]; nofun) (by rw [body]; nofun), body]
  rfl

theorem applyHome_of_store {w : VarNum} {mask : BitVec 8} {payload : Value} (body : c.body = .store w mask payload) :
    applyHome c v s = (writeRecord v { s.record v with value := mergeMasked mask payload (s.record v).value } s,
      some ⟨.ok, none⟩) := by
  rw [applyHome_of_data (by rw [body]; nofun) (by rw [body]; nofun), body]
  rfl

theorem applyData_of_match {w : VarNum} {compare : BitVec 32} {payload x : Value} (h : word0 x = compare) :
    applyData (.swap w compare payload) x = some (payload, true, ⟨.ok, none⟩) := if_pos h

theorem applyData_of_mismatch {w : VarNum} {compare : BitVec 32} {payload x : Value} (h : word0 x ≠ compare) :
    applyData (.swap w compare payload) x = some (x, false, ⟨.mismatch, some x⟩) := if_neg h

theorem applyHome_of_match {w : VarNum} {compare : BitVec 32} {payload : Value} (body : c.body = .swap w compare payload)
    (h : word0 (s.record v).value = compare) :
    applyHome c v s = (writeRecord v { s.record v with value := payload } s, some ⟨.ok, none⟩) := by
  rw [applyHome_of_data (by rw [body]; nofun) (by rw [body]; nofun), body, applyData_of_match h]
  rfl

theorem applyHome_of_mismatch {w : VarNum} {compare : BitVec 32} {payload : Value} (body : c.body = .swap w compare payload)
    (h : word0 (s.record v).value ≠ compare) : applyHome c v s = (s, some ⟨.mismatch, some (s.record v).value⟩) := by
  rw [applyHome_of_data (by rw [body]; nofun) (by rw [body]; nofun), body, applyData_of_mismatch h]
  rfl

/-- HELD where a record names the variable (R139). -/
theorem enterHold_of_held (held : s.held v = true) (tag : Tag) (d : BitVec 8) :
    enterHold v tag d s = (s, ⟨.held, none⟩) := if_pos held

theorem enterHold_of_full (held : s.held v = false) (full : s.freeHold = none) (tag : Tag) (d : BitVec 8) :
    enterHold v tag d s = (s, ⟨.holdFull, none⟩) := by
  rw [enterHold, if_neg (by rw [held]; exact Bool.false_ne_true), full]

theorem enterHold_of_free {r : HoldIx} (held : s.held v = false) (free : s.freeHold = some r) (tag : Tag) (d : BitVec 8) :
    enterHold v tag d s = (s.setHolds (s.holds.set r (some ⟨v, tag, d.toNat, 0⟩)), ⟨.ok, none⟩) := by
  rw [enterHold, if_neg (by rw [held]; exact Bool.false_ne_true), free]

theorem applyCopy_of_load {w : VarNum} (body : c.body = .load w) (i : EntryIx) :
    applyCopy c v i s = (promote i s, some ⟨.ok, some s.copy.entries[i].value⟩) := by
  rw [applyCopy_of_data (by rw [body]; nofun), body]
  show (promote i (writeEntry i _ s), _) = _
  rw [writeEntry_self]
  rfl

theorem applyCopy_of_store {w : VarNum} {mask : BitVec 8} {payload : Value} (body : c.body = .store w mask payload)
    (i : EntryIx) : applyCopy c v i s = (promote i (writeEntry i { s.copy.entries[i] with
      value := mergeMasked mask payload s.copy.entries[i].value, state := .dirty } s), some ⟨.ok, none⟩) := by
  rw [applyCopy_of_data (by rw [body]; nofun), body]
  rfl

theorem applyCopy_of_match {w : VarNum} {compare : BitVec 32} {payload : Value} (body : c.body = .swap w compare payload)
    {i : EntryIx} (h : word0 s.copy.entries[i].value = compare) : applyCopy c v i s =
      (promote i (writeEntry i { s.copy.entries[i] with value := payload, state := .dirty } s), some ⟨.ok, none⟩) := by
  rw [applyCopy_of_data (by rw [body]; nofun), body, applyData_of_match h]
  rfl

theorem applyCopy_of_mismatch {w : VarNum} {compare : BitVec 32} {payload : Value} (body : c.body = .swap w compare payload)
    {i : EntryIx} (h : word0 s.copy.entries[i].value ≠ compare) : applyCopy c v i s =
      (promote i s, some ⟨.mismatch, some s.copy.entries[i].value⟩) := by
  rw [applyCopy_of_data (by rw [body]; nofun), body, applyData_of_mismatch h]
  show (promote i (writeEntry i _ s), _) = _
  rw [writeEntry_self]
  rfl

/-! ## On the copy table -/

/-- A command on an entry that another slot has reserved waits (R119). -/
theorem planCopy_of_reserved {i : EntryIx} (entry : s.entryOf v = some i)
    (reserved : reservedByOther s.copy.entries[i] k = true) : planCopy k c v s = waitFor k .reservation s := by
  rw [planCopy, entry]
  exact if_pos reserved

/-- A local hit: a LOAD on any valid entry, another command on one that is OWNED or DIRTY (R39). -/
theorem planCopy_of_hit {i : EntryIx} {t : State} {r : CmdResult} (entry : s.entryOf v = some i)
    (unreserved : reservedByOther s.copy.entries[i] k = false)
    (hit : (s.copy.entries[i].state = .owned ∨ s.copy.entries[i].state = .dirty) ∨
      (s.copy.entries[i].state = .copy ∧ c.body.code = .load))
    (applied : applyCopy c v i (useEntry k i s) = (t, some r)) : planCopy k c v s = complete k r none t := by
  have ends : completeApplied k (applyCopy c v i (useEntry k i s)) = complete k r none t := by
    rw [applied]
    rfl
  rw [planCopy, entry]
  show (if _ then _ else _) = _
  rw [if_neg (by rw [unreserved]; exact Bool.false_ne_true)]
  obtain (state | state) | ⟨state, load⟩ := hit
  · rw [state]
    exact ends
  · rw [state]
    exact ends
  · rw [state]
    cases body : c.body <;> rw [body] at load <;> first | exact ends | cases load

/-- A COPY is claimed by STORE, SWAP and HOLD (R119). -/
theorem planCopy_of_copy {i : EntryIx} (entry : s.entryOf v = some i)
    (unreserved : reservedByOther s.copy.entries[i] k = false) (state : s.copy.entries[i].state = .copy)
    (writes : c.body.code ≠ .load) : planCopy k c v s = sendFrame k (varFrame .claim v) (useEntry k i s) := by
  rw [planCopy, entry]
  show (if _ then _ else _) = _
  rw [if_neg (by rw [unreserved]; exact Bool.false_ne_true), state]
  cases body : c.body <;> rw [body] at writes <;> first | rfl | exact absurd rfl writes

/-- An entry in fetch form is fetched (R119). -/
theorem planCopy_of_fetch {i : EntryIx} (entry : s.entryOf v = some i)
    (unreserved : reservedByOther s.copy.entries[i] k = false) (state : s.copy.entries[i].state = .none) :
    planCopy k c v s = sendFrame k (varFrame (fetchKind c.body) v) (useEntry k i s) := by
  rw [planCopy, entry]
  show (if _ then _ else _) = _
  rw [if_neg (by rw [unreserved]; exact Bool.false_ne_true), state]

/-- With no entry and no victim a slot allocates (R121). -/
theorem planCopy_of_miss (entry : s.entryOf v = none) (victim : s.tracker.slots[k].victim = none) :
    planCopy k c v s = allocate k c.body v s := by
  rw [planCopy, entry]
  show (match s.tracker.slots[k].victim with | some j => _ | none => _) = _
  rw [victim]

theorem fetchKind_eq {c : Command} (needs : c.body.code.needsEntry) : fetchKind c.body = fetchFor c := by
  unfold fetchFor
  cases body : c.body <;> rw [body] at needs <;> first | rfl | (obtain h | h | h | h := needs <;> cases h)

/-- The lowest NONE entry is reserved and fetched (R41, R121). -/
theorem allocate_of_free {i : EntryIx} (free : s.freeEntry = some i) (b : Body) :
    allocate k b v s = sendFrame k (varFrame (fetchKind b) v) (reserveFetch k i v s) := by
  rw [allocate, free]

theorem allocate_of_victim {j : EntryIx} (full : s.freeEntry = none) (oldest : s.oldestVictim k = some j) (b : Body) :
    allocate k b v s = planEvict k b v j (reserveVictim k j s) := by
  rw [allocate, full, oldest]

theorem allocate_of_none (full : s.freeEntry = none) (none : s.oldestVictim k = none) (b : Body) :
    allocate k b v s = complete k ⟨.noRoom, Option.none⟩ Option.none s := by
  rw [allocate, full, none]

/-! ## RELEASE -/

theorem planRelease_of_held (held : s.held v = true) : planRelease k v s = complete k ⟨.held, none⟩ none s := if_pos held

theorem planRelease_of_home (free : s.held v = false) (home : homeOf v = s.nodeId) :
    planRelease k v s = complete k ⟨.ok, none⟩ none s := by
  rw [planRelease, if_neg (by rw [free]; exact Bool.false_ne_true), if_pos (ownsVar_of_home home)]

section
variable (free : s.held v = false) (foreign : homeOf v ≠ s.nodeId)
include free foreign

theorem planRelease_of_no_entry (entry : s.entryOf v = none) : planRelease k v s = complete k ⟨.ok, none⟩ none s := by
  rw [planRelease, if_neg (by rw [free]; exact Bool.false_ne_true),
    if_neg (by rw [not_ownsVar foreign]; exact Bool.false_ne_true), entry]

theorem planRelease_of_reserved {i : EntryIx} (entry : s.entryOf v = some i)
    (reserved : reservedByOther s.copy.entries[i] k = true) : planRelease k v s = waitFor k .reservation s := by
  rw [planRelease, if_neg (by rw [free]; exact Bool.false_ne_true),
    if_neg (by rw [not_ownsVar foreign]; exact Bool.false_ne_true), entry]
  exact if_pos reserved

/-- An unreserved COPY is dropped (R106). -/
theorem planRelease_of_copy {i : EntryIx} (entry : s.entryOf v = some i)
    (unreserved : reservedByOther s.copy.entries[i] k = false) (state : s.copy.entries[i].state = .copy) :
    planRelease k v s = complete k ⟨.ok, none⟩ none (vacate i s) := by
  rw [planRelease, if_neg (by rw [free]; exact Bool.false_ne_true),
    if_neg (by rw [not_ownsVar foreign]; exact Bool.false_ne_true), entry]
  show (if _ then _ else _) = _
  rw [if_neg (by rw [unreserved]; exact Bool.false_ne_true), state]

/-- An OWNED or DIRTY entry is given back (R106). -/
theorem planRelease_of_exclusive {i : EntryIx} (entry : s.entryOf v = some i)
    (unreserved : reservedByOther s.copy.entries[i] k = false)
    (state : s.copy.entries[i].state = .owned ∨ s.copy.entries[i].state = .dirty) :
    planRelease k v s = sendFrame k (varFrame (giveBackKind s.copy.entries[i]) v) (useEntry k i s) := by
  rw [planRelease, if_neg (by rw [free]; exact Bool.false_ne_true),
    if_neg (by rw [not_ownsVar foreign]; exact Bool.false_ne_true), entry]
  show (if _ then _ else _) = _
  rw [if_neg (by rw [unreserved]; exact Bool.false_ne_true)]
  obtain state | state := state <;> rw [state]

end

end

end Sys2Proof.Machine

/-!
PROOF. Commands that plan once in slot 0: LOAD, STORE, SWAP, HOLD, GUARD, RELEASE, NOTICE and JOIN (R19 to R21, R39, R106,
R118 to R121, R134, R135).
-/

namespace Sys2Proof.Machine

/-! ## The started command -/

/-- The state in which the command `b`, staged as `g`, has started in slot 0 and is to plan. -/
abbrev State.planning (s : State) (g : Staging) (tag : Tag) (b : Body) : State := s.started g b (s.freshSlot tag b)

theorem planning_command (s : State) (g : Staging) (tag : Tag) (b : Body) :
    (s.planning g tag b).tracker.slots[(0 : SlotIx)].command = some ⟨tag, s.port.nextSeq, b⟩ := by
  rw [State.planning, started_slot_zero]
  rfl

theorem sendFrame_started (s : State) (g : Staging) (b : Body) (x : Slot) (f : Frame) :
    sendFrame 0 f (s.started g b x) = s.started g b { x with phase := .send, frame := some f, waiting := none } := by
  rw [sendFrame, started_slot_zero, writeSlot_started]

theorem useEntry_started (s : State) (g : Staging) (b : Body) (x : Slot) (i : EntryIx) :
    useEntry 0 i (s.started g b x) = s.started g b { x with entry := some i } := by
  rw [useEntry, started_slot_zero, writeSlot_started]

theorem waitFor_started (s : State) (g : Staging) (b : Body) (x : Slot) (w : Waiting) :
    waitFor 0 w (s.started g b x) = s.started g b { x with phase := .plan, frame := none, waiting := some w } := by
  rw [waitFor, started_slot_zero, writeSlot_started]

theorem forgetEntry_planning (s : State) (g : Staging) (tag : Tag) (b : Body) (v : VarNum) :
    forgetEntry 0 v (s.planning g tag b) = s.planning g tag b :=
  forgetEntry_of_none (by rw [State.planning, started_slot_zero]; rfl)

section
variable {s : State} {i : Instr} {tag : Tag} {g : Staging} {b : Body} {v : VarNum}

/-- At a ready node an ordinary command plans in slot 0 (R97, R101, R116). -/
theorem exec_of_ready (staged : Staged s i tag g b) (h : s.ready) (credits : b.credits ≤ s.completion.free)
    (plain : b.code ≠ .join ∧ b.code ≠ .leave) :
    exec i s = .next (settleFor 62 (planSlot 0 (s.planning g tag b))) := by
  refine exec_of_open staged (slotZeroOpen_of_ready h) credits plain ?_
  obtain ⟨⟨_, _, idle, _⟩, _⟩ := h
  rw [busyCommands_of_idle idle]
  exact eligible_alone _

theorem planSlot_planning_home (var : b.var? = some v) (plain : b.code ≠ .unhold ∧ b.code ≠ .release)
    (free : s.boundVar ≠ some v) (home : homeOf v = s.nodeId) :
    planSlot 0 (s.planning g tag b) = planHome 0 ⟨tag, s.port.nextSeq, b⟩ v (s.planning g tag b) :=
  (planSlot_of_var (planning_command s g tag b) var plain.1).trans
    (planVar_of_home (s := s.planning g tag b) free home plain.2)

theorem planSlot_planning_copy (var : b.var? = some v) (needs : b.code.needsEntry) (free : s.boundVar ≠ some v)
    (foreign : homeOf v ≠ s.nodeId) :
    planSlot 0 (s.planning g tag b) = planCopy 0 ⟨tag, s.port.nextSeq, b⟩ v (s.planning g tag b) := by
  have plain : b.code ≠ .unhold := fun unhold => by rw [unhold] at needs; obtain h | h | h | h := needs <;> cases h
  rw [planSlot_of_var (planning_command s g tag b) var plain,
    planVar_of_copy (s := s.planning g tag b) free foreign needs, forgetEntry_planning]

theorem planSlot_planning_bound (var : b.var? = some v) (plain : b.code ≠ .unhold) (bound : s.boundVar = some v) :
    planSlot 0 (s.planning g tag b) = s.started g b (s.waitSlot tag b .binding) := by
  rw [planSlot_of_var (planning_command s g tag b) var plain,
    planVar_of_bound (s := s.planning g tag b) bound, forgetEntry_planning, State.planning, waitFor_started]
  rfl

theorem plain_of_needsEntry (needs : b.code.needsEntry) : b.code ≠ .join ∧ b.code ≠ .leave := by
  obtain h | h | h | h := needs <;> rw [h] <;> exact ⟨nofun, nofun⟩

/-! ## On an own variable -/

/-- A command applied at once at the home ends in its event (R20, R132). -/
theorem exec_of_applied (staged : Staged s i tag g b) (h : s.ready) (credits : b.credits ≤ s.completion.free)
    (var : b.var? = some v) (plain : b.code ≠ .unhold ∧ b.code ≠ .release) (free : s.boundVar ≠ some v)
    (home : homeOf v = s.nodeId) (runs : homeTenure b (s.record v).state = none) {r : CmdResult} {unit : HomeUnit}
    {holds : Vector (Option HoldRecord) 4} (applied : applyHome ⟨tag, s.port.nextSeq, b⟩ v (s.planning g tag b) =
      ((s.planning g tag b).withBlocks unit s.copy holds, some r)) :
    exec i s = .next ((s.submitted g (s.completion.free - b.credits + creditsReturned b r.status)
      (s.completion.queue ++ [⟨tag, b.code, b.subject, r.status, 0, r.value, none⟩])).withBlocks unit s.copy holds) := by
  have ordinary : b.code ≠ .join ∧ b.code ≠ .leave := by
    cases b <;> first | (cases var; done) | exact ⟨nofun, nofun⟩
  refine exec_of_completes (exec_of_ready staged h credits ordinary) (slotZeroOpen_of_ready h) (x := s.freshSlot tag b) rfl rfl
    ((planSlot_planning_home var plain free home).trans (planHome_of_applied (s := s.planning g tag b) runs applied)) fun e => ?_
  obtain ⟨⟨_, _, _, unreserved⟩, _⟩ := h
  rw [unreserved e]
  nofun

/-- A command that needs a tenure of its own variable plans its frame (R118). -/
theorem exec_of_recall (staged : Staged s i tag g b) (h : s.ready) (credits : b.credits ≤ s.completion.free)
    (var : b.var? = some v) (plain : b.code ≠ .unhold ∧ b.code ≠ .release) (free : s.boundVar ≠ some v)
    (home : homeOf v = s.nodeId) {kind : Kind} (needs : homeTenure b (s.record v).state = some kind) :
    exec i s = .next (s.started g b (s.sendSlot tag b (varFrame kind v) none)) := by
  have ordinary : b.code ≠ .join ∧ b.code ≠ .leave := by
    cases b <;> first | (cases var; done) | exact ⟨nofun, nofun⟩
  refine exec_of_sends (copy := s.copy) (x := s.sendSlot tag b (varFrame kind v) none)
    (exec_of_ready staged h credits ordinary) (slotZeroOpen_of_ready h) rfl ?_
  rw [planSlot_planning_home var plain free home, planHome_of_tenure (s := s.planning g tag b) needs, State.planning,
    sendFrame_started]
  rfl

end

/-- Settles O5. -/
theorem homeDataLocal : Obligations.HomeDataLocal := by
  intro s tag cvar carg0 carg1 payload v g r ready home unbound
  have ⟨⟨por, _⟩, _, credit⟩ := ready
  have quiet : ∀ b : Body, r.state = .quiet → homeTenure b r.state = none := fun b state => by
    rw [state, homeTenure_quiet]
  refine ⟨fun state => ?_, fun state mask => ?_, fun state same => ?_, fun state differs => ?_⟩
  · refine exec_of_applied (unit := s.home) (holds := s.holds) (staged_load por tag cvar) ready credit rfl ⟨nofun, nofun⟩ unbound home ?_
      (applyHome_of_load (s := s.planning _ tag _) rfl)
    show homeTenure _ r.state = none
    obtain state | state := state <;> rw [state] <;> rfl
  · exact exec_of_applied (holds := s.holds)
      (unit := (writeRecord v { r with value := mergeMasked (operandByte carg0) payload r.value } s).home) (staged_store por tag cvar carg0 payload mask) ready credit rfl ⟨nofun, nofun⟩ unbound
      home (quiet _ state) (applyHome_of_store (s := s.planning _ tag _) rfl)
  · exact exec_of_applied (holds := s.holds)
      (unit := (writeRecord v { r with value := payload } s).home) (staged_swap por tag cvar carg0 carg1 payload) ready credit rfl ⟨nofun, nofun⟩ unbound
      home (quiet _ state) (applyHome_of_match (s := s.planning _ tag _) rfl (word0_eq_iff.mpr same))
  · exact exec_of_applied (unit := s.home) (holds := s.holds) (staged_swap por tag cvar carg0 carg1 payload) ready credit rfl ⟨nofun, nofun⟩
      unbound home (quiet _ state)
      (applyHome_of_mismatch (s := s.planning _ tag _) rfl (mt word0_eq_iff.mp differs))

/-- Settles O6. -/
theorem homeRecallPlans : Obligations.HomeRecallPlans := by
  intro s tag cvar carg0 carg1 payload kind v g ready home unbound
  have ⟨⟨por, _⟩, _, credit⟩ := ready
  refine ⟨fun lent => ?_, fun state => ?_⟩
  · obtain ⟨n, state⟩ := isLent_iff.mp lent
    exact exec_of_recall (staged_load por tag cvar) ready credit rfl ⟨nofun, nofun⟩ unbound home (by rw [state]; rfl)
  · have needs : ∀ b : Body, b.code = .store ∨ b.code = .swap ∨ b.code = .hold → homeTenure b (s.record v).state = some kind :=
      fun b writes => by
        obtain ⟨shared, lent'⟩ := homeTenure_of_writer writes
        obtain ⟨state, rfl⟩ | ⟨lent, rfl⟩ := state
        · rw [state, shared]
        · obtain ⟨n, state⟩ := isLent_iff.mp lent
          rw [state, lent']
    exact ⟨fun mask => exec_of_recall (staged_store por tag cvar carg0 payload mask) ready credit rfl ⟨nofun, nofun⟩ unbound
        home (needs _ (.inl rfl)),
      exec_of_recall (staged_swap por tag cvar carg0 carg1 payload) ready credit rfl ⟨nofun, nofun⟩ unbound home
        (needs _ (.inr (.inl rfl))),
      fun duration credits => exec_of_recall (staged_hold por tag cvar carg0 duration) ready credits rfl ⟨nofun, nofun⟩
        unbound home (needs _ (.inr (.inr rfl)))⟩

/-- A HOLD that enters no hold frees its second credit (R107). -/
theorem credits_of_refused_hold {n : Nat} (h : 2 ≤ n) : n - 2 + 1 = n - 1 := by omega

/-- Settles O7. -/
theorem homeHoldLocal : Obligations.HomeHoldLocal := by
  intro s tag cvar carg0 v d g done ready credits home unbound state duration
  have ⟨⟨por, _⟩, _, _⟩ := ready
  have runs : homeTenure (.hold v d) (s.record v).state = none := by rw [state, homeTenure_quiet]
  have entry := applyHome_of_hold (c := ⟨tag, s.port.nextSeq, .hold v d⟩) rfl v (s.planning g tag (.hold v d))
  have applied := fun unit holds r => exec_of_applied (unit := unit) (holds := holds) (r := r)
    (staged_hold por tag cvar carg0 duration) ready credits rfl ⟨nofun, nofun⟩ unbound home runs
  have refused : ∀ st : Status, creditsReturned (.hold v d) st = 1 →
      exec (.hold tag cvar carg0) s = .next ((s.submitted g (s.completion.free - 2 + creditsReturned (.hold v d) st)
        (s.completion.queue ++ [done st])).withBlocks s.home s.copy s.holds) →
      exec (.hold tag cvar carg0) s = .next (s.finished g (done st)) := fun st returned run => by
    rw [returned, credits_of_refused_hold credits] at run
    exact run
  refine ⟨fun held => ?_, fun free full => ?_, fun r free slot => ?_⟩
  · exact refused .held rfl (applied s.home s.holds ⟨.held, none⟩
      (entry.trans (by rw [enterHold_of_held (s := s.planning g tag (.hold v d)) held]; rfl)))
  · exact refused .holdFull rfl (applied s.home s.holds ⟨.holdFull, none⟩
      (entry.trans (by rw [enterHold_of_full (s := s.planning g tag (.hold v d)) free full]; rfl)))
  · exact applied s.home _ ⟨.ok, none⟩
      (entry.trans (by rw [enterHold_of_free (s := s.planning g tag (.hold v d)) free slot]; rfl))

/-- Settles O8. -/
theorem guardPlans : Obligations.GuardPlans := by
  intro s tag cvar carg0 level v g send ready home unbound named
  have ⟨⟨por, _⟩, _, credit⟩ := ready
  have staged := staged_guard por tag cvar carg0 home named
  refine ⟨fun local' => ?_, fun state level' => ?_, fun lent level' => ?_⟩
  · have runs : homeTenure (.guard v level) (s.record v).state = none := by
      obtain state | rfl | ⟨state, rfl⟩ := local'
      · rw [state, homeTenure_quiet]
      · cases (s.record v).state <;> rfl
      · rw [state]
        rfl
    exact exec_of_applied (holds := s.holds)
      (unit := (writeRecord v { s.record v with guard := level } s).home) staged ready credit rfl ⟨nofun, nofun⟩ unbound home runs
      (applyHome_of_guard (c := ⟨tag, s.port.nextSeq, .guard v level⟩) rfl v (s.planning _ tag _))
  · exact exec_of_recall staged ready credit rfl ⟨nofun, nofun⟩ unbound home (by rw [state, level']; rfl)
  · obtain ⟨n, state⟩ := isLent_iff.mp lent
    refine exec_of_recall staged ready credit rfl ⟨nofun, nofun⟩ unbound home ?_
    rw [state]
    cases level <;> first | rfl | exact absurd rfl level'

/-! ## On a variable homed elsewhere -/

/-- Promotion reads and writes the copy table alone (R27). -/
theorem promote_eq {s t : State} (h : t.copy = s.copy) (i : EntryIx) : promote i t = t.setCopy (promote i s).copy := by
  rw [promote, promote, h, State.setCopy_copy]

/-- An entry written and promoted, as the blocks it leaves. -/
theorem promote_written {s u : State} (copy : u.copy = s.copy) (home : u.home = s.home) (e : EntryIx) (x : CopyEntry)
    (holds : Vector (Option HoldRecord) 4) : promote e (writeEntry e x (u.setHolds holds)) =
      u.withBlocks s.home (promote e (writeEntry e x s)).copy holds := by
  have written : (writeEntry e x (u.setHolds holds)).copy = (writeEntry e x s).copy := by
    rw [writeEntry, writeEntry, State.setCopy_copy, State.setCopy_copy, State.setHolds_copy, copy]
  rw [promote_eq written e, ← home]
  rfl

theorem promote_reservedBy (i e : EntryIx) (s : State) : (promote i s).copy.entries[e].reservedBy = s.copy.entries[e].reservedBy := by
  rw [promote_entry]

theorem not_reservedByOther {e : CopyEntry} (h : e.reservedBy = none) (k : SlotIx) : reservedByOther e k = false := by
  rw [reservedByOther, h]
  rfl

section
variable {s : State} {i : Instr} {tag : Tag} {g : Staging} {b : Body} {v : VarNum}

/-- A local hit ends in its event, the entry promoted (R39). -/
theorem exec_of_hit (staged : Staged s i tag g b) (h : s.ready) (credits : b.credits ≤ s.completion.free)
    (var : b.var? = some v) (needs : b.code.needsEntry) (free : s.boundVar ≠ some v) (foreign : homeOf v ≠ s.nodeId)
    {e : EntryIx} (entry : s.entryOf v = some e)
    (hit : (s.copy.entries[e].state = .owned ∨ s.copy.entries[e].state = .dirty) ∨
      (s.copy.entries[e].state = .copy ∧ b.code = .load)) {r : CmdResult} {x : CopyEntry}
    {holds : Vector (Option HoldRecord) 4} (reserved : x.reservedBy = s.copy.entries[e].reservedBy)
    (applied : ∀ u : State, u.copy = s.copy → u.holds = s.holds → applyCopy ⟨tag, s.port.nextSeq, b⟩ v e u =
      (promote e (writeEntry e x (u.setHolds holds)), some r)) :
    exec i s = .next (promote e (writeEntry e x ((s.submitted g (s.completion.free - b.credits + creditsReturned b r.status)
      (s.completion.queue ++ [⟨tag, b.code, b.subject, r.status, 0, r.value, none⟩])).setHolds holds))) := by
  have promoted := promote_written (s := s) (u := s.started g b { s.freshSlot tag b with entry := some e }) rfl rfl e x holds
  obtain ⟨⟨_, _, _, unreserved⟩, _⟩ := id h
  have plan := planCopy_of_hit (s := s.planning g tag b) (k := 0) (c := ⟨tag, s.port.nextSeq, b⟩) entry
    (not_reservedByOther (unreserved e) 0) hit (by
      rw [State.planning, useEntry_started]
      exact applied _ rfl rfl)
  rw [promote_written (s := s) (u := s.submitted g _ _) rfl rfl e x holds]
  have plan' := (planSlot_planning_copy (g := g) (tag := tag) var needs free foreign).trans (plan.trans (congrArg (complete 0 r none) promoted))
  refine exec_of_completes 
    (exec_of_ready staged h credits (plain_of_needsEntry needs)) (slotZeroOpen_of_ready h)
    (x := { s.freshSlot tag b with entry := some e }) rfl rfl plan' fun j => ?_
  rw [promote_reservedBy, writeEntry_entry]
  split
  · rw [reserved, unreserved e]
    nofun
  · rw [unreserved j]
    nofun

end

/-- Settles O11. -/
theorem copyHits : Obligations.CopyHits := by
  intro s tag cvar carg0 carg1 payload i v g e ready foreign unbound entry
  have ⟨⟨por, _⟩, _, credit⟩ := ready
  have same : ∀ u : State, u.copy = s.copy → u.copy.entries[i] = e := fun u copy => by rw [copy]
  have unwritten : ∀ u : State, u.copy = s.copy → u.holds = s.holds → promote i u = promote i (writeEntry i e (u.setHolds s.holds)) :=
    fun u copy holds => by rw [writeEntry_self (s := u.setHolds s.holds) (same u copy), ← holds]; rfl
  refine ⟨fun state => ?_, fun state mask => ?_, fun state equal => ?_, fun state differs => ?_⟩
  · have hit : (e.state = .owned ∨ e.state = .dirty) ∨ (e.state = .copy ∧ Code.load = .load) := by
      cases h : e.state with
      | none => exact absurd h state
      | copy => exact .inr ⟨rfl, rfl⟩
      | owned => exact .inl (.inl rfl)
      | dirty => exact .inl (.inr rfl)
    rw [unwritten (s.finished _ _) rfl rfl]
    refine exec_of_hit (r := ⟨.ok, some e.value⟩) (staged_load por tag cvar) ready credit rfl (.inl rfl) unbound foreign entry hit rfl
      fun u copy holds => ?_
    rw [applyCopy_of_load rfl, same u copy, ← unwritten u copy holds]
  · refine exec_of_hit (r := ⟨.ok, none⟩) (holds := s.holds) (staged_store por tag cvar carg0 payload mask) ready credit rfl
      (.inr (.inl rfl)) unbound foreign entry (.inl state) rfl fun u copy holds => ?_
    rw [applyCopy_of_store rfl, same u copy, ← holds]
    rfl
  · refine exec_of_hit (r := ⟨.ok, none⟩) (holds := s.holds) (staged_swap por tag cvar carg0 carg1 payload) ready credit rfl
      (.inr (.inr (.inl rfl))) unbound foreign entry (.inl state) rfl fun u copy holds => ?_
    rw [applyCopy_of_match rfl (by rw [same u copy]; exact word0_eq_iff.mpr equal), same u copy, ← holds]
    rfl
  · rw [unwritten (s.finished _ _) rfl rfl]
    refine exec_of_hit (r := ⟨.mismatch, some e.value⟩) (staged_swap por tag cvar carg0 carg1 payload) ready credit rfl
      (.inr (.inr (.inl rfl))) unbound foreign entry (.inl state) rfl fun u copy holds => ?_
    rw [applyCopy_of_mismatch rfl (by rw [same u copy]; exact mt word0_eq_iff.mp differs), same u copy,
      ← unwritten u copy holds]

/-- Settles O12. -/
theorem copyHoldHit : Obligations.CopyHoldHit := by
  intro s tag cvar carg0 i v d g done ready credits foreign unbound entry state duration
  have ⟨⟨por, _⟩, _, _⟩ := ready
  have same : ∀ (u : State) holds, u.copy = s.copy →
      promote i (u.setHolds holds) = promote i (writeEntry i s.copy.entries[i] (u.setHolds holds)) :=
    fun u holds copy => by rw [writeEntry_self (s := u.setHolds holds) (by show u.copy.entries[i] = _; rw [copy])]
  have hits := fun holds r => exec_of_hit (x := s.copy.entries[i]) (holds := holds) (r := r)
    (staged_hold por tag cvar carg0 duration) ready credits rfl (.inr (.inr (.inr rfl))) unbound foreign entry (.inl state) rfl
  have refused : ∀ st : Status, creditsReturned (.hold v d) st = 1 →
      (∀ u : State, u.holds = s.holds → enterHold v tag d u = (u, ⟨st, none⟩)) →
      exec (.hold tag cvar carg0) s = .next (promote i (s.finished g (done st))) := fun st returned enters => by
    have run := hits s.holds ⟨st, none⟩ fun u copy holds => by
      rw [applyCopy_of_hold rfl, enters u holds, ← same u s.holds copy, ← holds]
      rfl
    rw [← same (s.submitted g _ _) s.holds rfl] at run
    have credits' : s.completion.free - (Body.hold v d).credits + creditsReturned (.hold v d) st = s.completion.free - 1 := by
      rw [returned]
      exact credits_of_refused_hold credits
    rw [credits'] at run
    exact run
  refine ⟨fun held => refused .held rfl fun u holds => ?_, fun free full => refused .holdFull rfl fun u holds => ?_, fun r free slot => ?_⟩
  · exact enterHold_of_held (by rw [held_congr holds]; exact held) tag d
  · exact enterHold_of_full (by rw [held_congr holds]; exact free) (by rw [freeHold_congr holds]; exact full) tag d
  · have run := hits (s.holds.set r (some ⟨v, tag, d.toNat, 0⟩)) ⟨.ok, none⟩ fun u copy holds => by
      rw [applyCopy_of_hold rfl, enterHold_of_free (by rw [held_congr holds]; exact free)
        (by rw [freeHold_congr holds]; exact slot), ← same u _ copy, ← holds]
    rw [← same (s.submitted g _ _) _ rfl] at run
    exact run

end Sys2Proof.Machine

/-!
PROOF. RELEASE, the fetches and claims, the waits on a binding or a reservation, NOTICE and JOIN (R106, R112, R117, R119 to
R121, R134, R135).
-/

namespace Sys2Proof.Machine

/-! ## RELEASE -/

/-- The plan of a started RELEASE of a variable that is not bound (R106). -/
theorem planSlot_planning_release {s : State} {g : Staging} {tag : Tag} {v : VarNum} (free : s.boundVar ≠ some v) :
    planSlot 0 (s.planning g tag (.release v)) = planRelease 0 v (s.planning g tag (.release v)) := by
  rw [planSlot_of_var (planning_command s g tag (.release v)) rfl nofun,
    planVar_of_release (s := s.planning g tag (.release v)) free rfl, forgetEntry_planning]

theorem writeEntry_withBlocks {s u : State} (home : u.home = s.home) (copy : u.copy = s.copy) (holds : u.holds = s.holds)
    (e : EntryIx) (x : CopyEntry) : writeEntry e x u = u.withBlocks s.home (writeEntry e x s).copy s.holds := by
  rw [writeEntry, writeEntry, copy, ← home, ← holds]
  rfl

/-- An entry given back is offered by a frame of slot 0 (R119). -/
theorem exec_of_entry_sends {s : State} {i : Instr} {tag : Tag} {g : Staging} {b : Body} {f : Frame} {e : EntryIx}
    (run : exec i s = .next (settleFor 62 (planSlot 0 (s.planning g tag b)))) (h : s.slotZeroOpen)
    (plan : planSlot 0 (s.planning g tag b) = sendFrame 0 f (useEntry 0 e (s.planning g tag b))) :
    exec i s = .next (s.started g b (s.sendSlot tag b f (some e))) := by
  rw [State.planning, useEntry_started, sendFrame_started] at plan
  exact exec_of_sends (copy := s.copy) (x := s.sendSlot tag b f (some e)) run h rfl plan

/-- Settles O9. -/
theorem releasePlans : Obligations.ReleasePlans := by
  intro s tag cvar v g done ready unbound
  have ⟨⟨por, _, _, unreserved⟩, _, credit⟩ := ready
  have open' := slotZeroOpen_of_ready ready
  have run := exec_of_ready (staged_release por tag cvar) ready credit ⟨nofun, nofun⟩
  have release := planSlot_planning_release (g := g) (tag := tag) unbound
  have ends : ∀ st : Status, planRelease 0 v (s.planning g tag (.release v)) =
      complete 0 ⟨st, none⟩ none (s.planning g tag (.release v)) →
      exec (.release tag cvar) s = .next (s.finished g (done st)) := fun st plan =>
    exec_of_completes (home := s.home) (copy := s.copy) (holds := s.holds) run open' (x := s.freshSlot tag (.release v)) rfl
      rfl (release.trans plan) fun e => by rw [unreserved e]; nofun
  refine ⟨fun held => ends _ (planRelease_of_held (s := s.planning g tag (.release v)) held),
    fun free home => ends _ (planRelease_of_home (s := s.planning g tag (.release v)) free home),
    fun free foreign entry => ends _ (planRelease_of_no_entry (s := s.planning g tag (.release v)) free foreign entry),
    fun i free foreign entry => ?_⟩
  have mine := not_reservedByOther (unreserved i) 0
  refine ⟨fun state => ?_, fun state => ?_, fun state => ?_⟩
  · have plan := planRelease_of_copy (s := s.planning g tag (.release v)) free foreign entry mine state
    rw [vacate_of_unreserved (s := s.planning g tag (.release v)) (unreserved i)] at plan
    have same : (s.planning g tag (.release v)).copy = s.copy := rfl
    rw [same] at plan
    have dropped := writeEntry_withBlocks (u := s.planning g tag (.release v)) (s := s) rfl rfl rfl i
      { s.copy.entries[i] with state := .none, tag := none }
    have result := writeEntry_withBlocks (u := s.finished g (done .ok)) (s := s) rfl rfl rfl i
      { s.copy.entries[i] with state := .none, tag := none }
    rw [result]
    rw [dropped] at plan
    have plan' := release.trans plan
    have ended := exec_of_completes run open' (x := s.freshSlot tag (.release v)) rfl rfl plan' fun e => by
      rw [writeEntry_entry]
      split
      · rw [unreserved i]
        nofun
      · rw [unreserved e]
        nofun
    exact ended
  · refine exec_of_entry_sends run open' (release.trans
      ((planRelease_of_exclusive (s := s.planning g tag (.release v)) free foreign entry mine (.inl state)).trans ?_))
    show sendFrame 0 (varFrame (giveBackKind s.copy.entries[i]) v) _ = _
    rw [giveBackKind, state]
    rfl
  · refine exec_of_entry_sends run open' (release.trans
      ((planRelease_of_exclusive (s := s.planning g tag (.release v)) free foreign entry mine (.inr state)).trans ?_))
    show sendFrame 0 (varFrame (giveBackKind s.copy.entries[i]) v) _ = _
    rw [giveBackKind, state]
    rfl

/-! ## Fetch, claim and wait -/

section
variable {s : State} {i : Instr} {tag : Tag} {g : Staging} {b : Body} {v : VarNum}

/-- A lower NONE entry taken in fetch form, and its frame (R26, R41, R119). -/
theorem exec_of_fetch (staged : Staged s i tag g b) (h : s.ready) (credits : b.credits ≤ s.completion.free)
    (var : b.var? = some v) (needs : b.code.needsEntry) (free : s.boundVar ≠ some v) (foreign : homeOf v ≠ s.nodeId)
    (entry : s.entryOf v = none) {e : EntryIx} (lowest : s.freeEntry = some e) {kind : Kind} (fetch : fetchKind b = kind) :
    exec i s = .next (writeEntry e { s.copy.entries[e] with tag := some v, reservedBy := some 0 }
      (s.started g b (s.sendSlot tag b ⟨kind, v.setWidth 16, []⟩ (some e)))) := by
  have reserve : reserveFetch 0 e v (s.planning g tag b) =
      writeEntry e { s.copy.entries[e] with tag := some v, reservedBy := some 0 }
        (s.started g b { s.freshSlot tag b with entry := some e, victim := none }) := by
    rw [reserveFetch, State.planning, started_slot_zero]
    exact congrArg (writeEntry e { s.copy.entries[e] with tag := some v, reservedBy := some 0 })
      (writeSlot_started s g b (s.freshSlot tag b) { s.freshSlot tag b with entry := some e, victim := none })
  have sent : sendFrame 0 (varFrame kind v) (writeEntry e { s.copy.entries[e] with tag := some v, reservedBy := some 0 }
        (s.started g b { s.freshSlot tag b with entry := some e, victim := none })) =
      writeEntry e { s.copy.entries[e] with tag := some v, reservedBy := some 0 }
        (s.started g b (s.sendSlot tag b (varFrame kind v) (some e))) := by
    have frame := sendFrame_started s g b { s.freshSlot tag b with entry := some e, victim := none } (varFrame kind v)
    exact congrArg (writeEntry e { s.copy.entries[e] with tag := some v, reservedBy := some 0 }) frame
  have missed : (s.planning g tag b).tracker.slots[(0 : SlotIx)].victim = none := by
    rw [State.planning, started_slot_zero]
    rfl
  refine exec_of_sends (copy := (writeEntry e { s.copy.entries[e] with tag := some v, reservedBy := some 0 } s).copy)
    (x := s.sendSlot tag b (varFrame kind v) (some e)) (exec_of_ready staged h credits (plain_of_needsEntry needs))
    (slotZeroOpen_of_ready h) rfl ?_
  rw [planSlot_planning_copy var needs free foreign, planCopy_of_miss (s := s.planning g tag b) entry missed,
    allocate_of_free (s := s.planning g tag b) lowest]
  show sendFrame 0 (varFrame (fetchKind b) v) _ = _
  rw [fetch, reserve, sent]
  rfl

/-- A COPY is claimed (R119). -/
theorem exec_of_claim (staged : Staged s i tag g b) (h : s.ready) (credits : b.credits ≤ s.completion.free)
    (var : b.var? = some v) (needs : b.code.needsEntry) (writes : b.code ≠ .load) (free : s.boundVar ≠ some v)
    (foreign : homeOf v ≠ s.nodeId) {e : EntryIx} (entry : s.entryOf v = some e) (state : s.copy.entries[e].state = .copy) :
    exec i s = .next (s.started g b (s.sendSlot tag b ⟨.claim, v.setWidth 16, []⟩ (some e))) := by
  have ⟨⟨_, _, _, unreserved⟩, _⟩ := h
  exact exec_of_entry_sends (exec_of_ready staged h credits (plain_of_needsEntry needs)) (slotZeroOpen_of_ready h)
    ((planSlot_planning_copy var needs free foreign).trans
      (planCopy_of_copy (s := s.planning g tag b) entry (not_reservedByOther (unreserved e) 0) state writes))

theorem waitSlot_slotVar (s : State) (g : Staging) (tag : Tag) (b : Body) (w : Waiting) :
    (s.started g b (s.waitSlot tag b w)).slotVar 0 = b.var? :=
  slotVar_of_some (c := ⟨tag, s.port.nextSeq, b⟩) (by rw [started_slot_zero]; rfl)

/-- A plan that waits for a binding's end (R117). -/
theorem exec_of_bound (staged : Staged s i tag g b) (h : s.slotZeroOpen) (credits : b.credits ≤ s.completion.free)
    (var : b.var? = some v) (plain : b.code ≠ .unhold) (alone : ∀ j : SlotIx, s.slotVar j ≠ some v)
    (bound : s.boundVar = some v) : exec i s = .next (s.started g b (s.waitSlot tag b .binding)) := by
  have ordinary : b.code ≠ .join ∧ b.code ≠ .leave := by
    cases b <;> first | (cases var; done) | exact ⟨nofun, nofun⟩
  refine exec_of_waits (copy := s.copy) (x := s.waitSlot tag b .binding)
    (exec_of_open staged h credits ordinary (eligible_of_open h var alone)) h ?_ (planSlot_planning_bound var plain bound)
  show (s.started g b (s.waitSlot tag b .binding)).due 0 = false
  have waits : waitEnded (s.started g b (s.waitSlot tag b .binding)) 0 .binding = false := by
    rw [waitEnded, waitSlot_slotVar, var]
    show (s.boundVar != some v && _) = false
    rw [bound, bne_self_eq_false, Bool.false_and]
  rw [State.due, started_slot_zero]
  exact waits

/-- A plan that waits for another slot's reservation to end (R119). -/
theorem exec_of_reserved (staged : Staged s i tag g b) (h : s.slotZeroOpen) (credits : b.credits ≤ s.completion.free)
    (var : b.var? = some v) (alone : ∀ j : SlotIx, s.slotVar j ≠ some v)
    {e : EntryIx} (entry : s.entryOf v = some e) (reserved : s.copy.entries[e].reservedBy ≠ none)
    (plan : reservedByOther s.copy.entries[e] 0 = true →
      planSlot 0 (s.planning g tag b) = waitFor 0 .reservation (s.planning g tag b)) :
    exec i s = .next (s.started g b (s.waitSlot tag b .reservation)) := by
  have ordinary : b.code ≠ .join ∧ b.code ≠ .leave := by
    cases b <;> first | (cases var; done) | exact ⟨nofun, nofun⟩
  have ⟨_, _, _, _, _, _, foreign⟩ := h
  have other : reservedByOther s.copy.entries[e] 0 = true := by
    rw [reservedByOther, Option.isSome_iff_ne_none.mpr reserved, Bool.true_and]
    exact bne_iff_ne.mpr (foreign e)
  refine exec_of_waits (copy := s.copy) (x := s.waitSlot tag b .reservation)
    (exec_of_open staged h credits ordinary (eligible_of_open h var alone)) h ?_ ((plan other).trans ?_)
  · show (s.started g b (s.waitSlot tag b .reservation)).due 0 = false
    have waits : waitEnded (s.started g b (s.waitSlot tag b .reservation)) 0 .reservation = false := by
      have entry' : (s.started g b (s.waitSlot tag b .reservation)).entryOf v = some e := entry
      rw [waitEnded, waitSlot_slotVar, var, Option.bind_some, entry']
      show (!reservedByOther s.copy.entries[e] 0) = false
      rw [other]
      rfl
    rw [State.due, started_slot_zero]
    exact waits
  · rw [State.planning, waitFor_started]
    rfl

/-- LOAD, STORE, SWAP and HOLD on an entry that another slot has reserved (R119). -/
theorem exec_of_entry_reserved (staged : Staged s i tag g b) (h : s.slotZeroOpen) (credits : b.credits ≤ s.completion.free)
    (var : b.var? = some v) (needs : b.code.needsEntry) (alone : ∀ j : SlotIx, s.slotVar j ≠ some v)
    (free : s.boundVar ≠ some v) (foreign : homeOf v ≠ s.nodeId)
    {e : EntryIx} (entry : s.entryOf v = some e) (reserved : s.copy.entries[e].reservedBy ≠ none) :
    exec i s = .next (s.started g b (s.waitSlot tag b .reservation)) :=
  exec_of_reserved staged h credits var alone entry reserved fun other =>
    (planSlot_planning_copy var needs free foreign).trans
      (planCopy_of_reserved (s := s.planning g tag b) entry other)

end

/-- Settles O13. -/
theorem copyFetchPlans : Obligations.CopyFetchPlans := by
  refine ⟨?_, ?_⟩
  · intro s tag cvar carg0 carg1 payload i v g e fetch claim gStore gSwap gHold bStore bSwap bHold ready foreign unbound
    have ⟨⟨por, _⟩, _, credit⟩ := ready
    refine ⟨fun entry free => ⟨?_, fun mask => ?_, ?_, fun duration credits => ?_⟩,
      fun entry state => ⟨fun mask => ?_, ?_, fun duration credits => ?_⟩⟩
    · exact exec_of_fetch (staged_load por tag cvar) ready credit rfl (.inl rfl) unbound foreign entry free rfl
    · exact exec_of_fetch (staged_store por tag cvar carg0 payload mask) ready credit rfl (.inr (.inl rfl)) unbound foreign entry
        free rfl
    · exact exec_of_fetch (staged_swap por tag cvar carg0 carg1 payload) ready credit rfl (.inr (.inr (.inl rfl))) unbound
        foreign entry free rfl
    · exact exec_of_fetch (staged_hold por tag cvar carg0 duration) ready credits rfl (.inr (.inr (.inr rfl))) unbound foreign
        entry free rfl
    · exact exec_of_claim (staged_store por tag cvar carg0 payload mask) ready credit rfl (.inr (.inl rfl)) nofun unbound
        foreign entry state
    · exact exec_of_claim (staged_swap por tag cvar carg0 carg1 payload) ready credit rfl (.inr (.inr (.inl rfl))) nofun
        unbound foreign entry state
    · exact exec_of_claim (staged_hold por tag cvar carg0 duration) ready credits rfl (.inr (.inr (.inr rfl))) nofun unbound
        foreign entry state
  · intro s tag cvar carg0 carg1 payload v g waits valuesWait releaseWaits open' alone
    have ⟨por, _, credit, _⟩ := open'
    refine ⟨fun bound => ⟨⟨?_, fun mask => ?_, ?_, fun duration credits => ?_⟩, ?_, fun level home named => ?_⟩,
      fun i unbound foreign entry reserved => ⟨⟨?_, fun mask => ?_, ?_, fun duration credits => ?_⟩, fun free => ?_⟩⟩
    · exact exec_of_bound (staged_load por tag cvar) open' credit rfl nofun alone bound
    · exact exec_of_bound (staged_store por tag cvar carg0 payload mask) open' credit rfl nofun alone bound
    · exact exec_of_bound (staged_swap por tag cvar carg0 carg1 payload) open' credit rfl nofun alone bound
    · exact exec_of_bound (staged_hold por tag cvar carg0 duration) open' credits rfl nofun alone bound
    · exact exec_of_bound (staged_release por tag cvar) open' credit rfl nofun alone bound
    · exact exec_of_bound (staged_guard por tag cvar carg0 home named) open' credit rfl nofun alone bound
    · exact exec_of_entry_reserved (staged_load por tag cvar) open' credit rfl (.inl rfl) alone unbound foreign entry reserved
    · exact exec_of_entry_reserved (staged_store por tag cvar carg0 payload mask) open' credit rfl (.inr (.inl rfl)) alone
        unbound foreign entry reserved
    · exact exec_of_entry_reserved (staged_swap por tag cvar carg0 carg1 payload) open' credit rfl (.inr (.inr (.inl rfl)))
        alone unbound foreign entry reserved
    · exact exec_of_entry_reserved (staged_hold por tag cvar carg0 duration) open' credits rfl (.inr (.inr (.inr rfl))) alone
        unbound foreign entry reserved
    · exact exec_of_reserved (staged_release por tag cvar) open' credit rfl alone entry reserved fun other =>
        (planSlot_planning_release unbound).trans
          (planRelease_of_reserved (s := s.planning _ tag (.release v)) free foreign entry other)

/-! ## NOTICE and JOIN -/

/-- Settles O15. -/
theorem noticePlans : Obligations.NoticePlans := by
  intro s tag carg0 carg1 payload len words ready mask other low high
  have ⟨⟨por, _⟩, _, credit⟩ := ready
  refine exec_of_sends (copy := s.copy) (x := s.sendSlot tag (.notice carg0 words) ⟨.notice, carg0, words⟩ none)
    (exec_of_ready (staged_notice por tag carg0 carg1 payload mask other low high) ready credit ⟨nofun, nofun⟩)
    (slotZeroOpen_of_ready ready) rfl ?_
  rw [planSlot_of_notice (planning_command s _ tag _) rfl, State.planning, sendFrame_started]
  rfl

/-- Settles O16. -/
theorem joinPlans : Obligations.JoinPlans := by
  intro s tag resting offline credit
  obtain ⟨por, queue, idle, _⟩ := resting
  let g : Staging := { s.port.staging with cmd := cmdWord 10 tag }
  have staged := staged_join por tag
  have run := exec_of_staged staged (by rw [offline]; rfl) queue credit (idle 0)
    (fun j => not_due_of_not_plan (by rw [idle j]; nofun)) (by rw [busyCommands_of_idle idle]; exact eligible_alone _)
  have tagged : stagedTag g = tag := staged.2.2
  have start : startSlot 0 ⟨tag, s.port.nextSeq, .join⟩ [] (enqueue .join (s.setPort { s.port with staging := g })) =
      ((s.planning g tag .join).setParticipation .joining).setLink { s.link with inhibit := false } := rfl
  have sent : sendFrame 0 ⟨.join, 0, []⟩
      (((s.planning g tag .join).setParticipation .joining).setLink { s.link with inhibit := false }) =
      ((s.started g .join (s.sendSlot tag .join ⟨.join, 0, []⟩ none)).setParticipation .joining).setLink
        { s.link with inhibit := false } :=
    congrArg (fun u : State => (u.setParticipation .joining).setLink { s.link with inhibit := false })
      (sendFrame_started s g .join (s.freshSlot tag .join) ⟨.join, 0, []⟩)
  rw [run]
  refine congrArg Host.Outcome.next ?_
  have plan := (planSlot_of_join (s := ((s.planning g tag .join).setParticipation .joining).setLink
    { s.link with inhibit := false }) (planning_command s g tag .join) rfl).trans sent
  refine (congrArg (fun u => settleFor 62 (planSlot 0 u)) start).trans ((congrArg (settleFor 62) plan).trans ?_)
  refine settleFor_of_still rfl (fun j => not_due_of_not_plan ?_) 62
  show (s.started g .join _).tracker.slots[j].phase ≠ .plan
  rw [started_slot, idle j]
  split <;> nofun

end Sys2Proof.Machine

/-!
PROOF. FLUSH, LEAVE and UNHOLD (R108, R148, R187 to R192).
-/

namespace Sys2Proof.Machine

/-! ## Holds and binding as read -/

/-- A variable is not held where no active record names it (R138). -/
theorem not_held_eq (s : State) (w : VarNum) :
    (!s.held w) = (List.finRange 4).all fun r => (s.holds[r]).all fun h => h.var != w := by
  have named : ∀ r, holdNames s w r = !(s.holds[r]).all fun h => h.var != w := fun r => by
    rw [holdNames]
    cases s.holds[r] <;> simp [bne]
  have found : s.held w = (List.finRange 4).any (holdNames s w) := by
    rw [State.held, State.holdOf, Bool.eq_iff_iff, List.find?_isSome, List.any_eq_true]
  rw [found, List.not_any_eq_all_not]
  congr 1
  funext r
  rw [named, Bool.not_not]

theorem anyHold_of_none {s : State} (none : ∀ r : HoldIx, s.holds[r] = none) : s.anyHold = false := by
  rw [State.anyHold, List.any_eq_false]
  intro r _
  rw [none r]
  nofun

theorem anyHold_of_active {s : State} {r : HoldIx} (active : s.holds[r] ≠ none) : s.anyHold = true :=
  List.any_eq_true.mpr ⟨r, List.mem_finRange r, Option.isSome_iff_ne_none.mpr active⟩

theorem entryBound_of_unbound {s : State} (h : s.boundVar = none) (i : EntryIx) : s.entryBound i = false := by
  rw [State.entryBound, h]
  cases s.copy.entries[i].tag <;> rfl

theorem copyBound_of_unbound {s : State} (h : s.boundVar = none) : s.copyBound = false := by
  rw [State.copyBound, List.any_eq_false]
  intro i _
  rw [entryBound_of_unbound h, Bool.and_false]
  exact Bool.false_ne_true

/-! ## The plan of a FLUSH or LEAVE -/

/-- The copy table with every COPY dropped. -/
@[irreducible] def copiesDropped (c : CopyUnit) : CopyUnit := { c with entries := Vector.ofFn fun i : EntryIx =>
  if c.entries[i].state = .copy then { c.entries[i] with state := .none, tag := none } else c.entries[i] }

theorem copiesDropped_eq (c : CopyUnit) : copiesDropped c = { c with entries := (copiesDropped c).entries } := by
  rw [copiesDropped]

theorem copiesDropped_entry (c : CopyUnit) (i : EntryIx) : (copiesDropped c).entries[i] =
    if c.entries[i].state = .copy then { c.entries[i] with state := .none, tag := none } else c.entries[i] := by
  simp only [copiesDropped, Fin.getElem_fin, Vector.getElem_ofFn, Fin.eta]

theorem copiesDropped_reservedBy (c : CopyUnit) (i : EntryIx) :
    (copiesDropped c).entries[i].reservedBy = c.entries[i].reservedBy := by
  rw [copiesDropped_entry]
  split <;> rfl

/-- Nothing changes where no entry is COPY. -/
theorem copiesDropped_of_none {c : CopyUnit} (h : ∀ i : EntryIx, c.entries[i].state ≠ .copy) : copiesDropped c = c := by
  have same : (copiesDropped c).entries = c.entries := Vector.ext fun i lt => by
    have entry := copiesDropped_entry c ⟨i, lt⟩
    rw [if_neg (h ⟨i, lt⟩)] at entry
    exact entry
  rw [copiesDropped_eq, same]

/-- With nothing bound and nothing reserved every COPY is dropped (R187). -/
theorem dropCopies_of_unbound {s : State} (free : s.boundVar = none) (unreserved : ∀ i : EntryIx, s.copy.entries[i].reservedBy = none) :
    dropCopies s = s.setCopy (copiesDropped s.copy) := by
  have same : (dropCopies s).copy.entries = (copiesDropped s.copy).entries := Vector.ext fun i lt => by
    refine (dropCopies_entry ⟨i, lt⟩ s).trans ((if_congr ?_ rfl rfl).trans (copiesDropped_entry s.copy ⟨i, lt⟩).symm)
    exact ⟨fun ⟨copy, _⟩ => copy, fun copy => ⟨copy, unreserved _, entryBound_of_unbound free _⟩⟩
  have eta : dropCopies s = s.setCopy { s.copy with entries := (dropCopies s).copy.entries } := by
    rw [dropCopies, State.setCopy_copy]
  rw [eta, same, ← copiesDropped_eq]

theorem pruneStranded_of_fresh {s : State} {k : SlotIx} (entry : s.tracker.slots[k].entry = none)
    (stranded : s.tracker.slots[k].stranded = []) : pruneStranded k s = s := by
  refine writeSlot_self ?_
  rw [stranded, List.filter_nil]
  generalize s.tracker.slots[k] = x at entry stranded
  cases x
  cases entry
  cases stranded
  rfl

/-- The first plan of a barrier drops the copies (R187). -/
theorem planDrain_of_fresh {s : State} {k : SlotIx} (free : s.boundVar = none)
    (unreserved : ∀ i : EntryIx, s.copy.entries[i].reservedBy = none) (entry : s.tracker.slots[k].entry = none)
    (stranded : s.tracker.slots[k].stranded = []) (b : Body) :
    planDrain k b s = drainStep k b (s.setCopy (copiesDropped s.copy)) := by
  rw [planDrain, dropCopies_of_unbound free unreserved,
    pruneStranded_of_fresh (s := s.setCopy (copiesDropped s.copy)) entry stranded]

section
variable {s : State} {k : SlotIx}

/-- A barrier offers the entry it gives back (R187, R188). -/
theorem drainStep_of_offer {i : EntryIx} {w : VarNum} (free : s.boundVar = none)
    (give : s.giveBackEntry s.tracker.slots[k].stranded = some i) (tag : s.copy.entries[i].tag = some w) (b : Body) :
    drainStep k b s = sendFrame k (varFrame (giveBackKind s.copy.entries[i]) w) (useEntry k i s) := by
  rw [drainStep, copyBound_of_unbound free, give]
  show (if s.entryBound i = true then _ else _) = _
  rw [if_neg (by rw [entryBound_of_unbound free]; exact Bool.false_ne_true), tag]

theorem drainStep_of_holds (free : s.boundVar = none) (give : s.giveBackEntry s.tracker.slots[k].stranded = none)
    (active : s.anyHold = true) (b : Body) : drainStep k b s = waitFor k .holds s := by
  rw [drainStep, copyBound_of_unbound free, give]
  exact if_pos active

theorem drainStep_of_end (free : s.boundVar = none) (give : s.giveBackEntry s.tracker.slots[k].stranded = none)
    (none : s.anyHold = false) (b : Body) : drainStep k b s = barrierEnd k b s := by
  rw [drainStep, copyBound_of_unbound free, give]
  exact if_neg (by rw [none]; exact Bool.false_ne_true)

end

/-- The entries a barrier may offer, the copies dropped or not: OWNED or DIRTY, with a tag that is not held (R187). -/
def offered (s : State) (i : EntryIx) : Bool :=
  s.copy.entries[i].exclusive && (s.copy.entries[i].tag).any fun v => !s.held v

theorem exclusive_copiesDropped (c : CopyUnit) (i : EntryIx) :
    (copiesDropped c).entries[i].exclusive = c.entries[i].exclusive ∧
      (c.entries[i].exclusive = true → (copiesDropped c).entries[i] = c.entries[i]) := by
  rw [copiesDropped_entry]
  split
  · rename_i copy
    have not : c.entries[i].exclusive = false := by rw [CopyEntry.exclusive, copy]; rfl
    exact ⟨not.symm ▸ rfl, fun h => by rw [not] at h; cases h⟩
  · exact ⟨rfl, fun _ => rfl⟩

theorem giveBackEntry_of_fresh (s : State) :
    (s.setCopy (copiesDropped s.copy)).giveBackEntry [] = (List.finRange 32).find? (offered s) := by
  have held : ∀ v, (s.setCopy (copiesDropped s.copy)).held v = s.held v :=
    held_congr (s := s) (t := s.setCopy (copiesDropped s.copy)) (State.setCopy_holds _ _)
  rw [State.giveBackEntry]
  refine congrArg (fun P => (List.finRange 32).find? P) (funext fun i => ?_)
  obtain ⟨same, entry⟩ := exclusive_copiesDropped s.copy i
  rw [State.setCopy_copy, same, offered]
  cases exclusive : s.copy.entries[i].exclusive with
  | false => simp only [Bool.false_and]
  | true =>
    rw [entry exclusive]
    simp only [held, List.contains_nil, Bool.not_false, Bool.and_true]

/-! ## The final step of a LEAVE -/

/-- The blocks that tell what a barrier may offer. -/
theorem offered_congr {s t : State} (copy : t.copy = s.copy) (holds : t.holds = s.holds) : offered t = offered s := by
  funext i
  simp only [offered, copy, held_congr holds]

theorem anyHold_congr {s t : State} (holds : t.holds = s.holds) : t.anyHold = s.anyHold := by
  simp only [State.anyHold, holds]

theorem satAdd_zero (c : BitVec 16) : satAdd c 0 = c := by
  apply BitVec.eq_of_toNat_eq
  have small : c.toNat ≤ 65535 := Nat.le_of_lt_succ c.isLt
  rw [satAdd, BitVec.toNat_ofNat, Nat.add_zero, Nat.min_eq_right small]
  exact Nat.mod_eq_of_lt c.isLt

/-- Discards counted (R32, R192). -/
theorem countDiscards_eq (n : Nat) (s : State) : countDiscards n s = s.setCompletion { s.completion with
    counters := { s.completion.counters with discard := satAdd s.completion.counters.discard n }
    latched := { s.completion.latched with discard := s.completion.latched.discard || n != 0 } } := by
  simp [countDiscards, latch, raiseCounter, Counters.set, Counters.get]
  rfl

theorem countDiscards_zero (s : State) : countDiscards 0 s = s := by
  rw [countDiscards_eq, satAdd_zero]
  simp
  rfl

/-- The copy table a LEAVE's final step leaves (R192). -/
@[irreducible] def finalTable (stranded : List EntryIx) (c : CopyUnit) : CopyUnit := { c with entries := Vector.ofFn fun i : EntryIx =>
  if (stranded.contains i = true ∧ c.entries[i].exclusive = true) ∨ c.entries[i].state = .copy then
    { c.entries[i] with state := .none, tag := none, reservedBy := none }
  else c.entries[i] }

theorem discardStranded_eq (stranded : List EntryIx) (s : State) :
    discardStranded stranded s = s.setCopy (finalTable stranded s.copy) := by
  rw [discardStranded, finalTable]

theorem finalTable_entry (stranded : List EntryIx) (c : CopyUnit) (i : EntryIx) : (finalTable stranded c).entries[i] =
    if (stranded.contains i = true ∧ c.entries[i].exclusive = true) ∨ c.entries[i].state = .copy then
      { c.entries[i] with state := .none, tag := none, reservedBy := none } else c.entries[i] := by
  simp only [finalTable, Fin.getElem_fin, Vector.getElem_ofFn, Fin.eta]

theorem finalTable_of_still {stranded : List EntryIx} {c : CopyUnit}
    (h : ∀ i : EntryIx, c.entries[i].state ≠ .copy ∧ (stranded.contains i = true → c.entries[i].exclusive = false)) :
    finalTable stranded c = c := by
  have same : (finalTable stranded c).entries = c.entries := Vector.ext fun i lt => by
    have entry := finalTable_entry stranded c ⟨i, lt⟩
    obtain ⟨state, kept⟩ := h ⟨i, lt⟩
    refine entry.trans (if_neg ?_)
    rintro (⟨inList, exclusive⟩ | copy)
    · rw [kept inList] at exclusive
      cases exclusive
    · exact state copy
  have eta : finalTable stranded c = { c with entries := (finalTable stranded c).entries } := by rw [finalTable]
  rw [eta, same]

/-- The final step of a LEAVE, where nothing is reserved (R192, R113). -/
theorem leaveFinal_eq {s : State} {k : SlotIx} {c : Command} (command : s.tracker.slots[k].command = some c)
    (leave : c.body = .leave) (unreserved : ∀ i : EntryIx, s.copy.entries[i].reservedBy = none) :
    leaveFinal k s = ((((s.setCopy (finalTable s.tracker.slots[k].stranded s.copy)).setParticipation .offline).setTracker
        { s.tracker with slots := s.tracker.slots.set k Slot.idle }).setPort { s.port with queue := [] }).setCompletion
      { (countDiscards (s.strandedLeft s.tracker.slots[k].stranded).length s).completion with
        queue := s.completion.queue ++ slotRecord c s.tracker.slots[k].tenures ⟨.ok, none⟩ none :: cancelled s.port.queue
        free := s.completion.free + (s.port.queue.map fun c => c.body.credits - 1).sum } := by
  have kept : ∀ i : EntryIx, (finalTable s.tracker.slots[k].stranded s.copy).entries[i].reservedBy ≠ some k := fun i => by
    rw [finalTable_entry]
    split
    · nofun
    · rw [unreserved i]
      nofun
  have counted : countDiscards (s.strandedLeft s.tracker.slots[k].stranded).length
      (s.setCopy (finalTable s.tracker.slots[k].stranded s.copy)) =
      (s.setCopy (finalTable s.tracker.slots[k].stranded s.copy)).setCompletion
        (countDiscards (s.strandedLeft s.tracker.slots[k].stranded).length s).completion := by
    rw [countDiscards_eq, countDiscards_eq]
    rfl
  have same : (countDiscards (s.strandedLeft s.tracker.slots[k].stranded).length s).completion.queue = s.completion.queue ∧
      (countDiscards (s.strandedLeft s.tracker.slots[k].stranded).length s).completion.free = s.completion.free := by
    rw [countDiscards_eq]
    exact ⟨rfl, rfl⟩
  obtain ⟨queue, free⟩ := same
  rw [leaveFinal]
  simp only
  rw [discardStranded_eq, counted]
  generalize (countDiscards (s.strandedLeft s.tracker.slots[k].stranded).length s).completion = counts at queue free
  generalize finalTable s.tracker.slots[k].stranded s.copy = table at kept
  rw [complete_of_unreserved (s := ((s.setCopy table).setCompletion counts).setParticipation .offline) command kept,
    cancelQueue_eq, leave, ← queue, ← free]
  have append : ∀ r : Completion, (counts.queue ++ [r]) ++ cancelled s.port.queue = counts.queue ++ r :: cancelled s.port.queue :=
    fun r => by simp
  rw [← append]
  rfl

end Sys2Proof.Machine

/-!
PROOF. The barriers and UNHOLD as they run (R108, R113, R142, R148, R187 to R192).
-/

namespace Sys2Proof.Machine

/-! ## A first plan -/

theorem offered_eq (s : State) (i : EntryIx) :
    ((s.copy.entries[i].state == .owned || s.copy.entries[i].state == .dirty) &&
      (s.copy.entries[i].tag).any fun w => (List.finRange 4).all fun r => (s.holds[r]).all fun h => h.var != w) = offered s i := by
  simp only [← not_held_eq]
  rfl

/-- A frame formed for the entry a slot's plan uses. -/
theorem sendFrame_useEntry (k : SlotIx) (f : Frame) (i : EntryIx) (s : State) : sendFrame k f (useEntry k i s) =
    writeSlot k { s.tracker.slots[k] with phase := .send, entry := some i, frame := some f, waiting := none } s := by
  have used : (useEntry k i s).tracker.slots[k] = { s.tracker.slots[k] with entry := some i } := by
    rw [useEntry, writeSlot_slot, if_pos rfl]
  rw [sendFrame, used]
  exact congrArg (fun slots => s.setTracker { s.tracker with slots := slots }) (slots_set_set s.tracker.slots k _ _)

section
variable {s : State} {k : SlotIx} (free : s.boundVar = none) (unreserved : ∀ i : EntryIx, s.copy.entries[i].reservedBy = none)
  (entry : s.tracker.slots[k].entry = none) (stranded : s.tracker.slots[k].stranded = [])
include free unreserved entry stranded

theorem planDrain_of_offer {i : EntryIx} {w : VarNum} (offers : (List.finRange 32).find? (offered s) = some i)
    (tag : s.copy.entries[i].tag = some w) (b : Body) : planDrain k b s =
      (writeSlot k { s.tracker.slots[k] with
        phase := .send, entry := some i, frame := some (varFrame (giveBackKind s.copy.entries[i]) w), waiting := none } s).setCopy
        (copiesDropped s.copy) := by
  have chosen := List.find?_some offers
  have exclusive : s.copy.entries[i].exclusive = true := by
    rw [offered, Bool.and_eq_true] at chosen
    exact chosen.1
  have same : (s.setCopy (copiesDropped s.copy)).copy.entries[i] = s.copy.entries[i] :=
    (exclusive_copiesDropped s.copy i).2 exclusive
  have give : (s.setCopy (copiesDropped s.copy)).giveBackEntry
      (s.setCopy (copiesDropped s.copy)).tracker.slots[k].stranded = some i := by
    rw [State.setCopy_tracker, stranded, giveBackEntry_of_fresh, offers]
  rw [planDrain_of_fresh free unreserved entry stranded,
    drainStep_of_offer (s := s.setCopy (copiesDropped s.copy)) free give (by rw [same]; exact tag), same, sendFrame_useEntry]
  rfl

theorem giveBackEntry_of_no_offer (none : ∀ i : EntryIx, offered s i = false) :
    (s.setCopy (copiesDropped s.copy)).giveBackEntry (s.setCopy (copiesDropped s.copy)).tracker.slots[k].stranded = Option.none := by
  rw [State.setCopy_tracker, stranded, giveBackEntry_of_fresh, List.find?_eq_none]
  intro i _
  rw [none i]
  exact Bool.false_ne_true

theorem planDrain_of_holds (none : ∀ i : EntryIx, offered s i = false) (active : s.anyHold = true) (b : Body) :
    planDrain k b s = (writeSlot k { s.tracker.slots[k] with phase := .plan, frame := Option.none, waiting := some .holds } s).setCopy
      (copiesDropped s.copy) := by
  rw [planDrain_of_fresh free unreserved entry stranded]
  exact drainStep_of_holds (s := s.setCopy (copiesDropped s.copy)) free
    (giveBackEntry_of_no_offer free unreserved entry stranded none) active b

theorem planDrain_of_end (none : ∀ i : EntryIx, offered s i = false) (released : s.anyHold = false) (b : Body) :
    planDrain k b s = barrierEnd k b (s.setCopy (copiesDropped s.copy)) := by
  rw [planDrain_of_fresh free unreserved entry stranded]
  exact drainStep_of_end (s := s.setCopy (copiesDropped s.copy)) free
    (giveBackEntry_of_no_offer free unreserved entry stranded none) released b

end

/-- A slot that waits for holds, or for the end of a tenure, does not plan by itself (R117). -/
theorem not_due_of_waiting {s : State} {j : SlotIx} {w : Waiting} (waiting : s.tracker.slots[j].waiting = some w)
    (h : w = .holds ∨ w = .tenureEnd) : s.due j = false := by
  rw [State.due, waiting]
  obtain rfl | rfl := h <;> exact Bool.and_false _

theorem strandedLeft_nil (s : State) : s.strandedLeft [] = [] := by
  rw [State.strandedLeft, List.filter_eq_nil_iff]
  intro i _
  simp

theorem exclusive_of_copy {e : CopyEntry} (h : e.state = .copy) : e.exclusive = false := by
  rw [CopyEntry.exclusive, h]
  rfl

theorem copiesDropped_state (c : CopyUnit) (i : EntryIx) : (copiesDropped c).entries[i].state ≠ .copy := by
  rw [copiesDropped_entry]
  split
  · nofun
  · assumption

/-- The start of a LEAVE: slot 0 plans it, and the node is DRAINING (R101, R191). -/
theorem exec_leave_of_ready {s : State} {i : Instr} {tag : Tag} {g : Staging} (staged : Staged s i tag g .leave) (h : s.ready) :
    exec i s = .next (settleFor 62 (planDrain 0 .leave ((s.planning g tag .leave).setParticipation .draining))) := by
  obtain ⟨⟨por, queue, idle, _⟩, online, credit⟩ := h
  have run := exec_of_staged staged (by rw [online]; rfl) queue credit (idle 0)
    (fun j => not_due_of_not_plan (by rw [idle j]; nofun)) (by rw [busyCommands_of_idle idle]; exact eligible_alone _)
  obtain ⟨_, _, tagged⟩ := staged
  have start : startSlot 0 ⟨tag, s.port.nextSeq, .leave⟩ [] (enqueue .leave (s.setPort { s.port with staging := g })) =
      (s.planning g tag .leave).setParticipation .draining := by
    rw [← tagged]
    rfl
  have plan := planSlot_of_leave (s := (s.planning g tag .leave).setParticipation .draining)
    (planning_command s g tag .leave) rfl
  rw [run, start, plan]

/-- What a barrier's first plan reads of the started state. -/
structure Drains (s u : State) (x : Slot) : Prop where
  free : u.boundVar = none
  unreserved : ∀ i : EntryIx, s.copy.entries[i].reservedBy = none
  copy : u.copy = s.copy
  holds : u.holds = s.holds
  slot : u.tracker.slots[(0 : SlotIx)] = x
  entry : x.entry = none
  stranded : x.stranded = []

section
variable {s u : State} {x : Slot} (h : Drains s u x)
include h

theorem Drains.offers {e : EntryIx} {w : VarNum} (offers : (List.finRange 32).find? (offered s) = some e)
    (named : s.copy.entries[e].tag = some w) (b : Body) : planDrain 0 b u = (writeSlot 0 { x with
      phase := .send, entry := some e, frame := some (varFrame (giveBackKind s.copy.entries[e]) w), waiting := none } u).setCopy
        (copiesDropped s.copy) := by
  obtain ⟨free, unreserved, copy, holds, slot, entry, stranded⟩ := h
  have drain := planDrain_of_offer (s := u) (k := 0) (i := e) (w := w) free (by rw [copy]; exact unreserved)
    (by rw [slot, entry]) (by rw [slot, stranded]) (by rw [offered_congr copy holds]; exact offers) (by rw [copy]; exact named) b
  rw [copy, slot] at drain
  exact drain

theorem Drains.waits (none : ∀ i : EntryIx, offered s i = false) (active : s.anyHold = true) (b : Body) : planDrain 0 b u =
    (writeSlot 0 { x with phase := .plan, frame := Option.none, waiting := some .holds } u).setCopy (copiesDropped s.copy) := by
  obtain ⟨free, unreserved, copy, holds, slot, entry, stranded⟩ := h
  have drain := planDrain_of_holds (s := u) (k := 0) free (by rw [copy]; exact unreserved) (by rw [slot, entry])
    (by rw [slot, stranded]) (by rw [offered_congr copy holds]; exact none) ((anyHold_congr holds).trans active) b
  rw [copy, slot] at drain
  exact drain

theorem Drains.ends (none : ∀ i : EntryIx, offered s i = false) (released : s.anyHold = false) (b : Body) :
    planDrain 0 b u = barrierEnd 0 b (u.setCopy (copiesDropped s.copy)) := by
  obtain ⟨free, unreserved, copy, holds, slot, entry, stranded⟩ := h
  have drain := planDrain_of_end (s := u) (k := 0) free (by rw [copy]; exact unreserved) (by rw [slot, entry])
    (by rw [slot, stranded]) (by rw [offered_congr copy holds]; exact none) ((anyHold_congr holds).trans released) b
  rw [copy] at drain
  exact drain

end

section
variable {s : State} {i : Instr} {tag : Tag} {g : Staging} (ready : s.ready) (free : s.boundVar = none)
include ready free

theorem drains_planning (g : Staging) (tag : Tag) (b : Body) : Drains s (s.planning g tag b) (s.freshSlot tag b) := by
  obtain ⟨⟨_, _, _, unreserved⟩, _⟩ := ready
  exact ⟨free, unreserved, rfl, rfl, started_slot_zero s g b _, rfl, rfl⟩

theorem drains_draining (g : Staging) (tag : Tag) (b : Body) :
    Drains s ((s.planning g tag b).setParticipation .draining) (s.freshSlot tag b) := by
  obtain ⟨⟨_, _, _, unreserved⟩, _⟩ := ready
  exact ⟨free, unreserved, rfl, rfl, started_slot_zero s g b _, rfl, rfl⟩

/-- A FLUSH with nothing left to offer ends (R190). -/
theorem exec_flush_ends (run : exec i s = .next (settleFor 62 (planSlot 0 (s.planning g tag .flush))))
    (none : ∀ i : EntryIx, offered s i = false) (released : s.anyHold = false) :
    exec i s = .next ((s.finished g ⟨tag, .flush, .absent, .ok, 0, Option.none, Option.none⟩).setCopy (copiesDropped s.copy)) := by
  have drain := (drains_planning ready free g tag .flush).ends none released .flush
  have ends : barrierEnd 0 .flush ((s.planning g tag .flush).setCopy (copiesDropped s.copy)) =
      complete 0 ⟨.ok, Option.none⟩ Option.none ((s.planning g tag .flush).setCopy (copiesDropped s.copy)) := by
    rw [barrierEnd, State.setCopy_tracker, State.planning, started_slot_zero]
    · rfl
    · nofun
  have plan := (planSlot_of_flush (planning_command s g tag .flush) rfl).trans (drain.trans ends)
  obtain ⟨⟨_, _, _, unreserved⟩, _⟩ := id ready
  exact exec_of_completes (home := s.home) (holds := s.holds) run (slotZeroOpen_of_ready ready)
    (x := s.freshSlot tag .flush) rfl rfl plan fun e => by
      rw [copiesDropped_reservedBy, unreserved e]
      nofun

theorem exec_flush_waits (run : exec i s = .next (settleFor 62 (planSlot 0 (s.planning g tag .flush))))
    (none : ∀ i : EntryIx, offered s i = false) (active : s.anyHold = true) : exec i s =
      .next ((s.started g .flush (s.waitSlot tag .flush .holds)).setCopy (copiesDropped s.copy)) := by
  have drain := (drains_planning ready free g tag .flush).waits none active .flush
  rw [State.planning, writeSlot_started] at drain
  exact exec_of_waits (x := s.waitSlot tag .flush .holds) run (slotZeroOpen_of_ready ready)
    (not_due_of_waiting (by rw [State.setCopy_tracker, started_slot_zero]; rfl) (.inl rfl))
    ((planSlot_of_flush (planning_command s _ tag .flush) rfl).trans drain)

theorem exec_flush_offers (run : exec i s = .next (settleFor 62 (planSlot 0 (s.planning g tag .flush)))) {e : EntryIx} {w : VarNum}
    (offers : (List.finRange 32).find? (offered s) = some e) (named : s.copy.entries[e].tag = some w) :
    exec i s = .next ((s.started g .flush
      (s.sendSlot tag .flush (varFrame (giveBackKind s.copy.entries[e]) w) (some e))).setCopy (copiesDropped s.copy)) := by
  have drain := (drains_planning ready free g tag .flush).offers offers named .flush
  rw [State.planning, writeSlot_started] at drain
  exact exec_of_sends (x := s.sendSlot tag .flush (varFrame (giveBackKind s.copy.entries[e]) w) (some e)) run
    (slotZeroOpen_of_ready ready) rfl ((planSlot_of_flush (planning_command s _ tag .flush) rfl).trans drain)

/-- A LEAVE that has planned and not ended, slot 0 as `x` (R191). -/
theorem exec_leave_of_plan
    (run : exec i s = .next (settleFor 62 (planDrain 0 .leave ((s.planning g tag .leave).setParticipation .draining)))) {x : Slot}
    (plan : planDrain 0 .leave ((s.planning g tag .leave).setParticipation .draining) =
      (writeSlot 0 x ((s.planning g tag .leave).setParticipation .draining)).setCopy (copiesDropped s.copy))
    (still : x.phase ≠ .plan ∨ x.waiting = some .holds ∨ x.waiting = some .tenureEnd) :
    exec i s = .next (((s.started g .leave x).setCopy (copiesDropped s.copy)).setParticipation .draining) := by
  have result : (writeSlot 0 x ((s.planning g tag .leave).setParticipation .draining)).setCopy (copiesDropped s.copy) =
      ((s.started g .leave x).setCopy (copiesDropped s.copy)).setParticipation .draining :=
    congrArg (fun u : State => (u.setCopy (copiesDropped s.copy)).setParticipation .draining)
      (writeSlot_started s g .leave (s.freshSlot tag .leave) x)
  rw [run, plan, result]
  refine congrArg Host.Outcome.next (settleFor_of_still (s := ((s.started g .leave x).setCopy (copiesDropped s.copy)).setParticipation
    .draining) rfl (fun j => ?_) 62)
  have zero : (((s.started g .leave x).setCopy (copiesDropped s.copy)).setParticipation .draining).tracker.slots[(0 : SlotIx)] = x :=
    started_slot_zero s g .leave x
  by_cases first : j = 0
  · subst first
    obtain phase | waiting | waiting := still
    · exact not_due_of_not_plan (by rw [zero]; exact phase)
    · exact not_due_of_waiting (by rw [zero]; exact waiting) (.inl rfl)
    · exact not_due_of_waiting (by rw [zero]; exact waiting) (.inr rfl)
  · exact not_due_of_open (slotZeroOpen_of_ready ready) (started_slot_other s g .leave x first)

section
variable (staged : Staged s i tag g .leave)
include staged

theorem exec_leave_waits (none : ∀ i : EntryIx, offered s i = false) (active : s.anyHold = true) : exec i s =
    .next (((s.started g .leave (s.waitSlot tag .leave .holds)).setCopy (copiesDropped s.copy)).setParticipation .draining) :=
  exec_leave_of_plan ready free (x := s.waitSlot tag .leave .holds) (exec_leave_of_ready staged ready)
    ((drains_draining ready free g tag .leave).waits none active .leave) (.inr (.inl rfl))

theorem exec_leave_offers {e : EntryIx} {w : VarNum}
    (offers : (List.finRange 32).find? (offered s) = some e) (named : s.copy.entries[e].tag = some w) :
    exec i s = .next (((s.started g .leave
      (s.sendSlot tag .leave (varFrame (giveBackKind s.copy.entries[e]) w) (some e))).setCopy
        (copiesDropped s.copy)).setParticipation .draining) :=
  exec_leave_of_plan ready free (x := s.sendSlot tag .leave (varFrame (giveBackKind s.copy.entries[e]) w) (some e))
    (exec_leave_of_ready staged ready) ((drains_draining ready free g tag .leave).offers offers named .leave) (.inl nofun)

theorem exec_leave_awaits (none : ∀ i : EntryIx, offered s i = false) (released : s.anyHold = false) (inTenure : s.inTenure = true) :
    exec i s = .next (((s.started g .leave (s.waitSlot tag .leave .tenureEnd)).setCopy
      (copiesDropped s.copy)).setParticipation .draining) := by
  have barrier : barrierEnd 0 .leave (((s.planning g tag .leave).setParticipation .draining).setCopy (copiesDropped s.copy)) =
      (writeSlot 0 (s.waitSlot tag .leave .tenureEnd) ((s.planning g tag .leave).setParticipation .draining)).setCopy
        (copiesDropped s.copy) := by
    refine (if_pos (show State.inTenure _ = true from inTenure)).trans ?_
    rw [waitFor]
    have zero : (((s.planning g tag .leave).setParticipation .draining).setCopy (copiesDropped s.copy)).tracker.slots[(0 : SlotIx)] =
      s.freshSlot tag .leave := started_slot_zero s g .leave _
    rw [zero]
    rfl
  exact exec_leave_of_plan ready free (x := s.waitSlot tag .leave .tenureEnd) (exec_leave_of_ready staged ready)
    (((drains_draining ready free g tag .leave).ends none released .leave).trans barrier) (.inr (.inr rfl))

theorem exec_leave_ends (none : ∀ i : EntryIx, offered s i = false) (released : s.anyHold = false) (outside : s.inTenure = false) :
    exec i s = .next (((s.finished g ⟨tag, .leave, .absent, .ok, 0, Option.none, Option.none⟩).setCopy
      (copiesDropped s.copy)).setParticipation .offline) := by
  have ⟨⟨_, _, idle, unreserved⟩, _⟩ := ready
  have zero : (((s.planning g tag .leave).setParticipation .draining).setCopy (copiesDropped s.copy)).tracker.slots[(0 : SlotIx)] =
    s.freshSlot tag .leave := started_slot_zero s g .leave _
  have table : finalTable [] (copiesDropped s.copy) = copiesDropped s.copy :=
    finalTable_of_still fun i => ⟨copiesDropped_state s.copy i, fun listed => by cases listed⟩
  have slots : (s.planning g tag .leave).tracker.slots.set 0 Slot.idle = s.tracker.slots :=
    (slots_set_set s.tracker.slots 0 _ Slot.idle).trans (slots_set_self (idle 0))
  have final := leaveFinal_eq (s := ((s.planning g tag .leave).setParticipation .draining).setCopy (copiesDropped s.copy))
    (k := 0) (c := ⟨tag, s.port.nextSeq, .leave⟩) (by rw [zero]; rfl) rfl fun i => by
      rw [State.setCopy_copy, copiesDropped_reservedBy, unreserved i]
  rw [zero] at final
  simp only [State.freshSlot, Slot.idle, strandedLeft_nil, List.length_nil, countDiscards_zero, State.setCopy_copy, table] at final
  have result : barrierEnd 0 .leave (((s.planning g tag .leave).setParticipation .draining).setCopy (copiesDropped s.copy)) =
      ((s.finished g ⟨tag, .leave, .absent, .ok, 0, Option.none, Option.none⟩).setCopy (copiesDropped s.copy)).setParticipation
        .offline := by
    refine (if_neg (show ¬ State.inTenure _ = true from fun h => Bool.false_ne_true (outside.symm.trans h))).trans (final.trans ?_)
    exact congrArg (fun slots => ((s.finished g ⟨tag, .leave, .absent, .ok, 0, Option.none, Option.none⟩).setCopy
      (copiesDropped s.copy)).setParticipation .offline |>.setTracker { s.tracker with slots := slots }) slots
  rw [exec_leave_of_ready staged ready, (drains_draining ready free g tag .leave).ends none released .leave, result]
  refine congrArg Host.Outcome.next (settleFor_of_still (s := ((s.finished g
    ⟨tag, .leave, .absent, .ok, 0, Option.none, Option.none⟩).setCopy (copiesDropped s.copy)).setParticipation .offline) rfl
      (fun j => ?_) 62)
  exact not_due_of_open (s := s) (slotZeroOpen_of_ready ready) rfl

end

end

/-- Settles O17. -/
theorem drainPlans : Obligations.DrainPlans := by
  intro s tag gF gL table offered' draining ready unbound
  have same : ∀ i, offered' i = offered s i := offered_eq s
  have dropped : table = copiesDropped s.copy := by rw [copiesDropped]
  have ⟨⟨por, _⟩, _, credit⟩ := ready
  have flush := exec_of_ready (staged_flush por tag) ready credit ⟨nofun, nofun⟩
  have leave := staged_leave por tag
  rw [show draining = fun x => ((s.started gL .leave x).setCopy table).setParticipation .draining from rfl, dropped]
  refine ⟨fun none released => ?_, fun none r active => ?_, ?_⟩
  · have none' : ∀ i, offered s i = false := fun i => (same i).symm.trans (none i)
    have released' := anyHold_of_none released
    exact ⟨exec_flush_ends ready unbound flush none' released', exec_leave_ends ready unbound leave none' released',
      exec_leave_awaits ready unbound leave none' released'⟩
  · have none' : ∀ i, offered s i = false := fun i => (same i).symm.trans (none i)
    have active' := anyHold_of_active active
    exact ⟨exec_flush_waits ready unbound flush none' active', exec_leave_waits ready unbound leave none' active'⟩
  · intro i w offers lower named f
    have found : (List.finRange 32).find? (offered s) = some i :=
      find_finRange ((same i).symm.trans offers) fun j lt => (same j).symm.trans (lower j lt)
    exact ⟨exec_flush_offers ready unbound flush found named, exec_leave_offers ready unbound leave found named⟩

end Sys2Proof.Machine

/-!
PROOF. The final step that a LEAVE waited for, and UNHOLD with the barrier it lets end (R108, R113, R142, R148, R190, R192).
-/

namespace Sys2Proof.Machine

/-! ## The final step -/

theorem slots_set_get (slots : Vector Slot 4) (k j : SlotIx) (x : Slot) : (slots.set k x)[j] = if k = j then x else slots[j] := by
  simp [Vector.getElem_set, Fin.ext_iff]

/-- No slot is due where all but `k` are idle and `k` is not in PLAN. -/
theorem not_due_of_alone {s : State} {k : SlotIx} (others : ∀ j : SlotIx, j ≠ k → s.tracker.slots[j] = Slot.idle)
    (phase : s.tracker.slots[k].phase ≠ .plan) (j : SlotIx) : s.due j = false := by
  refine not_due_of_not_plan ?_
  by_cases same : j = k
  · rw [same]
    exact phase
  · rw [others j same]
    nofun

theorem leaveDue_of_alone {s : State} {k : SlotIx} {c : Command} (outside : s.inTenure = false)
    (others : ∀ j : SlotIx, j ≠ k → s.tracker.slots[j] = Slot.idle) (command : s.tracker.slots[k].command = some c)
    (leave : c.body = .leave) (waiting : s.tracker.slots[k].waiting = some .tenureEnd) : s.leaveDue = some k := by
  rw [State.leaveDue, outside, if_neg Bool.false_ne_true]
  refine find_finRange ?_ fun j lt => ?_
  · rw [waiting, State.slotBody, command]
    show (some Waiting.tenureEnd == some .tenureEnd && some c.body == some .leave) = true
    rw [leave]
    rfl
  · rw [others j (Fin.ne_of_lt lt)]
    rfl

theorem unreserved_eta {e : CopyEntry} (h : e.reservedBy = none) :
    { e with state := .none, tag := none, reservedBy := none } = { e with state := .none, tag := none } := by
  rw [← h]

/-- Settles O18. -/
theorem leaveFinalStepEnds : Obligations.LeaveFinalStepEnds := by
  intro s k c por outside others phase command leave waiting unreserved strandedNow n
  have counted : (s.strandedLeft s.tracker.slots[k].stranded).length = n := List.countP_eq_length_filter.symm
  have final := leaveFinal_eq command leave unreserved
  rw [counted, countDiscards_eq] at final
  have run : exec .leaveFinalStep s = .next (leaveFinal k s) := by
    refine congrArg Host.Outcome.next ((linkEvent_of_por_clear por takeLeaveFinal).trans ?_)
    rw [takeLeaveFinal, leaveDue_of_alone outside others command leave waiting]
    refine settleFor_of_still (by rw [final]; rfl) (fun j => not_due_of_not_plan ?_) _
    rw [final]
    show (s.tracker.slots.set k Slot.idle)[j].phase ≠ .plan
    rw [slots_set_get]
    split
    · nofun
    · rename_i other
      rw [others j (Ne.symm other)]
      nofun
  rw [final] at run
  refine ⟨_, run, rfl, rfl, rfl, fun i => ?_, ?_, rfl, rfl, rfl, rfl, ?_, rfl, rfl, rfl, rfl, rfl, rfl, rfl, por, rfl⟩
  · refine (finalTable_entry s.tracker.slots[k].stranded s.copy i).trans (if_congr (or_congr ?_ Iff.rfl) (unreserved_eta (unreserved i)) rfl)
    exact (Bool.and_eq_true _ _).symm ▸ Iff.rfl
  · show s.completion.queue ++ slotRecord c s.tracker.slots[k].tenures ⟨.ok, none⟩ none :: cancelled s.port.queue = _
    rw [slotRecord, leave]
    rfl
  · show (finalTable s.tracker.slots[k].stranded s.copy).receive = _
    rw [finalTable]

/-! ## Holds removed -/

/-- The slots once those waiting on holds plan again (R148). -/
def wokenSlots (slots : Vector Slot 4) : Vector Slot 4 := Vector.ofFn fun k : SlotIx =>
  if slots[k].waiting = some .holds then { slots[k] with waiting := none } else slots[k]

theorem wokenSlots_get (slots : Vector Slot 4) (k : SlotIx) : (wokenSlots slots)[k] =
    if slots[k].waiting = some .holds then { slots[k] with waiting := none } else slots[k] := by
  simp only [wokenSlots, Fin.getElem_fin, Vector.getElem_ofFn, Fin.eta]

theorem wakeHoldWaiters_eq (s : State) :
    wakeHoldWaiters s = s.setTracker { s.tracker with slots := wokenSlots s.tracker.slots } := by
  rw [wakeHoldWaiters, wokenSlots]

theorem wokenSlots_of_none {slots : Vector Slot 4} (h : ∀ k : SlotIx, slots[k].waiting ≠ some .holds) :
    wokenSlots slots = slots :=
  Vector.ext fun k lt => (wokenSlots_get slots ⟨k, lt⟩).trans (if_neg (h ⟨k, lt⟩))

theorem removeHold_eq (r : HoldIx) (s : State) : removeHold r s =
    (s.setHolds (s.holds.set r none)).setTracker { s.tracker with slots := wokenSlots s.tracker.slots } := by
  rw [removeHold, wakeHoldWaiters_eq]
  rfl

/-! ## UNHOLD -/

theorem planUnhold_of_held {s : State} {k : SlotIx} {v : VarNum} {r : HoldIx} (held : s.holdOf v = some r) :
    planUnhold k v s = complete k ⟨.ok, none⟩ none (planWokenBelow k (freeCredits 1 (removeHold r s))) := by
  rw [planUnhold, held]

theorem planUnhold_of_late {s : State} {k : SlotIx} {v : VarNum} (held : s.held v = false) :
    planUnhold k v s = complete k ⟨.late, none⟩ none s := by
  have none' : s.holdOf v = none := by simpa [State.held] using held
  rw [planUnhold, none']

section
variable {s : State} {i : Instr} {tag : Tag} {g : Staging} {v : VarNum}

/-- An UNHOLD's first plan with a hold to remove, no slot waiting on holds below it (R108, R142). -/
theorem unhold_completes {r : HoldIx} (credit : 1 ≤ s.completion.free) (idle : s.tracker.slots[(0 : SlotIx)] = Slot.idle)
    (unreserved : ∀ e : EntryIx, s.copy.entries[e].reservedBy ≠ some 0) (held : s.holdOf v = some r) :
    planSlot 0 (s.planning g tag (.unhold v)) =
      ((s.submitted g s.completion.free (s.completion.queue ++ [⟨tag, .unhold, .var v, .ok, 0, none, none⟩])).setHolds
        (s.holds.set r none)).setTracker { s.tracker with slots := wokenSlots s.tracker.slots } := by
  have zero := started_slot_zero s g (.unhold v) (s.freshSlot tag (.unhold v))
  have fresh : (wokenSlots (s.planning g tag (.unhold v)).tracker.slots)[(0 : SlotIx)] = s.freshSlot tag (.unhold v) := by
    rw [wokenSlots_get, zero]
    rfl
  have slots : (wokenSlots (s.planning g tag (.unhold v)).tracker.slots).set 0 Slot.idle = wokenSlots s.tracker.slots := by
    refine Vector.ext fun j lt => ?_
    refine (slots_set_get _ 0 ⟨j, lt⟩ _).trans ?_
    refine Eq.trans ?_ (wokenSlots_get s.tracker.slots ⟨j, lt⟩).symm
    split
    · rename_i same
      rw [← same, idle]
      rfl
    · rename_i other
      rw [wokenSlots_get, started_slot_other s g _ _ (Ne.symm other)]
  have restored : s.completion.free - 1 + 1 = s.completion.free := Nat.sub_add_cancel credit
  have removed := removeHold_eq r (s.planning g tag (.unhold v))
  rw [planSlot_of_unhold (planning_command s g tag (.unhold v)) rfl,
    planUnhold_of_held (s := s.planning g tag (.unhold v)) held, planWokenBelow_zero, removed]
  generalize woken : wokenSlots (s.planning g tag (.unhold v)).tracker.slots = S at fresh slots
  show complete 0 ⟨.ok, none⟩ none (freeCredits 1 (((s.planning g tag (.unhold v)).setHolds (s.holds.set r none)).setTracker
    { s.tracker with slots := S })) = _
  rw [complete_of_unreserved (s := freeCredits 1 (((s.planning g tag (.unhold v)).setHolds (s.holds.set r none)).setTracker
    { s.tracker with slots := S })) (c := ⟨tag, s.port.nextSeq, .unhold v⟩) (by
    show S[(0 : SlotIx)].command = _
    rw [fresh]
    rfl) unreserved]
  show State.setTracker _ { s.tracker with slots := S.set 0 Slot.idle } = _
  rw [slots]
  show State.setTracker (State.setCompletion _ { s.completion with
    free := s.completion.free - 1 + 1, queue := s.completion.queue ++ [slotRecord _ S[(0 : SlotIx)].tenures _ none] }) _ = _
  rw [fresh, restored]
  rfl

end

/-- The first part of O10: UNHOLD at a ready node. -/
theorem unhold_of_ready (s : State) (tag : Tag) (cvar : Halfword) (ready : s.ready) :
    (∀ r : HoldIx, s.holdOf (operandVar cvar) = some r →
      exec (.unhold tag cvar) s = .next
        ((s.submitted { s.port.staging with cmd := cmdWord 6 tag, cvar := cvar } s.completion.free (s.completion.queue ++
          [⟨tag, .unhold, .var (operandVar cvar), .ok, 0, none, none⟩])).setHolds (s.holds.set r none))) ∧
    (s.held (operandVar cvar) = false → exec (.unhold tag cvar) s = .next
      (s.finished { s.port.staging with cmd := cmdWord 6 tag, cvar := cvar }
        ⟨tag, .unhold, .var (operandVar cvar), .late, 0, none, none⟩)) := by
  have ⟨⟨por, _, idle, unreserved⟩, _, credit⟩ := ready
  have unreserved' : ∀ e : EntryIx, s.copy.entries[e].reservedBy ≠ some 0 := fun e => by rw [unreserved e]; nofun
  have staged := staged_unhold por tag cvar
  generalize ({ s.port.staging with cmd := cmdWord 6 tag, cvar := cvar } : Staging) = g at staged
  have run := exec_of_ready staged ready credit ⟨nofun, nofun⟩
  refine ⟨fun r held => ?_, fun free => ?_⟩
  · have woken : wokenSlots s.tracker.slots = s.tracker.slots := wokenSlots_of_none fun k => by rw [idle k]; nofun
    rw [run, unhold_completes credit (idle 0) unreserved' held, woken]
    refine congrArg Host.Outcome.next (settleFor_of_still ?_ (fun j => ?_) 62)
    · rfl
    · exact not_due_of_open (s := s) (slotZeroOpen_of_ready ready) rfl
  · exact exec_of_completes (home := s.home) (copy := s.copy) (holds := s.holds) run (slotZeroOpen_of_ready ready)
      (x := s.freshSlot tag (.unhold (operandVar cvar))) rfl rfl
      ((planSlot_of_unhold (planning_command s g tag _) rfl).trans
        (planUnhold_of_late (s := s.planning g tag _) free)) unreserved'

end Sys2Proof.Machine

/-!
PROOF. The FLUSH or LEAVE that an UNHOLD lets end, its record in slot order (R132, R148, R167, R190, R192).
-/

namespace Sys2Proof.Machine

/-- The state once the barrier `c` of slot `k` has ended with nothing left, outside a tenure (R190, R192). -/
def State.barrierDone (s : State) (k : SlotIx) (c : Command) : State :=
  ((s.setCompletion { s.completion with
    queue := s.completion.queue ++ [⟨c.tag, c.body.code, .absent, .ok, s.tracker.slots[k].tenures, none, none⟩] }).setTracker
    { s.tracker with slots := s.tracker.slots.set k Slot.idle }).setParticipation
    (if c.body = .leave then .offline else s.participation)

section
variable {s : State} {k : SlotIx} {c : Command}

theorem dropCopies_of_none (h : ∀ i : EntryIx, s.copy.entries[i].state ≠ .copy) : dropCopies s = s := by
  refine setEntries_self fun i => ?_
  simp only [Fin.getElem_fin, Vector.getElem_ofFn]
  exact if_neg fun ⟨copy, _⟩ => h i copy

theorem giveBackEntry_of_none (h : ∀ i : EntryIx, s.copy.entries[i].exclusive = false) (stranded : List EntryIx) :
    s.giveBackEntry stranded = none := by
  rw [State.giveBackEntry, List.find?_eq_none]
  intro i _
  rw [h i, Bool.false_and, Bool.false_and]
  exact Bool.false_ne_true

theorem copyBound_of_none (h : ∀ i : EntryIx, s.copy.entries[i].state ≠ .copy) : s.copyBound = false := by
  rw [State.copyBound, List.any_eq_false]
  intro i _
  rw [beq_false_of_ne (h i), Bool.false_and]
  exact Bool.false_ne_true

/-- With no entry and no hold left a barrier comes to its end, bound or not (R187). -/
theorem planDrain_of_empty (empty : ∀ i : EntryIx, s.copy.entries[i].state = .none)
    (released : ∀ q : HoldIx, s.holds[q] = none) (b : Body) : planDrain k b s =
      barrierEnd k b (writeSlot k { s.tracker.slots[k] with entry := none, stranded := [] } s) := by
  have noCopy : ∀ i : EntryIx, s.copy.entries[i].state ≠ .copy := fun i => by rw [empty i]; nofun
  have noExclusive : ∀ i : EntryIx, s.copy.entries[i].exclusive = false := fun i => by
    rw [CopyEntry.exclusive, empty i]
    rfl
  have pruned : pruneStranded k s = writeSlot k { s.tracker.slots[k] with entry := none, stranded := [] } s := by
    have none' : (s.tracker.slots[k].stranded.filter fun i => s.copy.entries[i].exclusive) = [] :=
      List.filter_eq_nil_iff.mpr fun i _ => by rw [noExclusive i]; exact Bool.false_ne_true
    rw [pruneStranded, none']
  rw [planDrain, dropCopies_of_none noCopy, pruned, drainStep,
    copyBound_of_none (s := writeSlot k _ s) noCopy, giveBackEntry_of_none (s := writeSlot k _ s) noExclusive]
  exact if_neg (by rw [anyHold_of_none (s := writeSlot k _ s) released]; exact Bool.false_ne_true)

/-- A barrier with nothing left ends, outside a tenure (R190, R192). -/
theorem planDrain_done (empty : ∀ i : EntryIx, s.copy.entries[i].state = .none ∧ s.copy.entries[i].reservedBy = none)
    (released : ∀ q : HoldIx, s.holds[q] = none) (outside : s.inTenure = false) (queue : s.port.queue = [])
    (command : s.tracker.slots[k].command = some c) (barrier : c.body = .flush ∨ c.body = .leave) :
    planDrain k c.body s = s.barrierDone k c := by
  have unreserved : ∀ i : EntryIx, s.copy.entries[i].reservedBy = none := fun i => (empty i).2
  have pruned : (writeSlot k { s.tracker.slots[k] with entry := none, stranded := [] } s).tracker.slots[k] =
      { s.tracker.slots[k] with entry := none, stranded := [] } := by rw [writeSlot_slot, if_pos rfl]
  have slots := slots_set_set s.tracker.slots k { s.tracker.slots[k] with entry := none, stranded := [] } Slot.idle
  have carries : (writeSlot k { s.tracker.slots[k] with entry := none, stranded := [] } s).tracker.slots[k].command = some c := by
    rw [pruned, command]
  rw [planDrain_of_empty (fun i => (empty i).1) released]
  obtain flush | leave := barrier
  · have ends : barrierEnd k c.body (writeSlot k { s.tracker.slots[k] with entry := none, stranded := [] } s) =
        complete k ⟨.ok, none⟩ none (writeSlot k { s.tracker.slots[k] with entry := none, stranded := [] } s) := by
      rw [flush, barrierEnd, pruned]
      · rfl
      · nofun
    have completes := complete_of_unreserved (s := writeSlot k { s.tracker.slots[k] with entry := none, stranded := [] } s)
      carries (fun i => by rw [writeSlot_copy, unreserved i]; nofun) ⟨.ok, none⟩ none
    rw [pruned, flush] at completes
    rw [ends, completes, State.barrierDone, flush, if_neg (by nofun), ← slots, slotRecord, flush]
    rfl
  · have final := leaveFinal_eq (s := writeSlot k { s.tracker.slots[k] with entry := none, stranded := [] } s) carries leave
      unreserved
    rw [pruned] at final
    simp only [strandedLeft_nil, List.length_nil, countDiscards_zero] at final
    have table : finalTable [] s.copy = s.copy := finalTable_of_still fun i =>
      ⟨by rw [(empty i).1]; nofun, fun listed => by cases listed⟩
    rw [writeSlot_copy, table] at final
    have queue' : (writeSlot k { s.tracker.slots[k] with entry := none, stranded := [] } s).port.queue = [] := queue
    rw [queue'] at final
    rw [leave]
    refine (if_neg (show ¬ State.inTenure (writeSlot k _ s) = true from
      fun h => Bool.false_ne_true (outside.symm.trans h))).trans (final.trans ?_)
    have port : ({ s.port with queue := [] } : Port) = s.port := by rw [← queue]
    refine Eq.trans ?_ (congrArg (fun p => (s.barrierDone k c).setPort p) port)
    rw [State.barrierDone, leave, if_pos rfl, ← slots, slotRecord, leave]
    rfl

end

theorem planWokenBelow_one (s : State) : planWokenBelow 1 s = planWoken 0 s := by
  rw [planWokenBelow, slots_in_order]
  rfl

theorem planWoken_of_barrier {s : State} {k : SlotIx} {c : Command} (phase : s.tracker.slots[k].phase = .plan)
    (waiting : s.tracker.slots[k].waiting = none) (command : s.tracker.slots[k].command = some c)
    (barrier : c.body = .flush ∨ c.body = .leave) : planWoken k s = planDrain k c.body s := by
  have body : s.slotBody k = some c.body := by rw [State.slotBody, command]; rfl
  rw [planWoken, phase, waiting, body]
  obtain flush | leave := barrier
  · rw [flush]
  · rw [leave]

theorem planSlot_of_barrier {s : State} {k : SlotIx} {c : Command} (command : s.tracker.slots[k].command = some c)
    (barrier : c.body = .flush ∨ c.body = .leave) : planSlot k s = planDrain k c.body s := by
  obtain flush | leave := barrier
  · rw [planSlot_of_flush command flush, flush]
  · rw [planSlot_of_leave command leave, leave]

/-- What the second part of O10 assumes of the node: slot `k` alone busy, its barrier waiting for the hold `r` alone, outside
a tenure. -/
structure HoldsBarrier (s : State) (v : VarNum) (k : SlotIx) (c : Command) (r : HoldIx) : Prop where
  states : s.participation = .online ∨ s.participation = .draining
  outside : s.inTenure = false
  credit : 1 ≤ s.completion.free
  queue : s.port.queue = []
  others : ∀ j : SlotIx, j ≠ k → s.tracker.slots[j] = Slot.idle
  phase : s.tracker.slots[k].phase = .plan
  waiting : s.tracker.slots[k].waiting = some .holds
  command : s.tracker.slots[k].command = some c
  barrier : c.body = .flush ∨ c.body = .leave
  empty : ∀ i : EntryIx, s.copy.entries[i].state = .none ∧ s.copy.entries[i].reservedBy = none
  held : s.holdOf v = some r
  alone : ∀ q : HoldIx, q ≠ r → s.holds[q] = none

section
variable {s : State} {v : VarNum} {k : SlotIx} {c : Command} {r : HoldIx} (h : HoldsBarrier s v k c r)
include h

theorem HoldsBarrier.still (j : SlotIx) : s.due j = false := by
  by_cases same : j = k
  · subst same
    exact not_due_of_waiting h.waiting (.inl rfl)
  · exact not_due_of_not_plan (by rw [h.others j same]; nofun)

theorem HoldsBarrier.mem_busy {d : Command} (busy : d ∈ s.busyCommands) : d = c := by
  obtain ⟨j, command⟩ := mem_busyCommands busy
  by_cases same : j = k
  · subst same
    exact Option.some.inj (command.symm.trans h.command)
  · rw [h.others j same] at command
    cases command

/-- The barrier does not keep an UNHOLD from starting (R100). -/
theorem HoldsBarrier.starts (tag : Tag) (n : Nat) : eligible s.busyCommands [] ⟨tag, n, .unhold v⟩ = true := by
  have names : s.busyCommands.any (fun d => d.body.var? == some v) = false := by
    rw [List.any_eq_false]
    intro d busy
    rw [h.mem_busy busy]
    obtain flush | leave := h.barrier
    · rw [flush]
      nofun
    · rw [leave]
      nofun
  unfold eligible
  show ((!s.busyCommands.any (fun d => d.body.var? == some v) && !([] : List Command).any _) && true && true) = true
  rw [names]
  rfl

theorem HoldsBarrier.admits : stateAdmits s.participation (.unhold v) = true := by
  obtain online | draining := h.states
  · rw [online]; rfl
  · rw [draining]; rfl

theorem HoldsBarrier.woken_other {j : SlotIx} (other : j ≠ k) : (wokenSlots s.tracker.slots)[j] = Slot.idle := by
  rw [wokenSlots_get, h.others j other]
  rfl

theorem HoldsBarrier.woken : (wokenSlots s.tracker.slots)[k] = { s.tracker.slots[k] with waiting := none } := by
  rw [wokenSlots_get, if_pos h.waiting]

theorem HoldsBarrier.released (q : HoldIx) : (s.holds.set r none)[q] = none := by
  rw [holds_set]
  split
  · rfl
  · rename_i other
    exact h.alone q (Ne.symm other)

/-- The barrier stands in a slot above 0: the UNHOLD's record first (R132). -/
theorem exec_unhold_above {i : Instr} {tag : Tag} {g : Staging} (staged : Staged s i tag g (.unhold v)) (above : k ≠ 0) :
    exec i s = .next ((((s.submitted g s.completion.free (s.completion.queue ++
      [⟨tag, .unhold, .var v, .ok, 0, none, none⟩, ⟨c.tag, c.body.code, .absent, .ok, s.tracker.slots[k].tenures, none, none⟩])).setHolds
          (s.holds.set r none)).setTracker { s.tracker with slots := s.tracker.slots.set k Slot.idle }).setParticipation
            (if c.body = .leave then .offline else s.participation)) := by
  have idle := h.others 0 (Ne.symm above)
  have run := exec_of_staged staged h.admits h.queue h.credit idle h.still (h.starts tag _)
  obtain ⟨_, _, tagged⟩ := staged
  rw [startSlot_enqueue (b := .unhold v) h.queue tagged ⟨nofun, nofun⟩,
    unhold_completes h.credit idle (fun e => by rw [(h.empty e).2]; nofun) h.held] at run
  obtain ⟨R, eq⟩ : ∃ R, R = ((s.submitted g s.completion.free (s.completion.queue ++
    [⟨tag, .unhold, .var v, .ok, 0, none, none⟩])).setHolds (s.holds.set r none)).setTracker
      { s.tracker with slots := wokenSlots s.tracker.slots } := ⟨_, rfl⟩
  have slots : R.tracker.slots = wokenSlots s.tracker.slots := by rw [eq]; rfl
  have atK : R.tracker.slots[k] = { s.tracker.slots[k] with waiting := none } := by rw [slots, h.woken]
  have others : ∀ j : SlotIx, j ≠ k → R.tracker.slots[j] = Slot.idle := fun j other => by rw [slots, h.woken_other other]
  have due : R.nextDue = some k := by
    refine find_finRange ?_ fun j lt => not_due_of_not_plan (by rw [others j (Fin.ne_of_lt lt)]; nofun)
    rw [State.due, atK, h.phase]
    rfl
  have command : R.tracker.slots[k].command = some c := by rw [atK, h.command]
  have done : planDrain k c.body R = R.barrierDone k c := by
    refine planDrain_done ?_ ?_ ?_ ?_ command h.barrier
    · rw [eq]; exact h.empty
    · rw [eq]; exact h.released
    · rw [eq]; exact h.outside
    · rw [eq]; rfl
  have plan := (planSlot_of_barrier command h.barrier).trans done
  have idleSlots : R.tracker.slots.set k Slot.idle = s.tracker.slots.set k Slot.idle := by
    rw [slots]
    refine Vector.ext fun j lt => (slots_set_get _ k ⟨j, lt⟩ _).trans (Eq.trans ?_ (slots_set_get _ k ⟨j, lt⟩ _).symm)
    split
    · rfl
    · rename_i other
      rw [h.woken_other (Ne.symm other), h.others _ (Ne.symm other)]
  have settled : settleFor 62 R = R.barrierDone k c := by
    refine (settleFor_plan due 61).trans ((congrArg (settleFor 61) plan).trans (settleFor_of_still ?_ (fun j => ?_) 61))
    · rw [eq]
      rfl
    · refine not_due_of_alone (k := k) (fun j other => ?_) ?_ j
      · exact (slots_set_get R.tracker.slots k j Slot.idle).trans ((if_neg (Ne.symm other)).trans (others j other))
      · have atIdle := (slots_set_get R.tracker.slots k k Slot.idle).trans (if_pos rfl)
        exact fun plan => by
          have phase : (R.tracker.slots.set k Slot.idle)[k].phase = .plan := plan
          rw [atIdle] at phase
          cases phase
  rw [run, ← eq, settled, State.barrierDone, idleSlots, atK, eq]
  show Host.Outcome.next (State.setParticipation (State.setTracker (State.setCompletion _ { s.completion with
    free := s.completion.free, queue := (s.completion.queue ++ [_]) ++ [_] }) _) _) = _
  rw [List.append_assoc]
  rfl

end

/-- The barrier stands in slot 0: its record first (R132). -/
theorem exec_unhold_zero {s : State} {v : VarNum} {c : Command} {r : HoldIx} (h : HoldsBarrier s v 0 c r)
    {i : Instr} {tag : Tag} {g : Staging} (staged : Staged s i tag g (.unhold v)) :
    exec i s = .next ((((s.submitted g s.completion.free (s.completion.queue ++
      [⟨c.tag, c.body.code, .absent, .ok, s.tracker.slots[(0 : SlotIx)].tenures, none, none⟩,
        ⟨tag, .unhold, .var v, .ok, 0, none, none⟩])).setHolds
          (s.holds.set r none)).setTracker { s.tracker with slots := s.tracker.slots.set 0 Slot.idle }).setParticipation
            (if c.body = .leave then .offline else s.participation)) := by
  have one : s.tracker.slots[(1 : SlotIx)] = Slot.idle := h.others 1 nofun
  have free : s.freeSlot = some 1 := find_finRange (by rw [one]; rfl) fun j lt => by
    have zero : j = 0 := by
      revert j
      decide
    rw [zero, h.phase]
    rfl
  have first : ∀ j : SlotIx, j < 1 → (startSlot 1 ⟨tag, s.port.nextSeq, .unhold v⟩ []
      (enqueue (.unhold v) (s.setPort { s.port with staging := g }))).due j = false := fun j lt => by
    have zero : j = 0 := by
      revert j
      decide
    subst zero
    exact not_due_of_waiting (w := .holds) (by
      rw [startSlot_slot, if_neg (by decide)]
      exact h.waiting) (.inl rfl)
  have run := exec_of_staged_at staged h.admits h.queue h.credit free h.still (h.starts tag _) first
  obtain ⟨_, _, tagged⟩ := staged
  let fresh := s.freshSlot tag (.unhold v)
  have start : startSlot 1 ⟨tag, s.port.nextSeq, .unhold v⟩ [] (enqueue (.unhold v) (s.setPort { s.port with staging := g })) =
      (s.submitted g (s.completion.free - 1) s.completion.queue).setTracker
        { s.tracker with slots := s.tracker.slots.set 1 fresh } := rfl
  have get : ∀ j : SlotIx, (s.tracker.slots.set 1 fresh)[j] = if (1 : SlotIx) = j then fresh else s.tracker.slots[j] :=
    fun j => slots_set_get s.tracker.slots 1 j fresh
  have S0 : (wokenSlots (s.tracker.slots.set 1 fresh))[(0 : SlotIx)] = { s.tracker.slots[(0 : SlotIx)] with waiting := none } := by
    rw [wokenSlots_get, get, if_neg (show ¬ (1 : SlotIx) = 0 by decide), if_pos h.waiting]
  have S1 : (wokenSlots (s.tracker.slots.set 1 fresh))[(1 : SlotIx)] = fresh := by
    rw [wokenSlots_get, get, if_pos rfl]
    rfl
  have other : ∀ j : SlotIx, j ≠ 0 → j ≠ 1 → (wokenSlots (s.tracker.slots.set 1 fresh))[j] = Slot.idle := fun j zero one => by
    rw [wokenSlots_get, get, if_neg (Ne.symm one), h.others j zero]
    rfl
  generalize woken : wokenSlots (s.tracker.slots.set 1 fresh) = S at S0 S1 other
  obtain ⟨Y, eq⟩ : ∃ Y, Y = ((s.submitted g s.completion.free s.completion.queue).setHolds (s.holds.set r none)).setTracker
    { s.tracker with slots := S } := ⟨_, rfl⟩
  have restored : s.completion.free - 1 + 1 = s.completion.free := Nat.sub_add_cancel h.credit
  have removed : freeCredits 1 (removeHold r ((s.submitted g (s.completion.free - 1) s.completion.queue).setTracker
      { s.tracker with slots := s.tracker.slots.set 1 fresh })) = Y := by
    rw [removeHold_eq]
    show State.setCompletion (State.setTracker _ { s.tracker with slots := wokenSlots (s.tracker.slots.set 1 fresh) })
      { s.completion with free := s.completion.free - 1 + 1, queue := s.completion.queue } = Y
    rw [woken, restored, eq]
    rfl
  have slots : Y.tracker.slots = S := by rw [eq]; rfl
  have atZero : Y.tracker.slots[(0 : SlotIx)] = { s.tracker.slots[(0 : SlotIx)] with waiting := none } := by rw [slots, S0]
  have command : Y.tracker.slots[(0 : SlotIx)].command = some c := by rw [atZero, h.command]
  have done : planDrain 0 c.body Y = Y.barrierDone 0 c := by
    refine planDrain_done ?_ ?_ ?_ ?_ command h.barrier
    · rw [eq]; exact h.empty
    · rw [eq]; exact h.released
    · rw [eq]; exact h.outside
    · rw [eq]; rfl
  have woke : planWokenBelow 1 Y = Y.barrierDone 0 c := (planWokenBelow_one Y).trans
    ((planWoken_of_barrier (by rw [atZero, h.phase]) (by rw [atZero]) command h.barrier).trans done)
  have idleSlots : (S.set 0 Slot.idle).set 1 Slot.idle = s.tracker.slots.set 0 Slot.idle := by
    refine Vector.ext fun j lt => (slots_set_get (S.set 0 Slot.idle) 1 ⟨j, lt⟩ _).trans
      (Eq.trans ?_ (slots_set_get s.tracker.slots 0 ⟨j, lt⟩ _).symm)
    have inner := slots_set_get S 0 ⟨j, lt⟩ Slot.idle
    by_cases isOne : (1 : SlotIx) = ⟨j, lt⟩
    · rw [if_pos isOne, ← isOne, if_neg (by decide), one]
    · rw [if_neg isOne]
      refine inner.trans ?_
      by_cases isZero : (0 : SlotIx) = ⟨j, lt⟩
      · rw [if_pos isZero, if_pos isZero]
      · rw [if_neg isZero, if_neg isZero, other _ (Ne.symm isZero) (Ne.symm isOne), h.others _ (Ne.symm isZero)]
  have fresh1 : (Y.barrierDone 0 c).tracker.slots[(1 : SlotIx)] = fresh := by
    refine (slots_set_get Y.tracker.slots 0 1 Slot.idle).trans ((if_neg (by decide)).trans ?_)
    rw [slots, S1]
  have plan : planSlot 1 ((s.submitted g (s.completion.free - 1) s.completion.queue).setTracker
      { s.tracker with slots := s.tracker.slots.set 1 fresh }) = complete 1 ⟨.ok, none⟩ none (Y.barrierDone 0 c) := by
    have started := get 1
    rw [if_pos rfl] at started
    rw [planSlot_of_unhold (c := ⟨tag, s.port.nextSeq, .unhold v⟩) (v := v) (by
      show (s.tracker.slots.set 1 fresh)[(1 : SlotIx)].command = _
      rw [started]
      rfl) rfl, planUnhold_of_held (r := r) (s := (s.submitted g (s.completion.free - 1) s.completion.queue).setTracker
        { s.tracker with slots := s.tracker.slots.set 1 fresh }) h.held, removed, woke]
  have completes := complete_of_unreserved (s := Y.barrierDone 0 c) (c := ⟨tag, s.port.nextSeq, .unhold v⟩) (k := 1)
    (by rw [fresh1]; rfl) (fun e => by
      show Y.copy.entries[e].reservedBy ≠ _
      rw [eq]
      show s.copy.entries[e].reservedBy ≠ _
      rw [(h.empty e).2]
      nofun) ⟨.ok, none⟩ none
  rw [fresh1] at completes
  have ended : complete 1 ⟨.ok, none⟩ none (Y.barrierDone 0 c) = (((s.submitted g s.completion.free (s.completion.queue ++
      [⟨c.tag, c.body.code, .absent, .ok, s.tracker.slots[(0 : SlotIx)].tenures, none, none⟩,
        ⟨tag, .unhold, .var v, .ok, 0, none, none⟩])).setHolds
          (s.holds.set r none)).setTracker { s.tracker with slots := s.tracker.slots.set 0 Slot.idle }).setParticipation
            (if c.body = .leave then .offline else s.participation) := by
    rw [completes, State.barrierDone, atZero, eq, ← idleSlots]
    have append : ∀ a b : Completion, s.completion.queue ++ [a, b] = (s.completion.queue ++ [a]) ++ [b] := fun a b => by simp
    rw [append]
    rfl
  rw [run, start, plan, ended]
  refine congrArg Host.Outcome.next (settleFor_of_still ?_ (fun j => ?_) 62)
  · rfl
  · refine not_due_of_alone (k := 0) (fun j other => ?_) ?_ j
    · exact (slots_set_get s.tracker.slots 0 j Slot.idle).trans ((if_neg (Ne.symm other)).trans (h.others j other))
    · have atIdle : (s.tracker.slots.set 0 Slot.idle)[(0 : SlotIx)] = Slot.idle :=
        (slots_set_get s.tracker.slots 0 0 Slot.idle).trans (if_pos rfl)
      exact fun plan => by
        have phase : (s.tracker.slots.set 0 Slot.idle)[(0 : SlotIx)].phase = .plan := plan
        rw [atIdle] at phase
        cases phase

/-- Settles O10. -/
theorem unholdEndsHold : Obligations.UnholdEndsHold := by
  refine ⟨?_, ?_⟩
  · intro s tag cvar v g done ready
    exact unhold_of_ready s tag cvar ready
  intro s tag cvar k c r v g x por states outside credit queue others phase waiting command barrier empty held alone unhold ends
  have h : HoldsBarrier s v k c r :=
    ⟨states, outside, credit, queue, others, phase, waiting, command, barrier, empty, held, alone⟩
  have staged := staged_unhold por tag cvar
  by_cases zero : k = 0
  · subst zero
    rw [if_pos rfl]
    exact exec_unhold_zero h staged
  · rw [if_neg zero]
    exact exec_unhold_above h staged zero

end Sys2Proof.Machine

/-!
PROOF. Victim choice and eviction (R41, R42, R121).
-/

namespace Sys2Proof.Machine

/-! ## Which entries can be the victim -/

theorem unbound_eq (s : State) (w : VarNum) : (!(some w == s.boundVar)) = (s.link.tenure).all fun tn => tn.bound != some w := by
  rw [State.boundVar]
  cases s.link.tenure with
  | none => rfl
  | some t =>
    show (!(some w == t.bound)) = !(t.bound == some w)
    rw [BEq.comm]

theorem drains_eq (x : Option Body) : x.any Body.drains = (x == some .flush || x == some .leave) := by
  cases x with
  | none => rfl
  | some b => cases b <;> rfl

/-- The other slots leave the entry to slot `k` (R121, R187). -/
theorem others_leave_eq (s : State) (k : SlotIx) (i : EntryIx) (w : VarNum) :
    (!s.otherSlotNames k w && !s.otherSlotDrains k i) = (List.finRange 4).all fun j => j == k || (s.slotVar j != some w
      && !((s.slotBody j == some .flush || s.slotBody j == some .leave) && s.tracker.slots[j].entry == some i)) := by
  rw [State.otherSlotNames, State.otherSlotDrains, List.not_any_eq_all_not, List.not_any_eq_all_not, Bool.eq_iff_iff,
    Bool.and_eq_true, List.all_eq_true, List.all_eq_true, List.all_eq_true, ← forall₂_and]
  refine forall₂_congr fun j _ => ?_
  rw [drains_eq]
  by_cases same : j = k
  · simp [same]
  · simp [same, bne]

/-- The entries that can be a slot's victim, spelled out (R41, R121). -/
def mayEvict (s : State) (k : SlotIx) (i : EntryIx) : Bool := (s.copy.entries[i].tag).any fun w =>
  s.copy.entries[i].state != .none && s.copy.entries[i].reservedBy == none
    && (List.finRange 4).all (fun r => (s.holds[r]).all fun h => h.var != w)
    && (s.link.tenure).all (fun tn => tn.bound != some w)
    && (List.finRange 4).all (fun j => j == k || (s.slotVar j != some w
      && !((s.slotBody j == some .flush || s.slotBody j == some .leave) && s.tracker.slots[j].entry == some i)))
    && s.link.roster.getLsbD (homeOf w).toNat

theorem victimEligible_eq (s : State) (k : SlotIx) (i : EntryIx) : s.victimEligible k i = mayEvict s k i := by
  rw [State.victimEligible, mayEvict]
  cases tag : s.copy.entries[i].tag with
  | none => rfl
  | some w =>
    have bound : (!s.entryBound i) = (s.link.tenure).all fun tn => tn.bound != some w := by
      rw [← unbound_eq, State.entryBound, tag]
      rfl
    have reserved : (s.copy.entries[i].reservedBy).isNone = (s.copy.entries[i].reservedBy == none) := by
      cases s.copy.entries[i].reservedBy <;> rfl
    simp only [Option.any_some]
    rw [← others_leave_eq, ← bound, ← not_held_eq, reserved, ← Bool.and_assoc]
    rfl

/-- Victim choice reads the tables, the link and the other slots alone. -/
theorem mayEvict_congr {s t : State} {k : SlotIx} (copy : t.copy = s.copy) (holds : t.holds = s.holds) (link : t.link = s.link)
    (others : ∀ j : SlotIx, j ≠ k → t.tracker.slots[j] = s.tracker.slots[j]) : mayEvict t k = mayEvict s k := by
  funext i
  rw [mayEvict, mayEvict, copy, holds, link]
  refine congrArg (fun P => (s.copy.entries[i].tag).any P) (funext fun w => ?_)
  refine congrArg₂ (· && ·) (congrArg₂ (· && ·) rfl ?_) rfl
  rw [Bool.eq_iff_iff, List.all_eq_true, List.all_eq_true]
  refine forall₂_congr fun j _ => ?_
  by_cases same : j = k
  · simp [same]
  · have var : t.slotVar j = s.slotVar j := by simp only [State.slotVar, State.slotBody, others j same]
    have body : t.slotBody j = s.slotBody j := by simp only [State.slotBody, others j same]
    rw [var, body, others j same]

/-! ## The oldest of them -/

/-- The fold keeps the oldest entry it has met. -/
theorem foldl_olderOf (s : State) : ∀ (l : List EntryIx) (best : Option EntryIx),
    (l.foldl (olderOf s) best = none → best = none ∧ l = []) ∧
    ∀ j, l.foldl (olderOf s) best = some j → (best = some j ∨ j ∈ l) ∧
      (∀ i ∈ l, s.copy.entries[i].age ≤ s.copy.entries[j].age) ∧
      ∀ b, best = some b → s.copy.entries[b].age ≤ s.copy.entries[j].age
  | [], best => ⟨fun h => ⟨h, rfl⟩, fun j h => ⟨.inl h, nofun, fun b e => by
      rw [List.foldl_nil, e] at h
      cases h
      exact Nat.le_refl _⟩⟩
  | i :: l, best => by
    obtain ⟨none, some'⟩ := foldl_olderOf s l (olderOf s best i)
    have chosen : ∃ m, olderOf s best i = some m ∧ (m = i ∨ best = some m) ∧
        s.copy.entries[i].age ≤ s.copy.entries[m].age ∧ ∀ b, best = some b → s.copy.entries[b].age ≤ s.copy.entries[m].age := by
      cases best with
      | none => exact ⟨i, rfl, .inl rfl, Nat.le_refl _, nofun⟩
      | some b =>
        by_cases older : s.copy.entries[b].age < s.copy.entries[i].age
        · exact ⟨i, if_pos older, .inl rfl, Nat.le_refl _, fun _ e => by cases e; exact Nat.le_of_lt older⟩
        · exact ⟨b, if_neg older, .inr rfl, Nat.not_lt.mp older, fun _ e => by cases e; exact Nat.le_refl _⟩
    obtain ⟨m, found, origin, newer, older⟩ := chosen
    refine ⟨fun h => ?_, fun j h => ?_⟩
    · rw [found] at none
      obtain ⟨impossible, _⟩ := none (by rw [← found]; exact h)
      cases impossible
    · obtain ⟨mem, all, kept⟩ := some' j h
      have above := kept m found
      refine ⟨?_, fun e inList => ?_, fun b e => (older b e).trans above⟩
      · obtain before | inRest := mem
        · rw [found] at before
          cases before
          obtain rfl | kept' := origin
          · exact .inr List.mem_cons_self
          · exact .inl kept'
        · exact .inr (List.mem_cons_of_mem _ inRest)
      · obtain rfl | inRest := List.mem_cons.mp inList
        · exact newer.trans above
        · exact all e inRest

section
variable {s : State} {k : SlotIx}

theorem mem_candidates {i : EntryIx} : i ∈ (List.finRange 32).filter (s.victimEligible k) ↔ mayEvict s k i = true := by
  rw [List.mem_filter, victimEligible_eq]
  exact ⟨fun ⟨_, may⟩ => may, fun may => ⟨List.mem_finRange i, may⟩⟩

theorem oldestVictim_oldest {j : EntryIx} (h : s.oldestVictim k = some j) : mayEvict s k j = true ∧
    ∀ i : EntryIx, mayEvict s k i = true → s.copy.entries[i].age ≤ s.copy.entries[j].age := by
  obtain ⟨mem, all, _⟩ := (foldl_olderOf s _ none).2 j h
  exact ⟨mem_candidates.mp (mem.resolve_left nofun), fun i may => all i (mem_candidates.mpr may)⟩

theorem oldestVictim_none (h : s.oldestVictim k = none) (i : EntryIx) : mayEvict s k i = false := by
  obtain ⟨_, empty⟩ := (foldl_olderOf s _ none).1 h
  rw [Bool.eq_false_iff]
  intro may
  have mem := mem_candidates.mpr may
  rw [empty] at mem
  cases mem

theorem oldestVictim_of_none (h : ∀ i : EntryIx, mayEvict s k i = false) : s.oldestVictim k = none := by
  cases found : s.oldestVictim k with
  | none => rfl
  | some j =>
    obtain ⟨may, _⟩ := oldestVictim_oldest found
    rw [h j] at may
    cases may

theorem oldestVictim_of_oldest {j : EntryIx} (may : mayEvict s k j = true)
    (oldest : ∀ i : EntryIx, mayEvict s k i = true → i ≠ j → s.copy.entries[i].age < s.copy.entries[j].age) :
    s.oldestVictim k = some j := by
  cases found : s.oldestVictim k with
  | none =>
    rw [oldestVictim_none found j] at may
    cases may
  | some m =>
    obtain ⟨may', all⟩ := oldestVictim_oldest found
    by_cases same : m = j
    · rw [same]
    · exact absurd (all j may) (Nat.not_le.mpr (oldest m may' same))

end

theorem oldestVictim_congr {s t : State} {k : SlotIx} (copy : t.copy = s.copy) (holds : t.holds = s.holds) (link : t.link = s.link)
    (others : ∀ j : SlotIx, j ≠ k → t.tracker.slots[j] = s.tracker.slots[j]) : t.oldestVictim k = s.oldestVictim k := by
  have same : t.victimEligible k = s.victimEligible k := by
    funext i
    rw [victimEligible_eq, victimEligible_eq, mayEvict_congr copy holds link others]
  have older : olderOf t = olderOf s := by
    funext best i
    simp only [olderOf, copy]
  rw [State.oldestVictim, same, older]
  rfl

/-! ## The eviction -/

/-- A command that ends unapplied frees all but one of its credits (R107). -/
theorem credits_of_refused {b : Body} {n : Nat} (credits : b.credits ≤ n) {st : Status} (refused : st ≠ .ok) :
    n - b.credits + creditsReturned b st = n - 1 := by
  cases b <;> first | rfl | skip
  simp only [creditsReturned, if_neg refused, Body.credits] at credits ⊢
  omega

theorem entries_set_set (entries : Vector CopyEntry 32) (i : EntryIx) (x y : CopyEntry) :
    (entries.set i x).set i y = entries.set i y := by
  simp

theorem writeEntry_writeEntry (i : EntryIx) (x y : CopyEntry) (s : State) : writeEntry i y (writeEntry i x s) = writeEntry i y s := by
  have same := entries_set_set s.copy.entries i x y
  exact congrArg (fun entries => s.setCopy { s.copy with entries := entries }) same

theorem entryOf_of_untagged {s : State} {v : VarNum} (h : ∀ i : EntryIx, s.copy.entries[i].tag ≠ some v) : s.entryOf v = none := by
  rw [State.entryOf, List.find?_eq_none]
  intro i _
  rw [beq_false_of_ne (h i)]
  exact Bool.false_ne_true

theorem freeEntry_of_full {s : State} (h : ∀ i : EntryIx, s.copy.entries[i].state = .none → s.copy.entries[i].reservedBy ≠ none) :
    s.freeEntry = none := by
  rw [State.freeEntry, List.find?_eq_none]
  intro i _ free
  rw [Bool.and_eq_true, beq_iff_eq, Option.isNone_iff_eq_none] at free
  exact h i free.1 free.2

section
variable {s : State} {i : Instr} {tag : Tag} {g : Staging} {b : Body} {v : VarNum}

/-- The victim reserved, in slot 0's record and in the entry (R26). -/
theorem reserveVictim_planning (j : EntryIx) : reserveVictim 0 j (s.planning g tag b) =
    writeEntry j { s.copy.entries[j] with reservedBy := some 0 } (s.started g b { s.freshSlot tag b with victim := some j }) := by
  rw [reserveVictim, State.planning, started_slot_zero]
  exact congrArg (writeEntry j { s.copy.entries[j] with reservedBy := some 0 })
    (writeSlot_started s g b (s.freshSlot tag b) { s.freshSlot tag b with victim := some j })

theorem writeEntry_started (j : EntryIx) (x : CopyEntry) (y : Slot) :
    writeEntry j x (s.started g b y) = (s.started g b y).setCopy (writeEntry j x s).copy := rfl

theorem sendFrame_writeEntry (k : SlotIx) (f : Frame) (j : EntryIx) (x : CopyEntry) (u : State) :
    sendFrame k f (writeEntry j x u) = writeEntry j x (sendFrame k f u) := rfl

theorem writeEntry_get (j : EntryIx) (x : CopyEntry) (u : State) : (writeEntry j x u).copy.entries[j] = x := by
  rw [writeEntry_entry, if_pos rfl]

/-- A COPY victim is dropped silently and fetched in its place (R42). -/
theorem planEvict_of_copy {j : EntryIx} {kind : Kind} (var : b.var? = some v) (fetch : fetchKind b = kind)
    (state : s.copy.entries[j].state = .copy) : planEvict 0 b v j (reserveVictim 0 j (s.planning g tag b)) =
      writeEntry j { s.copy.entries[j] with state := .none, tag := some v, reservedBy := some 0 }
        (s.started g b (s.sendSlot tag b (varFrame kind v) (some j))) := by
  rw [reserveVictim_planning]
  obtain ⟨u, eq⟩ : ∃ u, u = s.started g b { s.freshSlot tag b with victim := some j } := ⟨_, rfl⟩
  rw [← eq]
  have entry := writeEntry_get j { s.copy.entries[j] with reservedBy := some 0 } u
  have exclusive : (writeEntry j { s.copy.entries[j] with reservedBy := some 0 } u).copy.entries[j].exclusive = false := by
    rw [entry]
    exact exclusive_of_copy state
  have named : (writeEntry j { s.copy.entries[j] with reservedBy := some 0 } u).slotVar 0 = some v := by
    refine (slotVar_of_some (c := ⟨tag, s.port.nextSeq, b⟩) ?_).trans var
    rw [writeEntry_tracker, eq, started_slot_zero]
    rfl
  have slot : (writeEntry j { s.copy.entries[j] with reservedBy := some 0 } u).tracker.slots[(0 : SlotIx)] =
      { s.freshSlot tag b with victim := some j } := by rw [writeEntry_tracker, eq, started_slot_zero]
  have drops : planEvict 0 b v j (writeEntry j { s.copy.entries[j] with reservedBy := some 0 } u) =
      sendFrame 0 (varFrame kind v) (vacate j (writeEntry j { s.copy.entries[j] with reservedBy := some 0 } u)) := by
    rw [planEvict]
    simp only
    rw [exclusive, fetch]
  rw [drops, vacate_of_reserved (k := 0) (by rw [entry]), named, slot, entry, writeEntry_writeEntry]
  have written : writeSlot 0 { s.freshSlot tag b with entry := some j, victim := none }
      (writeEntry j { s.copy.entries[j] with state := .none, tag := some v, reservedBy := some 0 } u) =
      writeEntry j { s.copy.entries[j] with state := .none, tag := some v, reservedBy := some 0 }
        (writeSlot 0 { s.freshSlot tag b with entry := some j, victim := none } u) := rfl
  rw [written, eq, writeSlot_started, sendFrame_writeEntry, sendFrame_started]
  rfl

/-- An OWNED or DIRTY victim is given back (R42). -/
theorem planEvict_of_exclusive {j : EntryIx} {w : VarNum} (named : s.copy.entries[j].tag = some w)
    (state : s.copy.entries[j].state = .owned ∨ s.copy.entries[j].state = .dirty) :
    planEvict 0 b v j (reserveVictim 0 j (s.planning g tag b)) =
      writeEntry j { s.copy.entries[j] with reservedBy := some 0 } (s.started g b { s.sendSlot tag b
        (varFrame (if s.copy.entries[j].state = .dirty then .writeback else .giveBack) w) none with victim := some j }) := by
  rw [reserveVictim_planning]
  obtain ⟨u, eq⟩ : ∃ u, u = s.started g b { s.freshSlot tag b with victim := some j } := ⟨_, rfl⟩
  rw [← eq]
  have entry := writeEntry_get j { s.copy.entries[j] with reservedBy := some 0 } u
  have exclusive : (writeEntry j { s.copy.entries[j] with reservedBy := some 0 } u).copy.entries[j].exclusive = true := by
    rw [entry]
    obtain state | state := state <;> simp only [CopyEntry.exclusive, state] <;> rfl
  have evicts : planEvict 0 b v j (writeEntry j { s.copy.entries[j] with reservedBy := some 0 } u) =
      sendFrame 0 (varFrame (if s.copy.entries[j].state = .dirty then .writeback else .giveBack) w)
        (writeEntry j { s.copy.entries[j] with reservedBy := some 0 } u) := by
    rw [planEvict]
    simp only
    rw [exclusive, entry]
    simp only [named]
    rfl
  rw [evicts, sendFrame_writeEntry, eq, sendFrame_started]
  rfl

/-- What R41 and R42 plan for a variable with no entry, the table full. -/
theorem evictionPlans_of_staged (staged : Staged s i tag g b) (h : s.slotZeroOpen) (credits : b.credits ≤ s.completion.free)
    (var : b.var? = some v) (needs : b.code.needsEntry) (free : s.boundVar ≠ some v) (foreign : homeOf v ≠ s.nodeId)
    (alone : ∀ j : SlotIx, s.slotVar j ≠ some v) (untagged : ∀ e : EntryIx, s.copy.entries[e].tag ≠ some v)
    (full : ∀ e : EntryIx, s.copy.entries[e].state = .none → s.copy.entries[e].reservedBy ≠ none)
    {kind : Kind} (fetch : fetchKind b = kind) :
    ((∀ e : EntryIx, mayEvict s 0 e = false) →
      exec i s = .next (s.finished g ⟨tag, b.code, .var v, .noRoom, 0, none, none⟩)) ∧
    ∀ (j : EntryIx) (w : VarNum), s.copy.entries[j].tag = some w → (mayEvict s 0 j = true ∧
        ∀ e : EntryIx, mayEvict s 0 e = true → e ≠ j → s.copy.entries[e].age < s.copy.entries[j].age) →
      (s.copy.entries[j].state = .copy →
        exec i s = .next
          (writeEntry j { s.copy.entries[j] with state := .none, tag := some v, reservedBy := some 0 }
            (s.started g b (s.sendSlot tag b ⟨kind, v.setWidth 16, []⟩ (some j))))) ∧
      (s.copy.entries[j].state = .owned ∨ s.copy.entries[j].state = .dirty →
        exec i s = .next
          (writeEntry j { s.copy.entries[j] with reservedBy := some 0 }
            (s.started g b
              { s.sendSlot tag b
                  ⟨if s.copy.entries[j].state = .dirty then .writeback else .giveBack, w.setWidth 16, []⟩ none with
                victim := some j }))) := by
  have run := exec_of_open staged h credits (plain_of_needsEntry needs) (eligible_of_open h var alone)
  have missed : (s.planning g tag b).tracker.slots[(0 : SlotIx)].victim = none := by
    rw [State.planning, started_slot_zero]
    rfl
  have plan := (planSlot_planning_copy (g := g) (tag := tag) var needs free foreign).trans
    (planCopy_of_miss (s := s.planning g tag b) (entryOf_of_untagged (s := s.planning g tag b) untagged) missed)
  have noFree : (s.planning g tag b).freeEntry = none := freeEntry_of_full (s := s.planning g tag b) full
  have sameChoice : (s.planning g tag b).oldestVictim 0 = s.oldestVictim 0 :=
    oldestVictim_congr rfl rfl rfl fun j other => started_slot_other s g b _ other
  have ⟨_, _, _, _, _, _, notMine⟩ := h
  refine ⟨fun none' => ?_, fun j w named ⟨may, oldest⟩ => ⟨fun state => ?_, fun state => ?_⟩⟩
  · have ended := exec_of_completes (home := s.home) (copy := s.copy) (holds := s.holds) run h (x := s.freshSlot tag b) rfl rfl
      (plan.trans (allocate_of_none noFree (sameChoice.trans (oldestVictim_of_none none')) b)) notMine
    have subject : b.subject = .var v := by
      cases b <;> cases var <;> rfl
    rw [credits_of_refused credits (by nofun), subject] at ended
    exact ended
  · exact exec_of_sends run h (x := s.sendSlot tag b (varFrame kind v) (some j)) rfl
      (plan.trans ((allocate_of_victim noFree (sameChoice.trans (oldestVictim_of_oldest may oldest)) b).trans
        ((planEvict_of_copy var fetch state).trans (writeEntry_started j _ _))))
  · exact exec_of_sends run h (x := { s.sendSlot tag b
        (varFrame (if s.copy.entries[j].state = .dirty then .writeback else .giveBack) w) none with victim := some j }) rfl
      (plan.trans ((allocate_of_victim noFree (sameChoice.trans (oldestVictim_of_oldest may oldest)) b).trans
        ((planEvict_of_exclusive named state).trans (writeEntry_started j _ _))))

end

/-- Settles O14: the choice by the fold over the candidates, the eviction by the victim's state. -/
theorem evictionPlans : Obligations.EvictionPlans := by
  refine ⟨fun s k => ⟨victimEligible_eq s k, fun j => oldestVictim_oldest, fun j ⟨may, oldest⟩ => oldestVictim_of_oldest may oldest,
    oldestVictim_none⟩, ?_⟩
  intro s tag cvar carg0 carg1 payload v g gStore gHold open' foreign unbound alone untagged full
  have ⟨por, _, credit, _⟩ := open'
  exact ⟨evictionPlans_of_staged (staged_load por tag cvar) open' credit rfl (.inl rfl) unbound foreign alone untagged full rfl,
    fun mask => evictionPlans_of_staged (staged_store por tag cvar carg0 payload mask) open' credit rfl (.inr (.inl rfl)) unbound
      foreign alone untagged full rfl,
    evictionPlans_of_staged (staged_swap por tag cvar carg0 carg1 payload) open' credit rfl (.inr (.inr (.inl rfl))) unbound foreign
      alone untagged full rfl,
    fun duration credits => evictionPlans_of_staged (staged_hold por tag cvar carg0 duration) open' credits rfl
      (.inr (.inr (.inr rfl))) unbound foreign alone untagged full rfl⟩

end Sys2Proof.Machine

/-!
PROOF. The events that make one lone slot plan: a hold that expires under a waiting FLUSH, and a back-off that expires
(R116 to R121, R129, R141, R148, R187).
-/

namespace Sys2Proof.Machine

/-! ## One slot written twice, and one slot that plans alone -/

theorem writeSlot_writeSlot (k : SlotIx) (x y : Slot) (s : State) : writeSlot k y (writeSlot k x s) = writeSlot k y s :=
  congrArg (fun slots => s.setTracker { s.tracker with slots := slots }) (slots_set_set s.tracker.slots k x y)

theorem writeSlot_same (k : SlotIx) (x : Slot) (s : State) : (writeSlot k x s).tracker.slots[k] = x := by
  rw [writeSlot_slot, if_pos rfl]

theorem useEntry_forgetEntry (k : SlotIx) (v : VarNum) (i : EntryIx) (s : State) :
    useEntry k i (forgetEntry k v s) = useEntry k i s := by
  rw [useEntry, forgetEntry_slot, if_pos rfl]
  exact writeSlot_writeSlot k _ _ s

theorem forgetEntry_of_untagged {k : SlotIx} {v : VarNum} {s : State} (h : ∀ i : EntryIx, s.copy.entries[i].tag ≠ some v) :
    forgetEntry k v s = writeSlot k { s.tracker.slots[k] with entry := none } s := by
  have none' : (s.tracker.slots[k].entry.filter fun i => s.copy.entries[i].tag == some v) = none := by
    cases s.tracker.slots[k].entry with
    | none => rfl
    | some i => exact if_neg fun tagged => h i (eq_of_beq tagged)
  rw [forgetEntry, none']

section
variable {s t : State} {k : SlotIx} {z : Slot} (others : ∀ j : SlotIx, j ≠ k → s.tracker.slots[j] = Slot.idle)
  (slots : t.tracker.slots = s.tracker.slots.set k z)
include others slots

/-- After a lone slot's plan no slot is due: the slot has left PLAN or waits for holds or for the end of a tenure. -/
theorem still_of_lone (still : z.phase ≠ .plan ∨ z.waiting = some .holds ∨ z.waiting = some .tenureEnd) (j : SlotIx) :
    t.due j = false := by
  have slot : t.tracker.slots[j] = if k = j then z else s.tracker.slots[j] := by rw [slots, slots_set_get]
  by_cases same : k = j
  · rw [if_pos same] at slot
    obtain phase | waiting | waiting := still
    · exact not_due_of_not_plan (by rw [slot]; exact phase)
    · exact not_due_of_waiting (by rw [slot]; exact waiting) (.inl rfl)
    · exact not_due_of_waiting (by rw [slot]; exact waiting) (.inr rfl)
  · rw [if_neg same, others j (Ne.symm same)] at slot
    exact not_due_of_not_plan (by rw [slot]; nofun)

end

theorem settle_of_still {s : State} (queue : s.port.queue = []) (still : ∀ j : SlotIx, s.due j = false) : settle s = s :=
  settleFor_of_still queue still 64

/-- The lone slot `k` is to plan: it plans, and the event ends where that leaves nothing due (R116). -/
theorem settle_of_lone_plan {s t : State} {k : SlotIx} (others : ∀ j : SlotIx, j ≠ k → s.tracker.slots[j] = Slot.idle)
    (phase : s.tracker.slots[k].phase = .plan) (waiting : s.tracker.slots[k].waiting = none) (plan : planSlot k s = t)
    (queue : t.port.queue = []) (still : ∀ j : SlotIx, t.due j = false) : settle s = t := by
  have next : s.nextDue = some k := by
    refine find_finRange ?_ fun j lt => not_due_of_not_plan (by rw [others j (Fin.ne_of_lt lt)]; nofun)
    rw [State.due, phase, waiting]
    rfl
  refine (settleFor_plan next 63).trans ?_
  rw [plan]
  exact settleFor_of_still queue still 63

/-! ## Where a plan's slot goes -/

section
variable {s : State} {k : SlotIx} {c : Command} {v : VarNum}

/-- A plan that fetches, claims or gives back the variable's own entry (R119, R106). -/
theorem planVar_useEntry {f : Frame} {i : EntryIx}
    (plan : planVar k c v s = sendFrame k f (useEntry k i (forgetEntry k v s))) : planVar k c v s =
      writeSlot k { s.tracker.slots[k] with phase := .send, entry := some i, frame := some f, waiting := none } s := by
  rw [plan, useEntry_forgetEntry, sendFrame_useEntry]

section
variable (free : s.boundVar ≠ some v) (foreign : homeOf v ≠ s.nodeId)
include free foreign

/-- An entry reserved in fetch form for the slot is fetched (R119). -/
theorem planVar_of_fetch {i : EntryIx} (needs : c.body.code.needsEntry) (entry : s.entryOf v = some i)
    (state : s.copy.entries[i].state = .none) (reserved : s.copy.entries[i].reservedBy = some k) : planVar k c v s =
      writeSlot k { s.tracker.slots[k] with
        phase := .send, entry := some i, frame := some (varFrame (fetchFor c) v), waiting := none } s := by
  have mine : reservedByOther s.copy.entries[i] k = false := by
    rw [reservedByOther, reserved]
    simp
  refine planVar_useEntry ?_
  rw [planVar_of_copy free foreign needs, planCopy_of_fetch (s := forgetEntry k v s) entry mine state, fetchKind_eq needs]

theorem planVar_of_claim {i : EntryIx} (needs : c.body.code = .store ∨ c.body.code = .swap ∨ c.body.code = .hold)
    (entry : s.entryOf v = some i) (state : s.copy.entries[i].state = .copy) (unreserved : s.copy.entries[i].reservedBy = none) :
    planVar k c v s = writeSlot k { s.tracker.slots[k] with
      phase := .send, entry := some i, frame := some (varFrame .claim v), waiting := none } s := by
  have writes : c.body.code ≠ .load := by
    obtain h | h | h := needs <;> rw [h] <;> nofun
  refine planVar_useEntry ?_
  rw [planVar_of_copy free foreign (.inr needs),
    planCopy_of_copy (s := forgetEntry k v s) entry (not_reservedByOther unreserved k) state writes]

theorem planVar_of_give {w : VarNum} {i : EntryIx} (body : c.body = .release w) (notHeld : s.held v = false)
    (entry : s.entryOf v = some i) (state : s.copy.entries[i].state = .owned ∨ s.copy.entries[i].state = .dirty)
    (unreserved : s.copy.entries[i].reservedBy = none) : planVar k c v s = writeSlot k { s.tracker.slots[k] with
      phase := .send, entry := some i, frame := some (varFrame (giveBackKind s.copy.entries[i]) v), waiting := none } s := by
  refine planVar_useEntry ?_
  rw [planVar_of_release free body]
  exact planRelease_of_exclusive (s := forgetEntry k v s) notHeld foreign entry (not_reservedByOther unreserved k) state

omit free foreign in
/-- An OWNED or DIRTY victim is given back (R42). -/
theorem planEvict_of_own {i : EntryIx} {w : VarNum} (own : s.copy.entries[i].exclusive = true)
    (tag : s.copy.entries[i].tag = some w) (b : Body) :
    planEvict k b v i s = sendFrame k (varFrame (giveBackKind s.copy.entries[i]) w) s := by
  rw [planEvict]
  simp only [own, tag]

section
variable (needs : c.body.code.needsEntry) (untagged : ∀ i : EntryIx, s.copy.entries[i].tag ≠ some v)
include needs untagged

/-- A slot whose victim is still OWNED or DIRTY gives it back (R42). -/
theorem planVar_of_victim {i : EntryIx} {w : VarNum} (victim : s.tracker.slots[k].victim = some i)
    (tag : s.copy.entries[i].tag = some w) (own : s.copy.entries[i].exclusive = true) : planVar k c v s =
      writeSlot k { s.tracker.slots[k] with
        phase := .send, entry := none, frame := some (varFrame (giveBackKind s.copy.entries[i]) w), waiting := none } s := by
  rw [planVar_of_copy free foreign needs, forgetEntry_of_untagged untagged]
  have missing : (writeSlot k { s.tracker.slots[k] with entry := none } s).entryOf v = none := entryOf_of_untagged (s := s) untagged
  have kept : (writeSlot k { s.tracker.slots[k] with entry := none } s).dropBound i = false := by
    rw [State.dropBound, writeSlot_copy, own]
    rfl
  have victim' : (writeSlot k { s.tracker.slots[k] with entry := none } s).tracker.slots[k].victim = some i := by
    rw [writeSlot_same, ← victim]
  rw [planCopy, missing, victim']
  show (if _ then _ else _) = _
  rw [kept, if_neg Bool.false_ne_true, planEvict_of_own (s := writeSlot k _ s) own tag, sendFrame, writeSlot_same, writeSlot_writeSlot]
  rfl

/-- The lowest NONE entry is reserved and fetched (R41, R26). -/
theorem planVar_of_free {i : EntryIx} (victim : s.tracker.slots[k].victim = none) (found : s.freeEntry = some i) :
    planVar k c v s = writeEntry i { s.copy.entries[i] with tag := some v, reservedBy := some k }
      (writeSlot k { s.tracker.slots[k] with
        phase := .send, entry := some i, victim := none, frame := some (varFrame (fetchFor c) v), waiting := none } s) := by
  rw [planVar_of_copy free foreign needs, forgetEntry_of_untagged untagged,
    planCopy_of_miss (s := writeSlot k _ s) (entryOf_of_untagged (s := s) untagged) (by rw [writeSlot_same]; exact victim),
    allocate_of_free (s := writeSlot k _ s) (i := i) found, reserveFetch, writeSlot_same, sendFrame, writeSlot_same, writeSlot_writeSlot,
    fetchKind_eq needs]
  exact congrArg (writeEntry i { s.copy.entries[i] with tag := some v, reservedBy := some k })
    (writeSlot_writeSlot k { s.tracker.slots[k] with entry := none } _ s)

/-- The oldest victim is reserved and given back (R41, R42). -/
theorem planVar_of_oldest {i : EntryIx} {w : VarNum} (victim : s.tracker.slots[k].victim = none) (full : s.freeEntry = none)
    (oldest : s.oldestVictim k = some i) (tag : s.copy.entries[i].tag = some w) (own : s.copy.entries[i].exclusive = true) :
    planVar k c v s = writeEntry i { s.copy.entries[i] with reservedBy := some k }
      (writeSlot k { s.tracker.slots[k] with
        phase := .send, entry := none, victim := some i, frame := some (varFrame (giveBackKind s.copy.entries[i]) w), waiting := none } s) := by
  have oldest' : (writeSlot k { s.tracker.slots[k] with entry := none } s).oldestVictim k = some i :=
    (oldestVictim_congr (s := s) (t := writeSlot k _ s) rfl rfl rfl fun j other => writeSlot_other other _ s).trans oldest
  rw [planVar_of_copy free foreign needs, forgetEntry_of_untagged untagged,
    planCopy_of_miss (s := writeSlot k _ s) (entryOf_of_untagged (s := s) untagged) (by rw [writeSlot_same]; exact victim),
    allocate_of_victim (s := writeSlot k _ s) full oldest', reserveVictim, writeSlot_same]
  have entry : (writeSlot k { s.tracker.slots[k] with entry := none, victim := some i } (writeEntry i
      { (writeSlot k { s.tracker.slots[k] with entry := none } s).copy.entries[i] with reservedBy := some k }
      (writeSlot k { s.tracker.slots[k] with entry := none } s))).copy.entries[i] =
      { s.copy.entries[i] with reservedBy := some k } := writeEntry_get i _ _
  rw [planEvict_of_own (by rw [entry]; exact own) (by rw [entry]; exact tag), entry, sendFrame, writeSlot_same, writeSlot_writeSlot]
  exact congrArg (writeEntry i { s.copy.entries[i] with reservedBy := some k })
    (writeSlot_writeSlot k { s.tracker.slots[k] with entry := none } _ s)

end

end

end

/-! ## The plan of a barrier with a stranded list -/

/-- The slot of a barrier once step 1 of its plan has dropped the copies: nothing offered, its list pruned (R188). -/
def State.prunedSlot (s : State) (k : SlotIx) : Slot := { s.tracker.slots[k] with
  entry := none
  stranded := s.tracker.slots[k].stranded.filter fun i => s.copy.entries[i].exclusive }

/-- The entries a barrier may offer that are not on its stranded list (R187). -/
def offeredApart (s : State) (list : List EntryIx) (i : EntryIx) : Bool := offered s i && !list.contains i

/-- A barrier's state after step 1 of its plan. -/
def State.dropped (s : State) (k : SlotIx) : State := (writeSlot k (s.prunedSlot k) s).setCopy (copiesDropped s.copy)

section
variable {s : State} {k : SlotIx}

theorem dropped_slot (s : State) (k : SlotIx) : (s.dropped k).tracker.slots[k] = s.prunedSlot k := writeSlot_same k _ s

section
variable (free : s.boundVar = none)
include free

theorem planDrain_eq (unreserved : ∀ i : EntryIx, s.copy.entries[i].reservedBy = none) (b : Body) :
    planDrain k b s = drainStep k b (s.dropped k) := by
  have same : ∀ i : EntryIx, (copiesDropped s.copy).entries[i].exclusive = s.copy.entries[i].exclusive := fun i =>
    (exclusive_copiesDropped s.copy i).1
  have pruned : pruneStranded k (s.setCopy (copiesDropped s.copy)) = s.dropped k := by
    rw [pruneStranded]
    simp only [State.setCopy_copy, same]
    rfl
  rw [planDrain, dropCopies_of_unbound free unreserved, pruned]

theorem giveBackEntry_dropped : (s.dropped k).giveBackEntry (s.dropped k).tracker.slots[k].stranded =
    (List.finRange 32).find? (offeredApart s s.tracker.slots[k].stranded) := by
  have held : ∀ v, (s.dropped k).held v = s.held v := held_congr (s := s) (t := s.dropped k) rfl
  rw [dropped_slot, State.giveBackEntry]
  refine congrArg (fun P => (List.finRange 32).find? P) (funext fun i => ?_)
  obtain ⟨same, entry⟩ := exclusive_copiesDropped s.copy i
  show (((copiesDropped s.copy).entries[i].exclusive && ((copiesDropped s.copy).entries[i].tag).any fun v => !(s.dropped k).held v) &&
    !(s.prunedSlot k).stranded.contains i) = _
  rw [same, offeredApart, offered]
  cases exclusive : s.copy.entries[i].exclusive with
  | false => simp only [Bool.false_and]
  | true =>
    have listed : (s.prunedSlot k).stranded.contains i = s.tracker.slots[k].stranded.contains i := by
      rw [Bool.eq_iff_iff]
      simp only [State.prunedSlot, List.contains_iff_mem, List.mem_filter, exclusive, and_true]
    rw [entry exclusive, listed]
    simp only [held]

variable (unreserved : ∀ i : EntryIx, s.copy.entries[i].reservedBy = none)
include unreserved

/-- A barrier offers the lowest entry left to it (R187). -/
theorem planDrain_offers {i : EntryIx} {w : VarNum}
    (offers : (List.finRange 32).find? (offeredApart s s.tracker.slots[k].stranded) = some i)
    (tag : s.copy.entries[i].tag = some w) (b : Body) : planDrain k b s =
      (writeSlot k { s.prunedSlot k with
        phase := .send, entry := some i, frame := some (varFrame (giveBackKind s.copy.entries[i]) w), waiting := none } s).setCopy (copiesDropped s.copy) := by
  have chosen := List.find?_some offers
  have exclusive : s.copy.entries[i].exclusive = true := by
    rw [offeredApart, offered, Bool.and_eq_true, Bool.and_eq_true] at chosen
    exact chosen.1.1
  have same : (s.dropped k).copy.entries[i] = s.copy.entries[i] := (exclusive_copiesDropped s.copy i).2 exclusive
  rw [planDrain_eq free unreserved, drainStep_of_offer (s := s.dropped k) free ((giveBackEntry_dropped free).trans offers)
    (by rw [same]; exact tag), same, sendFrame_useEntry, dropped_slot]
  exact congrArg (fun u : State => u.setCopy (copiesDropped s.copy)) (writeSlot_writeSlot k (s.prunedSlot k) _ s)

theorem giveBackEntry_none (none : ∀ i : EntryIx, offeredApart s s.tracker.slots[k].stranded i = false) :
    (s.dropped k).giveBackEntry (s.dropped k).tracker.slots[k].stranded = Option.none := by
  rw [giveBackEntry_dropped free, List.find?_eq_none]
  intro i _
  rw [none i]
  exact Bool.false_ne_true

theorem planDrain_waits (none : ∀ i : EntryIx, offeredApart s s.tracker.slots[k].stranded i = false) (active : s.anyHold = true)
    (b : Body) : planDrain k b s =
      (writeSlot k { s.prunedSlot k with phase := .plan, frame := Option.none, waiting := some .holds } s).setCopy
        (copiesDropped s.copy) := by
  rw [planDrain_eq free unreserved, drainStep_of_holds (s := s.dropped k) free (giveBackEntry_none free unreserved none) active,
    waitFor, dropped_slot]
  exact congrArg (fun u : State => u.setCopy (copiesDropped s.copy)) (writeSlot_writeSlot k (s.prunedSlot k) _ s)

theorem planDrain_ends (none : ∀ i : EntryIx, offeredApart s s.tracker.slots[k].stranded i = false) (released : s.anyHold = false)
    (b : Body) : planDrain k b s = barrierEnd k b (s.dropped k) := by
  rw [planDrain_eq free unreserved, drainStep_of_end (s := s.dropped k) free (giveBackEntry_none free unreserved none) released]

end

end

end Sys2Proof.Machine

/-!
PROOF. A hold that expires (R141, R148, R190).
-/

namespace Sys2Proof.Machine

/-- A FLUSH with nothing left ends OK, in a tenure or outside one (R190). -/
theorem planDrain_flush_done {s : State} {k : SlotIx} {c : Command}
    (empty : ∀ i : EntryIx, s.copy.entries[i].state = .none ∧ s.copy.entries[i].reservedBy = none)
    (released : ∀ q : HoldIx, s.holds[q] = none) (command : s.tracker.slots[k].command = some c) (flush : c.body = .flush) :
    planDrain k .flush s = (s.setCompletion { s.completion with
        queue := s.completion.queue ++ [⟨c.tag, .flush, .absent, .ok, s.tracker.slots[k].tenures, none, none⟩] }).setTracker
      { s.tracker with slots := s.tracker.slots.set k Slot.idle } := by
  have pruned := writeSlot_same k { s.tracker.slots[k] with entry := none, stranded := [] } s
  have carries : (writeSlot k { s.tracker.slots[k] with entry := none, stranded := [] } s).tracker.slots[k].command = some c := by
    rw [pruned, command]
  have ends : barrierEnd k .flush (writeSlot k { s.tracker.slots[k] with entry := none, stranded := [] } s) =
      complete k ⟨.ok, none⟩ none (writeSlot k { s.tracker.slots[k] with entry := none, stranded := [] } s) := by
    rw [barrierEnd, pruned]
    · rfl
    · nofun
  have completes := complete_of_unreserved (s := writeSlot k { s.tracker.slots[k] with entry := none, stranded := [] } s)
    carries (fun i => by rw [writeSlot_copy, (empty i).2]; nofun) ⟨.ok, none⟩ none
  have slots := slots_set_set s.tracker.slots k { s.tracker.slots[k] with entry := none, stranded := [] } Slot.idle
  rw [pruned] at completes
  rw [planDrain_of_empty (fun i => (empty i).1) released, ends, completes, slotRecord, flush, ← slots]
  rfl

theorem exec_holdExpiry_of_active {s : State} {r : HoldIx} {h : HoldRecord} (por : s.por = false) (active : s.holds[r] = some h) :
    exec (.holdExpiry r) s = .next (settle (((s.setHolds (s.holds.set r none)).setCompletion { s.completion with
      queue := s.completion.queue ++ [⟨h.tag, .hold, .var h.var, .holdExpired, 0, none, none⟩] }).setTracker
        { s.tracker with slots := wokenSlots s.tracker.slots })) := by
  refine congrArg Host.Outcome.next ((linkEvent_of_por_clear por (holdExpires r)).trans ?_)
  rw [holdExpires, active, if_pos Option.isSome_some, endHold, active]
  exact congrArg settle (removeHold_eq r (post ⟨h.tag, .hold, .var h.var, .holdExpired, 0, none, none⟩ s))

/-- Settles O52. -/
theorem holdExpiryPosts : Obligations.HoldExpiryPosts := by
  intro s r por
  refine ⟨fun free => ?_, ?_⟩
  · refine congrArg Host.Outcome.next ((linkEvent_of_por_clear por (holdExpires r)).trans ?_)
    rw [holdExpires, free]
    rfl
  intro h active expired
  refine ⟨fun ⟨_, queue, idle, _⟩ => ?_, ?_⟩
  · have woken : wokenSlots s.tracker.slots = s.tracker.slots := wokenSlots_of_none fun k => by rw [idle k]; nofun
    rw [exec_holdExpiry_of_active por active, woken]
    exact congrArg Host.Outcome.next (settle_of_still
      (s := (s.setHolds (s.holds.set r none)).setCompletion { s.completion with queue := s.completion.queue ++ [expired] })
      queue fun j => not_due_of_not_plan (s := s) (by rw [idle j]; nofun))
  intro k c queue others empty alone phase command flush waiting
  have wokenK : (wokenSlots s.tracker.slots)[k] = { s.tracker.slots[k] with waiting := none } := by
    rw [wokenSlots_get, if_pos waiting]
  have wokenOther : ∀ j : SlotIx, j ≠ k → (wokenSlots s.tracker.slots)[j] = Slot.idle := fun j other => by
    rw [wokenSlots_get, others j other]
    rfl
  have slots : (wokenSlots s.tracker.slots).set k Slot.idle = s.tracker.slots.set k Slot.idle := by
    refine Vector.ext fun j lt => (slots_set_get _ k ⟨j, lt⟩ _).trans (Eq.trans ?_ (slots_set_get _ k ⟨j, lt⟩ _).symm)
    split
    · rfl
    · rename_i other
      rw [wokenOther _ (Ne.symm other), others _ (Ne.symm other)]
  rw [exec_holdExpiry_of_active por active]
  generalize wokenSlots s.tracker.slots = S at wokenK wokenOther slots
  obtain ⟨u, eq⟩ : ∃ u, u = ((s.setHolds (s.holds.set r none)).setCompletion
    { s.completion with queue := s.completion.queue ++ [expired] }).setTracker { s.tracker with slots := S } := ⟨_, rfl⟩
  have uSlots : u.tracker.slots = S := by rw [eq]; rfl
  have atK : u.tracker.slots[k] = { s.tracker.slots[k] with waiting := none } := by rw [uSlots, wokenK]
  have atOther : ∀ j : SlotIx, j ≠ k → u.tracker.slots[j] = Slot.idle := fun j other => by rw [uSlots, wokenOther j other]
  have command' : u.tracker.slots[k].command = some c := by rw [atK, command]
  have released : ∀ q : HoldIx, u.holds[q] = none := fun q => by
    rw [eq]
    show (s.holds.set r none)[q] = none
    rw [holds_set]
    split
    · rfl
    · rename_i other
      exact alone q (Ne.symm other)
  have drain := planDrain_flush_done (s := u) (k := k) (by rw [eq]; exact empty) released command' flush
  have plan := (planSlot_of_flush command' flush).trans drain
  have settled := settle_of_lone_plan atOther (by rw [atK, phase]) (by rw [atK]) plan (by rw [eq]; exact queue)
    (still_of_lone atOther rfl (.inl nofun))
  refine congrArg Host.Outcome.next (Eq.trans ?_ (settled.trans ?_))
  · rw [eq]
  · rw [atK, uSlots, slots, eq]
    have append : ∀ a b : Completion, s.completion.queue ++ [a, b] = (s.completion.queue ++ [a]) ++ [b] := fun a b => by simp
    rw [append]
    rfl

end Sys2Proof.Machine

/-!
PROOF. A back-off expires and the slot plans from the current state, kind by kind (R129, R116 to R121, R187).
-/

namespace Sys2Proof.Machine

/-- The slot of a back-off that has expired, to plan at once (R129). -/
def State.expiredSlot (s : State) (k : SlotIx) : Slot :=
  { s.tracker.slots[k] with phase := .plan, frame := none, waiting := none, backoff := 0 }

/-- The state that slot plans from. -/
def State.expired (s : State) (k : SlotIx) : State := writeSlot k (s.expiredSlot k) s

theorem expired_slot (s : State) (k : SlotIx) : (s.expired k).tracker.slots[k] = s.expiredSlot k := writeSlot_same k _ s

theorem writeSlot_expired (k : SlotIx) (z : Slot) (s : State) : writeSlot k z (s.expired k) = writeSlot k z s :=
  writeSlot_writeSlot k _ z s

section
variable {s : State} {k : SlotIx} (por : s.por = false)
include por

theorem exec_backoffExpiry_of_other (phase : s.tracker.slots[k].phase ≠ .backoff) : exec (.backoffExpiry k) s = .next s :=
  congrArg Host.Outcome.next ((linkEvent_of_por_clear por (backoffExpires k)).trans (if_neg phase))

theorem exec_backoffExpiry_eq (phase : s.tracker.slots[k].phase = .backoff) :
    exec (.backoffExpiry k) s = .next (settle (s.expired k)) := by
  refine congrArg Host.Outcome.next ((linkEvent_of_por_clear por (backoffExpires k)).trans ((if_pos phase).trans ?_))
  rw [replan, writeSlot_same, writeSlot_writeSlot]
  rfl

end

/-- Slot `k`, alone busy, is in BACKOFF with the command `c`. -/
structure LoneBackoff (s : State) (k : SlotIx) (c : Command) : Prop where
  por : s.por = false
  command : s.tracker.slots[k].command = some c
  queue : s.port.queue = []
  others : ∀ j : SlotIx, j ≠ k → s.tracker.slots[j] = Slot.idle
  phase : s.tracker.slots[k].phase = .backoff

section
variable {s : State} {k : SlotIx} {c : Command} (h : LoneBackoff s k c)
include h

theorem LoneBackoff.carries : (s.expired k).tracker.slots[k].command = some c := by
  rw [expired_slot]
  exact h.command

/-- The event is the slot's plan where that leaves nothing due. -/
theorem LoneBackoff.exec_of_plan {t : State} (plan : planSlot k (s.expired k) = t) (queue : t.port.queue = [])
    (still : ∀ j : SlotIx, t.due j = false) : exec (.backoffExpiry k) s = .next t := by
  have slot := expired_slot s k
  rw [exec_backoffExpiry_eq h.por h.phase, settle_of_lone_plan (k := k) (fun j other => ?_) (by rw [slot]; rfl) (by rw [slot]; rfl)
    plan queue still]
  rw [State.expired, writeSlot_other other, h.others j other]

theorem LoneBackoff.exec_of_slots {t : State} {z : Slot} (plan : planSlot k (s.expired k) = t) (queue : t.port.queue = [])
    (slots : t.tracker.slots = s.tracker.slots.set k z) (still : z.phase ≠ .plan) : exec (.backoffExpiry k) s = .next t :=
  h.exec_of_plan plan queue (still_of_lone h.others slots (.inl still))

/-- The plan leaves the slot as `z`. -/
theorem LoneBackoff.exec_of_writes {z : Slot} (plan : planSlot k (s.expired k) = writeSlot k z (s.expired k))
    (still : z.phase ≠ .plan) : exec (.backoffExpiry k) s = .next (writeSlot k z s) := by
  rw [writeSlot_expired] at plan
  exact h.exec_of_slots plan h.queue rfl still

/-- The plan forms a frame (R117). -/
theorem LoneBackoff.exec_of_sends {f : Frame} (plan : planSlot k (s.expired k) = sendFrame k f (s.expired k)) :
    exec (.backoffExpiry k) s = .next (writeSlot k { s.expiredSlot k with phase := .send, frame := some f } s) := by
  rw [sendFrame, expired_slot] at plan
  exact h.exec_of_writes plan nofun

section
variable {v : VarNum} (var : c.body.var? = some v) (plain : c.body.code ≠ .unhold)
include var plain

theorem LoneBackoff.exec_of_bound (bound : s.boundVar = some v) : exec (.backoffExpiry k) s = .next (writeSlot k
    { s.expiredSlot k with
      waiting := some .binding, entry := s.tracker.slots[k].entry.filter fun i => s.copy.entries[i].tag == some v } s) := by
  have plan := (planSlot_of_var h.carries var plain).trans (planVar_of_bound (s := s.expired k) bound)
  have slots : waitFor k .binding (forgetEntry k v (s.expired k)) = writeSlot k { s.expiredSlot k with
      waiting := some .binding, entry := s.tracker.slots[k].entry.filter fun i => s.copy.entries[i].tag == some v } s := by
    rw [waitFor, forgetEntry, expired_slot, writeSlot_same, writeSlot_writeSlot, writeSlot_expired]
    rfl
  refine h.exec_of_plan (plan.trans slots) h.queue fun j => ?_
  by_cases same : j = k
  · subst same
    have named : State.slotVar (writeSlot j { s.expiredSlot j with
        waiting := some .binding, entry := s.tracker.slots[j].entry.filter fun i => s.copy.entries[i].tag == some v } s) j =
        some v := by
      refine (slotVar_of_some (c := c) ?_).trans var
      rw [writeSlot_same]
      exact h.command
    rw [State.due, writeSlot_same]
    simp only [waitEnded, named]
    have still : (State.boundVar (writeSlot j { s.expiredSlot j with
        waiting := some .binding, entry := s.tracker.slots[j].entry.filter fun i => s.copy.entries[i].tag == some v } s) !=
        some v) = false := by
      show (s.boundVar != some v) = false
      rw [bound]
      simp
    rw [still, Bool.false_and, Bool.and_false]
  · exact not_due_of_not_plan (by rw [writeSlot_other same, h.others j same]; nofun)

variable (free : s.boundVar ≠ some v)
include free

theorem LoneBackoff.exec_of_home_tenure {kind : Kind} (home : homeOf v = s.nodeId) (foreign : c.body.code ≠ .release)
    (needs : homeTenure c.body (s.record v).state = some kind) : exec (.backoffExpiry k) s =
      .next (writeSlot k { s.expiredSlot k with phase := .send, frame := some (varFrame kind v) } s) :=
  h.exec_of_sends ((planSlot_of_var h.carries var plain).trans
    ((planVar_of_home (s := s.expired k) free home foreign).trans (planHome_of_tenure (s := s.expired k) needs)))

end

end

/-- The tenure of a GUARD on an own LENT record, and of one that goes PRIVATE on a SHARED record (R21). -/
theorem homeTenure_of_guard {b : Body} {v : VarNum} {g : Guard} (body : b = .guard v g) (raises : g ≠ .openAccess) :
    (∀ n, homeTenure b (.lent n) = some .own) ∧ (g = .privateAccess → homeTenure b .shared = some .purge) := by
  subst body
  cases g with
  | openAccess => exact absurd rfl raises
  | homeOnly => exact ⟨fun _ => rfl, nofun⟩
  | privateAccess => exact ⟨fun _ => rfl, fun _ => rfl⟩

theorem body_of_load {b : Body} {v : VarNum} (load : b.code = .load) (var : b.var? = some v) : b = .load v := by
  cases b <;> cases load
  exact congrArg Body.load (Option.some.inj var)

theorem body_of_release {b : Body} {v : VarNum} (release : b.code = .release) (var : b.var? = some v) : b = .release v := by
  cases b <;> cases release
  exact congrArg Body.release (Option.some.inj var)

theorem plain_of_writer {x : Code} (writes : x = .store ∨ x = .swap ∨ x = .hold) : x ≠ .unhold ∧ x ≠ .release := by
  obtain rfl | rfl | rfl := writes <;> exact ⟨nofun, nofun⟩

theorem not_unhold_of_needsEntry {x : Code} (needs : x.needsEntry) : x ≠ .unhold := by
  obtain rfl | rfl | rfl | rfl := needs <;> nofun

/-- The barrier offers the lowest entry left to it (R187). -/
theorem LoneBackoff.exec_of_offer {s : State} {k : SlotIx} {c : Command} (h : LoneBackoff s k c)
    (barrier : c.body = .flush ∨ c.body = .leave) (free : s.boundVar = none)
    (unreserved : ∀ i : EntryIx, s.copy.entries[i].reservedBy = none) {i : EntryIx} {w : VarNum}
    (offers : (List.finRange 32).find? (offeredApart s s.tracker.slots[k].stranded) = some i)
    (tag : s.copy.entries[i].tag = some w) : exec (.backoffExpiry k) s = .next ((writeSlot k { s.expiredSlot k with
      phase := .send
      frame := some (varFrame (giveBackKind s.copy.entries[i]) w)
      entry := some i
      stranded := s.tracker.slots[k].stranded.filter fun m => s.copy.entries[m].exclusive } s).setCopy (copiesDropped s.copy)) := by
  have slot := expired_slot s k
  have list : (s.expired k).tracker.slots[k].stranded = s.tracker.slots[k].stranded := by rw [slot]; rfl
  have same : offeredApart (s.expired k) = offeredApart s := by
    funext l m
    rw [offeredApart, offeredApart, offered_congr (s := s) (t := s.expired k) rfl rfl]
  have drain := planDrain_offers (s := s.expired k) (k := k) free unreserved (by rw [list, same]; exact offers) tag c.body
  rw [State.prunedSlot, slot, writeSlot_expired] at drain
  exact h.exec_of_slots ((planSlot_of_barrier h.carries barrier).trans drain) h.queue rfl nofun

section
variable {s : State} {k : SlotIx} {c : Command} {v : VarNum} (h : LoneBackoff s k c) (var : c.body.var? = some v)
  (free : s.boundVar ≠ some v)
include h var free

/-- A LOAD of an own record that is not LENT ends locally (R103, R118). -/
theorem LoneBackoff.exec_of_load (home : homeOf v = s.nodeId) (load : c.body.code = .load)
    (unlent : (s.record v).state.isLent = false) (unreserved : ∀ i : EntryIx, s.copy.entries[i].reservedBy = none) :
    exec (.backoffExpiry k) s = .next ((writeSlot k Slot.idle s).setCompletion { s.completion with
      queue := s.completion.queue ++
        [⟨c.tag, .load, .var v, .ok, s.tracker.slots[k].tenures, some (s.record v).value, none⟩] }) := by
  have body := body_of_load load var
  have runs : homeTenure c.body (s.record v).state = none := by
    rw [body]
    cases state : (s.record v).state with
    | quiet => rfl
    | shared => rfl
    | lent n => rw [state] at unlent; cases unlent
  have plan := (planSlot_of_var h.carries var (by rw [load]; nofun)).trans
    ((planVar_of_home (s := s.expired k) free home (by rw [load]; nofun)).trans
      (planHome_of_applied (s := s.expired k) runs (applyHome_of_load body)))
  have done := complete_of_unreserved (s := s.expired k) h.carries (fun e => by
    show s.copy.entries[e].reservedBy ≠ _
    rw [unreserved e]
    nofun) ⟨.ok, some (s.record v).value⟩ none
  rw [expired_slot, slotRecord, body] at done
  refine (h.exec_of_slots (z := Slot.idle) (plan.trans done) h.queue ?_ nofun).trans (congrArg Host.Outcome.next ?_)
  · exact slots_set_set s.tracker.slots k _ Slot.idle
  · exact congrArg (State.setCompletion · _) (writeSlot_expired k Slot.idle s)

section
variable (foreign : homeOf v ≠ s.nodeId)
include foreign

theorem LoneBackoff.exec_of_claim {i : EntryIx} (writes : c.body.code = .store ∨ c.body.code = .swap ∨ c.body.code = .hold)
    (entry : s.entryOf v = some i) (state : s.copy.entries[i].state = .copy) (unreserved : s.copy.entries[i].reservedBy = none) :
    exec (.backoffExpiry k) s = .next (writeSlot k { s.expiredSlot k with
      phase := .send, entry := some i, frame := some (varFrame .claim v), waiting := none } s) := by
  have plan := (planSlot_of_var h.carries var (plain_of_writer writes).1).trans
    (planVar_of_claim (s := s.expired k) free foreign writes entry state unreserved)
  rw [expired_slot] at plan
  exact h.exec_of_writes plan nofun

theorem LoneBackoff.exec_of_give {i : EntryIx} (release : c.body.code = .release) (notHeld : s.held v = false)
    (entry : s.entryOf v = some i) (state : s.copy.entries[i].state = .owned ∨ s.copy.entries[i].state = .dirty)
    (unreserved : s.copy.entries[i].reservedBy = none) :
    exec (.backoffExpiry k) s = .next (writeSlot k { s.expiredSlot k with
      phase := .send, entry := some i, frame := some (varFrame (giveBackKind s.copy.entries[i]) v), waiting := none } s) := by
  have plan := (planSlot_of_var h.carries var (by rw [release]; nofun)).trans
    (planVar_of_give (s := s.expired k) free foreign (body_of_release release var) notHeld entry state unreserved)
  rw [expired_slot] at plan
  exact h.exec_of_writes plan nofun

section
variable (needs : c.body.code.needsEntry)
include needs

theorem LoneBackoff.exec_of_fetch {i : EntryIx} (entry : s.entryOf v = some i) (state : s.copy.entries[i].state = .none)
    (reserved : s.copy.entries[i].reservedBy = some k) :
    exec (.backoffExpiry k) s = .next (writeSlot k { s.expiredSlot k with
      phase := .send, entry := some i, frame := some (varFrame (fetchFor c) v), waiting := none } s) := by
  have plan := (planSlot_of_var h.carries var (not_unhold_of_needsEntry needs)).trans
    (planVar_of_fetch (s := s.expired k) free foreign needs entry state reserved)
  rw [expired_slot] at plan
  exact h.exec_of_writes plan nofun

variable (untagged : ∀ i : EntryIx, s.copy.entries[i].tag ≠ some v)
include untagged

theorem LoneBackoff.exec_of_victim {i : EntryIx} {w : VarNum} (victim : s.tracker.slots[k].victim = some i)
    (tag : s.copy.entries[i].tag = some w) (own : s.copy.entries[i].exclusive = true) :
    exec (.backoffExpiry k) s = .next (writeSlot k { s.expiredSlot k with
      phase := .send, entry := none, frame := some (varFrame (giveBackKind s.copy.entries[i]) w), waiting := none } s) := by
  have plan := (planSlot_of_var h.carries var (not_unhold_of_needsEntry needs)).trans
    (planVar_of_victim (s := s.expired k) free foreign needs untagged (by rw [expired_slot]; exact victim) tag own)
  rw [expired_slot] at plan
  exact h.exec_of_writes plan nofun

theorem LoneBackoff.exec_of_free {i : EntryIx} (victim : s.tracker.slots[k].victim = none) (found : s.freeEntry = some i) :
    exec (.backoffExpiry k) s = .next (writeEntry i { s.copy.entries[i] with tag := some v, reservedBy := some k }
      (writeSlot k { s.expiredSlot k with
        phase := .send, entry := some i, frame := some (varFrame (fetchFor c) v), waiting := none } s)) := by
  have plan := (planSlot_of_var h.carries var (not_unhold_of_needsEntry needs)).trans
    (planVar_of_free (s := s.expired k) free foreign needs untagged (by rw [expired_slot]; exact victim) found)
  have unvictim : { s.expiredSlot k with
      phase := .send, entry := some i, victim := none, frame := some (varFrame (fetchFor c) v), waiting := none } =
      { s.expiredSlot k with phase := .send, entry := some i, frame := some (varFrame (fetchFor c) v), waiting := none } := by
    rw [State.expiredSlot, ← victim]
  rw [expired_slot, writeSlot_expired, unvictim] at plan
  exact h.exec_of_slots plan h.queue rfl nofun

theorem LoneBackoff.exec_of_oldest {i : EntryIx} {w : VarNum} (victim : s.tracker.slots[k].victim = none)
    (full : s.freeEntry = none) (oldest : s.oldestVictim k = some i) (tag : s.copy.entries[i].tag = some w)
    (own : s.copy.entries[i].exclusive = true) :
    exec (.backoffExpiry k) s = .next (writeEntry i { s.copy.entries[i] with reservedBy := some k }
      (writeSlot k { s.expiredSlot k with
        phase := .send, entry := none, victim := some i, frame := some (varFrame (giveBackKind s.copy.entries[i]) w),
        waiting := none } s)) := by
  have oldest' : (s.expired k).oldestVictim k = some i :=
    (oldestVictim_congr (s := s) (t := s.expired k) rfl rfl rfl fun j other => writeSlot_other other _ s).trans oldest
  have plan := (planSlot_of_var h.carries var (not_unhold_of_needsEntry needs)).trans
    (planVar_of_oldest (s := s.expired k) free foreign needs untagged (by rw [expired_slot]; exact victim) full oldest' tag own)
  rw [expired_slot, writeSlot_expired] at plan
  exact h.exec_of_slots plan h.queue rfl nofun

end

end

end

/-- Settles O53. -/
theorem backoffExpiryPlans : Obligations.BackoffExpiryPlans := by
  intro s k por
  refine ⟨exec_backoffExpiry_of_other por, ?_⟩
  intro c command queue others phase x put sends back own
  have h : LoneBackoff s k c := ⟨por, command, queue, others, phase⟩
  have exclusive : ∀ i : EntryIx, own i → s.copy.entries[i].exclusive = true := fun i mine => by
    obtain owned | dirty := mine
    · rw [CopyEntry.exclusive, owned]; rfl
    · rw [CopyEntry.exclusive, dirty]; rfl
  refine ⟨fun mask words notice => ?_, fun join => ?_, fun v var plain bound => ?_, fun v var home free => ?_,
    fun v var foreign free => ?_, fun barrier free unreserved => ?_⟩
  · exact h.exec_of_sends (planSlot_of_notice h.carries notice)
  · exact h.exec_of_sends (planSlot_of_join h.carries join)
  · exact h.exec_of_bound var plain bound
  · have tenure : ∀ kind, c.body.code ≠ .unhold → c.body.code ≠ .release → homeTenure c.body (s.record v).state = some kind →
        exec (.backoffExpiry k) s = .next (sends ⟨kind, v.setWidth 16, []⟩ x.entry) := fun kind plain kept needs =>
      h.exec_of_home_tenure var plain free home kept needs
    have sent : ∀ kind, c.body.code ≠ .unhold ∧ c.body.code ≠ .release ∧ homeTenure c.body (s.record v).state = some kind →
        exec (.backoffExpiry k) s = .next (sends ⟨kind, v.setWidth 16, []⟩ x.entry) := fun kind ⟨plain, kept, needs⟩ =>
      tenure kind plain kept needs
    refine ⟨fun load unlent unreserved => ?_, fun load lent => ?_, fun writer shared => ?_, fun writer lent => ?_⟩
    · exact h.exec_of_load var free home load unlent unreserved
    · obtain ⟨n, state⟩ := isLent_iff.mp lent
      exact sent .read ⟨by rw [load]; nofun, by rw [load]; nofun, by rw [body_of_load load var, state]; rfl⟩
    · rw [← or_assoc, ← or_assoc, or_assoc (a := c.body.code = .store)] at writer
      obtain writes | guard := writer
      · obtain ⟨plain, kept⟩ := plain_of_writer writes
        exact sent .purge ⟨plain, kept, by rw [shared]; exact (homeTenure_of_writer writes).1⟩
      · exact sent .purge ⟨by rw [guard]; nofun, by rw [guard]; nofun,
          by rw [shared]; exact (homeTenure_of_guard guard nofun).2 rfl⟩
    · obtain ⟨n, state⟩ := isLent_iff.mp lent
      rw [← or_assoc, ← or_assoc, or_assoc (a := c.body.code = .store)] at writer
      obtain writes | guard | guard := writer
      · obtain ⟨plain, kept⟩ := plain_of_writer writes
        exact sent .own ⟨plain, kept, by rw [state]; exact (homeTenure_of_writer writes).2 n⟩
      · exact sent .own ⟨by rw [guard]; nofun, by rw [guard]; nofun,
          by rw [state]; exact (homeTenure_of_guard guard nofun).1 n⟩
      · exact sent .own ⟨by rw [guard]; nofun, by rw [guard]; nofun,
          by rw [state]; exact (homeTenure_of_guard guard nofun).1 n⟩
  · exact ⟨fun i entry => ⟨(h.exec_of_fetch var free foreign · entry), (h.exec_of_claim var free foreign · entry),
      (h.exec_of_give var free foreign · · entry)⟩, fun untagged needs =>
        ⟨fun i w victim tag mine => h.exec_of_victim var free foreign needs untagged victim tag (exclusive i mine),
          fun i => h.exec_of_free var free foreign needs untagged, fun i w victim full oldest tag mine =>
            h.exec_of_oldest var free foreign needs untagged victim full oldest tag (exclusive i mine)⟩⟩
  · intro offers' i w offers lowest tag
    have same : ∀ m, offers' m = offeredApart s s.tracker.slots[k].stranded m := fun m =>
      congrArg (· && !s.tracker.slots[k].stranded.contains m) (offered_eq s m)
    have run := h.exec_of_offer barrier free unreserved
      (find_finRange ((same i).symm.trans offers) fun j lt => (same j).symm.trans (lowest j lt)) tag
    rw [copiesDropped] at run
    exact run

end Sys2Proof.Machine

/-!
PROOF. No plan and no start puts a slot in BACKOFF (R116, R117, R125, R129): a back-off begins at an unsuccessful attempt only.
-/

namespace Sys2Proof.Machine

/-- No slot is in BACKOFF. -/
def State.noBackoff (s : State) : Prop := ∀ j : SlotIx, s.tracker.slots[j].phase ≠ .backoff

section
variable {s : State}

theorem State.noBackoff.ofTracker {t : State} (h : s.noBackoff) (tracker : t.tracker = s.tracker) : t.noBackoff := fun j => by
  rw [tracker]
  exact h j

theorem State.noBackoff.writeSlot (h : s.noBackoff) (k : SlotIx) {x : Slot} (phase : x.phase ≠ .backoff) :
    (writeSlot k x s).noBackoff := fun j => by
  rw [writeSlot_slot]
  split
  · exact phase
  · exact h j

theorem State.noBackoff.waitFor (h : s.noBackoff) (k : SlotIx) (w : Waiting) : (waitFor k w s).noBackoff := h.writeSlot k nofun

theorem State.noBackoff.sendFrame (h : s.noBackoff) (k : SlotIx) (f : Frame) : (sendFrame k f s).noBackoff :=
  h.writeSlot k nofun

theorem State.noBackoff.useEntry (h : s.noBackoff) (k : SlotIx) (i : EntryIx) : (useEntry k i s).noBackoff := h.writeSlot k (h k)

theorem State.noBackoff.complete (h : s.noBackoff) (k : SlotIx) (r : CmdResult) (d : Option NodeMask) :
    (complete k r d s).noBackoff := fun j => by
  rw [complete_slot]
  split
  · nofun
  · exact h j

theorem State.noBackoff.vacate (h : s.noBackoff) (i : EntryIx) : (vacate i s).noBackoff := fun j => by
  rw [vacate_slot]
  split <;> exact h j

theorem State.noBackoff.removeHold (h : s.noBackoff) (r : HoldIx) : (removeHold r s).noBackoff := fun j => by
  rw [removeHold_eq]
  show (wokenSlots s.tracker.slots)[j].phase ≠ _
  rw [wokenSlots_get]
  split <;> exact h j

theorem enterHold_tracker (v : VarNum) (tag : Tag) (d : BitVec 8) (s : State) : (enterHold v tag d s).1.tracker = s.tracker := by
  unfold enterHold
  split
  · rfl
  · split <;> rfl

theorem applyHome_tracker (c : Command) (v : VarNum) (s : State) : (applyHome c v s).1.tracker = s.tracker := by
  unfold applyHome
  split
  · exact enterHold_tracker _ _ _ s
  · rfl
  · split
    · simp only
      split <;> rfl
    · rfl

theorem applyCopy_tracker (c : Command) (v : VarNum) (i : EntryIx) (s : State) : (applyCopy c v i s).1.tracker = s.tracker := by
  unfold applyCopy
  split
  · exact (promote_tracker _ _).trans (enterHold_tracker _ _ _ s)
  · split
    · exact promote_tracker _ _
    · rfl

theorem State.noBackoff.completeApplied {p : State × Option CmdResult} (h : p.1.noBackoff) (k : SlotIx) :
    (completeApplied k p).noBackoff := by
  unfold Machine.completeApplied
  split
  · exact h.complete _ _ _
  · exact h

theorem State.noBackoff.planHome (h : s.noBackoff) (k : SlotIx) (c : Command) (v : VarNum) : (planHome k c v s).noBackoff := by
  unfold Machine.planHome
  split
  · exact (h.ofTracker (applyHome_tracker c v s)).completeApplied k
  · exact h.sendFrame _ _

theorem State.noBackoff.planEvict (h : s.noBackoff) (k : SlotIx) (b : Body) (v : VarNum) (j : EntryIx) :
    (planEvict k b v j s).noBackoff := by
  unfold Machine.planEvict
  simp only
  split
  · exact h.sendFrame _ _
  · exact (h.vacate j).sendFrame _ _

theorem State.noBackoff.reserveFetch (h : s.noBackoff) (k : SlotIx) (i : EntryIx) (v : VarNum) : (reserveFetch k i v s).noBackoff := by
  unfold Machine.reserveFetch
  exact State.noBackoff.writeSlot (h.ofTracker rfl) k (h k)

theorem State.noBackoff.reserveVictim (h : s.noBackoff) (k : SlotIx) (i : EntryIx) : (reserveVictim k i s).noBackoff := by
  unfold Machine.reserveVictim
  exact State.noBackoff.writeSlot (h.ofTracker rfl) k (h k)

theorem State.noBackoff.allocate (h : s.noBackoff) (k : SlotIx) (b : Body) (v : VarNum) : (allocate k b v s).noBackoff := by
  unfold Machine.allocate
  split
  · exact (h.reserveFetch _ _ _).sendFrame _ _
  · split
    · exact (h.reserveVictim _ _).planEvict _ _ _ _
    · exact h.complete _ _ _

theorem State.noBackoff.planCopy (h : s.noBackoff) (k : SlotIx) (c : Command) (v : VarNum) : (planCopy k c v s).noBackoff := by
  have hit : ∀ i, (Machine.completeApplied k (applyCopy c v i (Machine.useEntry k i s))).noBackoff := fun i =>
    ((h.useEntry k i).ofTracker (applyCopy_tracker c v i _)).completeApplied k
  unfold Machine.planCopy
  split
  · split
    · exact h.waitFor _ _
    · split
      · exact (h.useEntry _ _).sendFrame _ _
      · exact hit _
      · exact (h.useEntry _ _).sendFrame _ _
      · exact hit _
  · split
    · split
      · exact h.waitFor _ _
      · exact h.planEvict _ _ _ _
    · exact h.allocate _ _ _

theorem State.noBackoff.planRelease (h : s.noBackoff) (k : SlotIx) (v : VarNum) : (planRelease k v s).noBackoff := by
  unfold Machine.planRelease
  split
  · exact h.complete _ _ _
  · split
    · exact h.complete _ _ _
    · split
      · exact h.complete _ _ _
      · split
        · exact h.waitFor _ _
        · split
          · exact h.complete _ _ _
          · exact (h.vacate _).complete _ _ _
          · exact (h.useEntry _ _).sendFrame _ _

theorem State.noBackoff.leaveFinal (h : s.noBackoff) (k : SlotIx) : (leaveFinal k s).noBackoff := by
  have discarded : ((countDiscards (s.strandedLeft s.tracker.slots[k].stranded).length
      (discardStranded s.tracker.slots[k].stranded s)).setParticipation .offline).noBackoff := by
    refine h.ofTracker ?_
    rw [State.setParticipation_tracker, countDiscards_tracker, discardStranded_tracker]
  unfold Machine.leaveFinal
  exact (discarded.complete k _ _).ofTracker (cancelQueue_tracker _)

theorem State.noBackoff.barrierEnd (h : s.noBackoff) (k : SlotIx) (b : Body) : (barrierEnd k b s).noBackoff := by
  unfold Machine.barrierEnd
  split
  · split
    · exact h.waitFor _ _
    · exact h.leaveFinal k
  · exact h.complete _ _ _

theorem State.noBackoff.planDrain (h : s.noBackoff) (k : SlotIx) (b : Body) : (planDrain k b s).noBackoff := by
  have dropped : (Machine.dropCopies s).noBackoff := h.ofTracker (dropCopies_tracker s)
  have pruned : (pruneStranded k (Machine.dropCopies s)).noBackoff := dropped.writeSlot k (dropped k)
  unfold Machine.planDrain drainStep
  split
  · exact pruned.waitFor _ _
  · split
    · exact pruned.waitFor _ _
    · split
      · exact (pruned.useEntry _ _).sendFrame _ _
      · exact pruned.barrierEnd _ _
  · split
    · exact pruned.waitFor _ _
    · exact pruned.barrierEnd _ _

theorem State.noBackoff.planWokenBelow (h : s.noBackoff) (k : SlotIx) : (planWokenBelow k s).noBackoff := by
  have one : ∀ (j : SlotIx) (t : State), t.noBackoff → (planWoken j t).noBackoff := fun j t calm => by
    unfold planWoken
    split
    · exact calm.planDrain _ _
    · exact calm.planDrain _ _
    · exact calm
  have fold : ∀ (l : List SlotIx) (t : State), t.noBackoff →
      (l.foldl (fun s j => if j < k then planWoken j s else s) t).noBackoff := by
    intro l
    induction l with
    | nil => exact fun _ calm => calm
    | cons j rest ih =>
      intro t calm
      rw [List.foldl_cons]
      split
      · exact ih _ (one j t calm)
      · exact ih _ calm
  exact fold _ s h

theorem State.noBackoff.planVar (h : s.noBackoff) (k : SlotIx) (c : Command) (v : VarNum) : (planVar k c v s).noBackoff := by
  have forgotten : (forgetEntry k v s).noBackoff := h.writeSlot k (h k)
  unfold Machine.planVar
  split
  · exact forgotten.waitFor _ _
  · split
    · exact forgotten.planRelease _ _
    · exact h.planHome _ _ _
    · split
      · exact h.planHome _ _ _
      · exact forgotten.planCopy _ _ _

theorem State.noBackoff.planUnhold (h : s.noBackoff) (k : SlotIx) (v : VarNum) : (planUnhold k v s).noBackoff := by
  unfold Machine.planUnhold
  split
  · exact (State.noBackoff.planWokenBelow ((h.removeHold _).ofTracker (freeCredits_tracker 1 _)) k).complete _ _ _
  · exact h.complete _ _ _

theorem State.noBackoff.planSlot (h : s.noBackoff) (k : SlotIx) : (planSlot k s).noBackoff := by
  unfold Machine.planSlot
  split
  · exact h.writeSlot k nofun
  · split
    · exact h.planUnhold _ _
    · exact h.sendFrame _ _
    · exact h.sendFrame _ _
    · exact h.planDrain _ _
    · exact h.planDrain _ _
    all_goals exact h.planVar _ _ _

theorem State.noBackoff.startNext (h : s.noBackoff) {t : State} (starts : startNext s = some t) : t.noBackoff := fun j => by
  obtain ⟨k, c, rest, _, _, _, _, rfl⟩ := startNext_cases starts
  rw [startSlot_slot]
  split
  · nofun
  · exact h j

/-- The plans and starts that end an event leave no slot in BACKOFF that was not. -/
theorem State.noBackoff.settle (h : s.noBackoff) : (settle s).noBackoff :=
  settle_keeps State.noBackoff (fun k _ calm => calm.planSlot k) (fun _ _ calm starts => calm.startNext starts) s h

end

end Sys2Proof.Machine

/-!
PROOF. One microsecond of the timebase: a hold's timer, a wait and a pulse, a back-off (R86, R87, R90, R129, R140; log entry 2).
-/

namespace Sys2Proof.Machine

/-! ## The rounds of expiries -/

theorem foldl_of_fixed {α β : Type} {f : α → β → α} {a : α} (fixed : ∀ b, f a b = a) (l : List β) : l.foldl f a = a := by
  induction l with
  | nil => rfl
  | cons b rest ih => rw [List.foldl_cons, fixed b, ih]

/-- A round in which one member alone does anything. -/
theorem foldl_of_one {α β : Type} {f : α → β → α} {a c : α} {b : β} (before : ∀ x, x ≠ b → f a x = a) (at_b : f a b = c)
    (after : ∀ x, f c x = c) : ∀ l : List β, b ∈ l → l.foldl f a = c
  | x :: rest, mem => by
    rw [List.foldl_cons]
    by_cases same : x = b
    · rw [same, at_b, foldl_of_fixed after]
    · rw [before x same]
      exact foldl_of_one before at_b after rest ((List.mem_cons.mp mem).resolve_left (Ne.symm same))

theorem expireHold_of_running {s : State} {r : HoldIx} (h : ∀ x, s.holds[r] = some x → x.remaining ≠ 0) : expireHold s r = s := by
  rw [expireHold]
  cases active : s.holds[r] with
  | none => rfl
  | some x => exact if_neg (h x active)

theorem expireBackoff_of_other {s : State} {k : SlotIx} (h : s.tracker.slots[k].phase = .backoff → s.tracker.slots[k].backoff ≠ 0) :
    expireBackoff s k = s := by
  rw [expireBackoff]
  split
  · rename_i out
    exact if_neg fun backoff => h backoff out
  · rfl

/-- No slot of the state is in BACKOFF with its time run out. -/
theorem expireBackoffs_of_none {s : State} (h : s.noBackoff) : (List.finRange 4).foldl expireBackoff s = s :=
  foldl_of_fixed (fun k => expireBackoff_of_other fun backoff => absurd backoff (h k)) _

theorem expireWait_of_none {s : State} (h : s.link.wait = none) : expireWait s = s := by
  rw [expireWait, h]

theorem takeLeaveFinal_of_no_wait {s : State} (h : ∀ k : SlotIx, s.tracker.slots[k].waiting ≠ some .tenureEnd) :
    takeLeaveFinal s = s := by
  refine takeLeaveFinal_of_none ?_
  rw [State.leaveDue]
  split
  · rfl
  · rw [List.find?_eq_none]
    intro k _
    rw [beq_false_of_ne (h k), Bool.false_and]
    exact Bool.false_ne_true

/-! ## The timers -/

/-- The timers' tick, the hold table and the slots named. -/
theorem runTimers_of_tables {s : State} {holds : Vector (Option HoldRecord) 4} {slots : Vector Slot 4}
    (holdsTick : ∀ r : HoldIx, holds[r] = (s.holds[r]).map HoldRecord.tick)
    (slotsTick : ∀ k : SlotIx, slots[k] = (s.tracker.slots[k]).tick) : runTimers s =
      ((s.setHolds holds).setTracker { s.tracker with slots := slots }).setLink { s.link with
        wait := s.link.wait.map fun w => { w with remaining := w.remaining - 1 }
        pulse := s.link.pulse - 1 } := by
  have h1 : (Vector.ofFn fun r : HoldIx => (s.holds[r]).map HoldRecord.tick) = holds := Vector.ext fun i lt => by
    rw [Vector.getElem_ofFn]
    exact (holdsTick ⟨i, lt⟩).symm
  have h2 : (Vector.ofFn fun k : SlotIx => (s.tracker.slots[k]).tick) = slots := Vector.ext fun i lt => by
    rw [Vector.getElem_ofFn]
    exact (slotsTick ⟨i, lt⟩).symm
  rw [runTimers, h1, h2]

section
variable {s : State} (pending : s.pending = []) (por : s.por = false)
include pending por

/-- The idle step where no LEAVE waits for its final step: the timers run, then what has run out expires. -/
theorem step_idle (noLeave : ∀ k : SlotIx, s.tracker.slots[k].waiting ≠ some .tenureEnd) : step s =
    .next (expireWait ((List.finRange 4).foldl expireBackoff ((List.finRange 4).foldl expireHold (runTimers s)))) := by
  have idle : step s = .next (idleStep s) := by rw [step, pending]
  rw [idle, idleStep, if_neg (by rw [por]; exact Bool.false_ne_true), tick, takeLeaveFinal_of_no_wait noLeave]

variable (noHold : ∀ r : HoldIx, s.holds[r] = none)
include noHold

theorem map_tick_of_none (r : HoldIx) : s.holds[r] = (s.holds[r]).map HoldRecord.tick := by
  rw [noHold r]
  rfl

/-- With no hold active the holds take no part in an idle step. -/
theorem step_of_no_hold {slots : Vector Slot 4} (noLeave : ∀ k : SlotIx, s.tracker.slots[k].waiting ≠ some .tenureEnd)
    (slotsTick : ∀ k : SlotIx, slots[k] = (s.tracker.slots[k]).tick) : step s =
      .next (expireWait ((List.finRange 4).foldl expireBackoff ((s.setTracker { s.tracker with slots := slots }).setLink { s.link with
        wait := s.link.wait.map fun w => { w with remaining := w.remaining - 1 }
        pulse := s.link.pulse - 1 }))) := by
  have timers := runTimers_of_tables (map_tick_of_none pending por noHold) slotsTick
  have running : (List.finRange 4).foldl expireHold (runTimers s) = runTimers s := foldl_of_fixed (fun r =>
    expireHold_of_running fun x active => by
      have none' : (runTimers s).holds[r] = none := by
        rw [timers]
        exact noHold r
      rw [none'] at active
      cases active) _
  rw [step_idle pending por noLeave, running, timers]
  rfl

end

theorem tick_idle : Slot.idle.tick = Slot.idle := rfl

theorem noBackoff_of_idle {s : State} (idle : ∀ k : SlotIx, s.tracker.slots[k] = Slot.idle) : s.noBackoff := fun k => by
  rw [idle k]
  nofun

/-! ## A wait and a pulse -/

/-- The wait once this node has pulsed link clear (R81, R88). -/
theorem wait_of_pulseAndAbort (d : Delivery) (s : State) :
    (pulseAndAbort d s).link.wait = none ∨ (pulseAndAbort d s).link.wait = s.link.wait := by
  obtain ⟨_, e⟩ | ⟨_, e⟩ := abortLink_cases d (drivePulse s)
  · have same := (sameOutside_slotTurns (drivePulse s).link.sender d (dropBuffers (countLinkClear (clearLink (drivePulse s))))).link
    refine .inl ?_
    rw [pulseAndAbort, e]
    exact congrArg LinkUnit.wait same
  · refine .inr ?_
    rw [pulseAndAbort, e]
    rfl

section
variable {s : State} {w : Wait} (wait : s.link.wait = some w)
include wait

theorem expireWait_of_running (running : w.remaining ≠ 0) : expireWait s = s := by
  rw [expireWait, wait]
  exact if_neg running

theorem expireWait_of_handshake (out : w.remaining = 0) (kind : w.kind ≠ .noticeResponse) : expireWait s = handshakeExpires s := by
  have expires : handshakeExpires s = pulseAndAbort .handshakeExpired s := by
    rw [handshakeExpires, wait]
    exact if_neg kind
  have still : ∀ t : State, t.link.wait = none ∨ t.link.wait = s.link.wait → noticeWaitExpires t = t := by
    rintro t (none' | same)
    · rw [noticeWaitExpires, none']
    · rw [noticeWaitExpires, same, wait]
      exact if_neg kind
  rw [expireWait, wait]
  refine (if_pos out).trans ?_
  rw [expires]
  exact still _ (wait_of_pulseAndAbort .handshakeExpired s)

theorem expireWait_of_notice (out : w.remaining = 0) (kind : w.kind = .noticeResponse) : expireWait s = noticeWaitExpires s := by
  have same : handshakeExpires s = s := by
    rw [handshakeExpires, wait]
    exact if_pos kind
  rw [expireWait, wait]
  refine (if_pos out).trans ?_
  rw [same]

end

/-! ## A hold's timer -/

/-- With nothing timed on the link its part of a microsecond changes nothing. -/
theorem link_untimed {l : LinkUnit} (wait : l.wait = none) (pulse : l.pulse = 0) : { l with
    wait := l.wait.map fun w => { w with remaining := w.remaining - 1 }
    pulse := l.pulse - 1 } = l := by
  cases l
  cases wait
  cases pulse
  rfl

theorem tick_of_lone {s : State} {r : HoldIx} {h : HoldRecord} (active : s.holds[r] = some h)
    (alone : ∀ q : HoldIx, q ≠ r → s.holds[q] = none) (q : HoldIx) :
    (s.holds.set r (some h.tick))[q] = (s.holds[q]).map HoldRecord.tick := by
  rw [holds_set]
  split
  · rename_i same
    rw [← same, active]
    rfl
  · rename_i other
    rw [alone q (Ne.symm other)]
    rfl

/-- A lone hold at rest: its timer runs, and it may expire (R140, R141). -/
theorem step_of_lone_hold {s : State} {r : HoldIx} {h : HoldRecord} (pending : s.pending = []) (rest : s.atRest)
    (wait : s.link.wait = none) (pulse : s.link.pulse = 0) (active : s.holds[r] = some h)
    (alone : ∀ q : HoldIx, q ≠ r → s.holds[q] = none) : step s = .next (expireWait ((List.finRange 4).foldl expireBackoff
      ((List.finRange 4).foldl expireHold (s.setHolds (s.holds.set r (some h.tick)))))) := by
  obtain ⟨por, _, idle, _⟩ := rest
  have timers := runTimers_of_tables (slots := s.tracker.slots) (tick_of_lone active alone) fun k => by rw [idle k, tick_idle]
  rw [link_untimed wait pulse] at timers
  have timers' : runTimers s = s.setHolds (s.holds.set r (some h.tick)) := timers
  rw [step_idle pending por fun k => by rw [idle k]; nofun, timers']

theorem step_of_running_hold {s : State} {r : HoldIx} {h : HoldRecord} (pending : s.pending = []) (rest : s.atRest)
    (wait : s.link.wait = none) (pulse : s.link.pulse = 0) (active : s.holds[r] = some h)
    (alone : ∀ q : HoldIx, q ≠ r → s.holds[q] = none) (running : h.tick.remaining ≠ 0) :
    step s = .next (s.setHolds (s.holds.set r (some h.tick))) := by
  have ⟨_, _, idle, _⟩ := rest
  have runs : (List.finRange 4).foldl expireHold (s.setHolds (s.holds.set r (some h.tick))) =
      s.setHolds (s.holds.set r (some h.tick)) := foldl_of_fixed (fun q => expireHold_of_running fun x ticked => by
    have here : (s.holds.set r (some h.tick))[q] = some x := ticked
    rw [holds_set] at here
    split at here
    · cases here
      exact running
    · rename_i other
      rw [alone q (Ne.symm other)] at here
      cases here) _
  have calm : (s.setHolds (s.holds.set r (some h.tick))).noBackoff := noBackoff_of_idle idle
  rw [step_of_lone_hold pending rest wait pulse active alone, runs, expireBackoffs_of_none calm]
  exact congrArg Host.Outcome.next (expireWait_of_none (s := s.setHolds _) wait)

theorem step_of_hold_out {s : State} {r : HoldIx} {h : HoldRecord} (pending : s.pending = []) (rest : s.atRest)
    (wait : s.link.wait = none) (pulse : s.link.pulse = 0) (active : s.holds[r] = some h)
    (alone : ∀ q : HoldIx, q ≠ r → s.holds[q] = none) (out : h.tick.remaining = 0) :
    step s = .next ((s.setHolds (s.holds.set r none)).setCompletion { s.completion with
      queue := s.completion.queue ++ [⟨h.tag, .hold, .var h.var, .holdExpired, 0, none, none⟩] }) := by
  have ⟨por, queue, idle, unreserved⟩ := rest
  have set_set : (s.holds.set r (some h.tick)).set r none = s.holds.set r none := by simp
  have ticked : (s.holds.set r (some h.tick))[r] = some h.tick := by rw [holds_set, if_pos rfl]
  obtain ⟨u, eq⟩ : ∃ u, u = s.setHolds (s.holds.set r (some h.tick)) := ⟨_, rfl⟩
  have holdsOf : u.holds = s.holds.set r (some h.tick) := by rw [eq]; rfl
  have atR : u.holds[r] = some h.tick := by rw [holdsOf, ticked]
  have uRest : u.atRest := by rw [eq]; exact ⟨por, queue, idle, unreserved⟩
  obtain ⟨_, expires⟩ := holdExpiryPosts u r (by rw [eq]; exact por)
  obtain ⟨posts, _⟩ := expires h.tick atR
  have posted := posts uRest
  have same : holdExpires r u = (u.setHolds (u.holds.set r none)).setCompletion { u.completion with
      queue := u.completion.queue ++ [⟨h.tick.tag, .hold, .var h.tick.var, .holdExpired, 0, none, none⟩] } := by
    have run : exec (.holdExpiry r) u = .next (holdExpires r u) :=
      congrArg Host.Outcome.next (linkEvent_of_por_clear (by rw [eq]; exact por) (holdExpires r))
    exact Host.Outcome.next.inj (run.symm.trans posted)
  have named : h.tick.tag = h.tag ∧ h.tick.var = h.var := by
    rw [HoldRecord.tick]
    split <;> exact ⟨rfl, rfl⟩
  obtain ⟨t, done⟩ : ∃ t, t = (s.setHolds (s.holds.set r none)).setCompletion { s.completion with
    queue := s.completion.queue ++ [⟨h.tag, .hold, .var h.var, .holdExpired, 0, none, none⟩] } := ⟨_, rfl⟩
  have expired : expireHold u r = t := by
    rw [expireHold, atR]
    refine (if_pos out).trans ?_
    rw [same, holdsOf, set_set, named.1, named.2, eq, done]
    rfl
  have tHolds : t.holds = s.holds.set r none := by rw [done]; rfl
  have none' : ∀ q : HoldIx, t.holds[q] = none := fun q => by
    rw [tHolds, holds_set]
    split
    · rfl
    · rename_i other
      exact alone q (Ne.symm other)
  have round : (List.finRange 4).foldl expireHold u = t := by
    refine foldl_of_one (b := r) (fun q other => expireHold_of_running fun x active' => ?_) expired
      (fun q => expireHold_of_running fun x active' => ?_) _ (List.mem_finRange r)
    · rw [holdsOf, holds_set, if_neg (Ne.symm other), alone q other] at active'
      cases active'
    · rw [none' q] at active'
      cases active'
  have tIdle : t.noBackoff := by rw [done]; exact noBackoff_of_idle idle
  have tWait : t.link.wait = none := by rw [done]; exact wait
  rw [step_of_lone_hold pending rest wait pulse active alone, ← eq, round, expireBackoffs_of_none tIdle, expireWait_of_none tWait,
    done]

/-! ## A back-off -/

section
variable {s : State} {k : SlotIx} (pending : s.pending = []) (por : s.por = false) (wait : s.link.wait = none)
  (pulse : s.link.pulse = 0) (noHold : ∀ r : HoldIx, s.holds[r] = none)
  (others : ∀ j : SlotIx, j ≠ k → s.tracker.slots[j] = Slot.idle) (phase : s.tracker.slots[k].phase = .backoff)
  (waiting : s.tracker.slots[k].waiting = none)
include pending por wait pulse noHold others phase waiting

/-- A lone back-off runs one microsecond (R129). -/
theorem step_of_lone_backoff : step s = .next (expireWait ((List.finRange 4).foldl expireBackoff
    (writeSlot k { s.tracker.slots[k] with backoff := s.tracker.slots[k].backoff - 1 } s))) := by
  have noLeave : ∀ j : SlotIx, s.tracker.slots[j].waiting ≠ some .tenureEnd := fun j => by
    by_cases same : j = k
    · rw [same, waiting]
      nofun
    · rw [others j same]
      nofun
  have ticks : ∀ j : SlotIx, (s.tracker.slots.set k { s.tracker.slots[k] with backoff := s.tracker.slots[k].backoff - 1 })[j] =
      (s.tracker.slots[j]).tick := fun j => by
    rw [slots_set_get]
    by_cases same : k = j
    · subst same
      rw [if_pos rfl, Slot.tick, if_pos phase]
    · rw [if_neg same, others j (Ne.symm same), tick_idle]
  have run := step_of_no_hold pending por noHold noLeave ticks
  rw [link_untimed wait pulse] at run
  exact run

theorem step_of_backoff_running (running : 2 ≤ s.tracker.slots[k].backoff) : step s =
    .next (writeSlot k { s.tracker.slots[k] with backoff := s.tracker.slots[k].backoff - 1 } s) := by
  have round : (List.finRange 4).foldl expireBackoff
      (writeSlot k { s.tracker.slots[k] with backoff := s.tracker.slots[k].backoff - 1 } s) =
      writeSlot k { s.tracker.slots[k] with backoff := s.tracker.slots[k].backoff - 1 } s :=
    foldl_of_fixed (fun j => expireBackoff_of_other fun backoff => by
      by_cases same : j = k
      · rw [same, writeSlot_same]
        exact Nat.sub_ne_zero_of_lt running
      · rw [writeSlot_other same, others j same] at backoff
        cases backoff) _
  rw [step_of_lone_backoff pending por wait pulse noHold others phase waiting, round, expireWait_of_none (s := writeSlot k _ s) wait]

theorem step_of_backoff_out (out : s.tracker.slots[k].backoff = 1) : step s = exec (.backoffExpiry k)
    (writeSlot k { s.tracker.slots[k] with backoff := s.tracker.slots[k].backoff - 1 } s) := by
  have event : exec (.backoffExpiry k) (writeSlot k { s.tracker.slots[k] with backoff := s.tracker.slots[k].backoff - 1 } s) =
      .next (backoffExpires k (writeSlot k { s.tracker.slots[k] with backoff := s.tracker.slots[k].backoff - 1 } s)) :=
    congrArg Host.Outcome.next (linkEvent_of_por_clear (s := writeSlot k _ s) por (backoffExpires k))
  rw [step_of_lone_backoff pending por wait pulse noHold others phase waiting, event]
  obtain ⟨u, eq⟩ : ∃ u, u = writeSlot k { s.tracker.slots[k] with backoff := s.tracker.slots[k].backoff - 1 } s := ⟨_, rfl⟩
  have atK : u.tracker.slots[k] = { s.tracker.slots[k] with backoff := s.tracker.slots[k].backoff - 1 } := by
    rw [eq, writeSlot_same]
  have atOther : ∀ j : SlotIx, j ≠ k → u.tracker.slots[j] = Slot.idle := fun j other => by
    rw [eq, writeSlot_other other, others j other]
  rw [← eq]
  have calm : (replan k (writeSlot k { u.tracker.slots[k] with backoff := 0 } u)).noBackoff := fun j => by
    rw [replan, writeSlot_slot]
    split
    · nofun
    · rename_i other
      rw [writeSlot_other (Ne.symm other), atOther j (Ne.symm other)]
      nofun
  have uPhase : u.tracker.slots[k].phase = .backoff := by rw [atK]; exact phase
  have expires : backoffExpires k u = settle (replan k (writeSlot k { u.tracker.slots[k] with backoff := 0 } u)) := if_pos uPhase
  have here : expireBackoff u k = backoffExpires k u := if_pos (by rw [atK, out])
  have calm' : (backoffExpires k u).noBackoff := by rw [expires]; exact calm.settle
  have round : (List.finRange 4).foldl expireBackoff u = backoffExpires k u := by
    refine foldl_of_one (b := k) (fun j other => expireBackoff_of_other fun backoff => ?_) here
      (fun j => expireBackoff_of_other fun backoff => absurd backoff (calm' j)) _ (List.mem_finRange k)
    rw [atOther j other] at backoff
    cases backoff
  have wait' : (backoffExpires k u).link.wait = none := by
    rw [expires]
    have same := congrArg LinkUnit.wait (sameOutside_settle (replan k (writeSlot k { u.tracker.slots[k] with backoff := 0 } u))).link
    refine Eq.trans same ?_
    rw [eq]
    exact wait
  rw [round, expireWait_of_none wait']

end

/-- Settles O2. -/
theorem idleStepRunsTimebase : Obligations.IdleStepRunsTimebase := by
  refine ⟨fun s pending rest wait pulse => ⟨fun noHold => ?_, fun r h active alone => ?_⟩, fun s pending rest noHold => ?_,
    fun s k pending por wait pulse noHold others phase waiting => ?_⟩
  · have ⟨por, _, idle, _⟩ := rest
    have run := step_of_no_hold (slots := s.tracker.slots) pending por noHold (fun k => by rw [idle k]; nofun)
      (fun k => by rw [idle k, tick_idle])
    rw [link_untimed wait pulse, expireBackoffs_of_none (s := (s.setTracker _).setLink _) (noBackoff_of_idle idle),
      expireWait_of_none (s := (s.setTracker _).setLink _) wait] at run
    exact run
  · refine ⟨fun short left => ?_, fun full left => ?_, fun full left => ?_⟩
    · have ticks : h.tick = { h with micros := h.micros + 1 } := if_pos short
      have run := step_of_running_hold pending rest wait pulse active alone (by rw [ticks]; exact Nat.ne_of_gt left)
      rw [ticks] at run
      exact run
    · have ticks : h.tick = { h with micros := 0, remaining := h.remaining - 1 } := if_neg (by rw [full]; decide)
      have run := step_of_running_hold pending rest wait pulse active alone (by rw [ticks]; exact Nat.sub_ne_zero_of_lt left)
      rw [ticks] at run
      exact run
    · have ticks : h.tick = { h with micros := 0, remaining := h.remaining - 1 } := if_neg (by rw [full]; decide)
      exact step_of_hold_out pending rest wait pulse active alone (by rw [ticks, left])
  · have ⟨por, _, idle, _⟩ := rest
    have run := step_of_no_hold (slots := s.tracker.slots) pending por noHold (fun k => by rw [idle k]; nofun)
      (fun k => by rw [idle k, tick_idle])
    have calm : ∀ l, ((s.setTracker { s.tracker with slots := s.tracker.slots }).setLink l).noBackoff := fun _ => noBackoff_of_idle idle
    rw [expireBackoffs_of_none (calm _)] at run
    have linked : ∀ l, (s.setTracker { s.tracker with slots := s.tracker.slots }).setLink l = s.setLink l := fun _ => rfl
    rw [linked] at run
    refine ⟨fun wait => ?_, fun w wait => ?_⟩
    · rw [wait, expireWait_of_none (s := s.setLink _) rfl] at run
      rw [run]
      exact congrArg (fun wt => Host.Outcome.next (s.setLink { s.link with wait := wt, pulse := s.link.pulse - 1 })) wait.symm
    · rw [wait] at run
      intro ran
      have event : ∀ f, linkEvent f ran = f ran := linkEvent_of_por_clear (s := ran) por
      refine ⟨fun left => ?_, fun out kind => ?_, fun out kind => ?_⟩
      · exact run.trans (congrArg Host.Outcome.next (expireWait_of_running (s := ran) rfl (Nat.sub_ne_zero_of_lt left)))
      · exact run.trans (congrArg Host.Outcome.next
          ((expireWait_of_handshake (s := ran) rfl (Nat.sub_eq_zero_of_le out.le) kind).trans (event _).symm))
      · exact run.trans (congrArg Host.Outcome.next
          ((expireWait_of_notice (s := ran) rfl (Nat.sub_eq_zero_of_le out.le) kind).trans (event _).symm))
  · exact ⟨step_of_backoff_running pending por wait pulse noHold others phase waiting,
      step_of_backoff_out pending por wait pulse noHold others phase waiting⟩

end Sys2Proof.Machine

/-!
PROOF. A link clear observed, its release, the events that act as one, and a fall of LBUSY at a node that takes no part
(R69, R72, R73, R79, R81, R83, R88, R90 to R93).
-/

namespace Sys2Proof.Machine

theorem countLinkClear_eq (s : State) : countLinkClear s = s.setCompletion { s.completion with
    counters := { s.completion.counters with clear := satAdd s.completion.counters.clear 1 }
    latched := { s.completion.latched with linkErr := true } } := by
  simp [countLinkClear, latch, raiseCounter, Counters.set, Counters.get]
  rfl

section
variable {s : State}

theorem exec_earlyLbusyFall_of_por_clear (por : s.por = false) : exec .earlyLbusyFall s = .next (lbusyFalls s) :=
  congrArg Host.Outcome.next (wordEvent_of_por_clear por lbusyFalls followFall)

theorem abortLink_of_observed (d : Delivery) (observes : s.observesClear = true) :
    abortLink d s = slotTurns s.link.sender d (dropBuffers (countLinkClear (clearLink s))) := if_pos observes

theorem abortLink_of_unobserved (d : Delivery) (h : s.observesClear = false) : abortLink d s = clearOutside s :=
  if_neg (by rw [h]; exact Bool.false_ne_true)

/-- Without a sender a clear does not ask what its sender would receive. -/
theorem abortLink_of_no_sender (sender : s.link.sender = none) (d e : Delivery) : abortLink d s = abortLink e s := by
  have none' : ∀ d, slotTurns s.link.sender d (dropBuffers (countLinkClear (clearLink s))) =
      settle (dropBuffers (countLinkClear (clearLink s))) := fun d => by
    rw [sender]
    rfl
  rw [abortLink, abortLink, none', none']

/-- A clear that this node pulses with no tenure of its own is the clear of another node with the pulse driven (R83, R88). -/
theorem pulseAndAbort_eq (por : s.por = false) (sender : s.link.sender = none) (d : Delivery) :
    exec .linkClear (s.setLink { s.link with pulse := 2 }) = .next (pulseAndAbort d s) :=
  (exec_linkClear_of_por_clear (s := s.setLink { s.link with pulse := 2 }) por).trans
    (congrArg Host.Outcome.next (abortLink_of_no_sender (s := drivePulse s) sender .cleared d))

theorem observesClear_of_participant (h : s.inTenure = true ∨ (s.link.phase = .idle ∧ s.link.outside = .nothing ∧
    s.participation ≠ .offline ∧ s.link.lclr = false)) : s.observesClear = true := by
  rw [State.observesClear, Bool.or_eq_true]
  refine h.imp id ?_
  rintro ⟨idle, nothing, takesPart, released⟩
  rw [idle, nothing, released, bne_iff_ne.mpr takesPart]
  rfl

theorem observesClear_of_outside (idle : s.link.phase = .idle)
    (h : s.link.outside ≠ .nothing ∨ s.participation = .offline ∨ s.link.lclr = true) : s.observesClear = false := by
  rw [State.observesClear, State.inTenure, idle]
  obtain outside | offline | asserted := h
  · rw [beq_false_of_ne outside]
    rfl
  · rw [offline]
    cases s.link.outside <;> rfl
  · rw [asserted]
    simp

/-- A clear at a participant with no slot busy (R69, R91, R92). -/
theorem linkClear_of_rest (rest : s.atRest) (sender : s.link.sender = none) (observes : s.observesClear = true) :
    exec .linkClear s = .next (dropBuffers (countLinkClear (clearLink s))) := by
  obtain ⟨por, queue, idle, _⟩ := rest
  rw [exec_linkClear_of_por_clear por, abortLink_of_observed .cleared observes, sender]
  exact congrArg Host.Outcome.next (settle_of_still (s := dropBuffers (countLinkClear (clearLink s))) queue fun j =>
    not_due_of_not_plan (s := dropBuffers (countLinkClear (clearLink s))) (by
      show s.tracker.slots[j].phase ≠ .plan
      rw [idle j]
      nofun))

theorem lbusyFalls_of_awaited (sender : s.link.sender = none)
    (h : s.link.phase = .header ∨ s.link.phase = .response ∨ s.link.phase = .data) :
    lbusyFalls s = pulseAndAbort .cleared s := by
  have notSent : ¬ s.link.sender.isSome = true := by rw [sender]; nofun
  rw [lbusyFalls]
  obtain phase | phase | phase := h <;> rw [phase] <;> exact if_neg notSent

theorem lbusyFalls_of_arbitrate (phase : s.link.phase = .arbitrate) (none : s.frameReady = false) :
    lbusyFalls s = if s.link.wordOpen then pulseAndAbort .cleared s else phaseEnd s := by
  rw [lbusyFalls, phase]
  exact if_neg (by rw [none]; exact Bool.false_ne_true)

/-- On an idle link a fall of LBUSY is one that a node outside follows, in POR or not. -/
theorem exec_earlyLbusyFall_of_idle (idle : s.link.phase = .idle) : exec .earlyLbusyFall s = .next (followFall s) := by
  cases por : s.por with
  | true =>
    refine congrArg Host.Outcome.next ?_
    rw [wordEvent, por]
    rfl
  | false =>
    rw [exec_earlyLbusyFall_of_por_clear por, lbusyFalls, idle]

theorem follows_of_outside (idle : s.link.phase = .idle) (outside : s.link.outside ≠ .nothing) : s.follows = true := by
  rw [State.follows, idle, bne_iff_ne.mpr outside]
  rfl

theorem followFall_of_nothing (outside : s.link.outside = .nothing) : followFall s = s := by
  rw [followFall, State.follows, outside]
  rfl

theorem followFall_of_follows (follows : s.follows = true) : followFall s =
    if s.link.outside = .phase ∧ s.link.wordOpen = false then releaseTaken .nothing s
    else s.setLink { s.link with outside := .lost, taken := if s.link.wordOpen then s.link.taken else .follows } := if_pos follows

end

/-- The events at an idle link unit that stands outside what goes on: the second part of O51. -/
theorem earlyLbusyFall_outside (s : State) (idle : s.link.phase = .idle) :
    (s.link.outside = .nothing → exec .earlyLbusyFall s = .next s) ∧
    (s.link.outside = .phase → s.link.wordOpen = false →
      exec .earlyLbusyFall s = .next (s.setLink { s.link with outside := .nothing, taken := .follows })) ∧
    (s.link.outside ≠ .nothing → s.link.outside ≠ .phase ∨ s.link.wordOpen = true →
      ∃ t, exec .earlyLbusyFall s = .next t ∧
        t = s.setLink { s.link with
          outside := .lost
          taken := if s.link.wordOpen = true then s.link.taken else .follows } ∧
        (s.link.wordOpen = false → t.pinTaken = s.link.valid)) := by
  rw [exec_earlyLbusyFall_of_idle idle]
  refine ⟨fun outside => ?_, fun outside closed => ?_, fun outside lost => ⟨_, rfl, ?_, fun closed => ?_⟩⟩
  · rw [followFall_of_nothing outside]
  · rw [followFall_of_follows (follows_of_outside idle (by rw [outside]; nofun)), if_pos ⟨outside, closed⟩, releaseTaken]
    exact congrArg (fun x => Host.Outcome.next (s.setLink { s.link with outside := .nothing, wordOpen := x, taken := .follows }))
      closed.symm
  · rw [followFall_of_follows (follows_of_outside idle outside), if_neg]
    rintro ⟨phase, closed⟩
    obtain other | opened := lost
    · exact other phase
    · rw [closed] at opened
      cases opened
  · rw [followFall_of_follows (follows_of_outside idle outside), if_neg]
    · rw [closed]
      rfl
    · rintro ⟨phase, _⟩
      obtain other | opened := lost
      · exact other phase
      · rw [closed] at opened
        cases opened

/-- Settles O51. -/
theorem linkClearObserved : Obligations.LinkClearObserved := by
  refine ⟨fun s por => ⟨fun rest sender participant => ?_, fun idle outside => ?_, fun clear => ?_, fun idle => ?_,
    fun sender awaited => ?_, fun phase none => ⟨fun opened => ?_, fun closed => ?_⟩, fun sender w wait => ⟨fun kind => ?_, fun kind => ?_⟩,
    fun wait => ?_⟩, fun s idle => ?_⟩
  · rw [linkClear_of_rest rest sender (observesClear_of_participant participant), countLinkClear_eq]
    exact congrArg (fun x => Host.Outcome.next (dropBuffers (((clearLink s).setLink { (clearLink s).link with sender := x }).setCompletion
      { s.completion with
        counters := { s.completion.counters with clear := satAdd s.completion.counters.clear 1 }
        latched := { s.completion.latched with linkErr := true } }))) sender.symm
  · rw [exec_linkClear_of_por_clear por, abortLink_of_unobserved .cleared (observesClear_of_outside idle outside)]
    rfl
  · refine congrArg Host.Outcome.next ?_
    rw [clearReleased, if_pos clear]
  · refine congrArg Host.Outcome.next ?_
    rw [clearReleased, if_neg (by rw [idle]; nofun)]
  · exact ⟨_, (exec_earlyLbusyFall_of_por_clear por).trans (congrArg Host.Outcome.next (lbusyFalls_of_awaited sender awaited)),
      pulseAndAbort_eq por sender .cleared⟩
  · have run := exec_earlyLbusyFall_of_por_clear por
    rw [lbusyFalls_of_arbitrate phase none, if_pos opened] at run
    exact ⟨_, run, (exec_linkClear_of_por_clear (s := s.setLink { s.link with pulse := 2 }) por)⟩
  · rw [exec_earlyLbusyFall_of_por_clear por, lbusyFalls_of_arbitrate phase none,
      if_neg (by rw [closed]; exact Bool.false_ne_true), phaseEnd]
    exact congrArg (fun x => Host.Outcome.next (s.setLink { s.link with
      phase := .idle, bidding := false, wordOpen := x, wait := Option.none })) closed.symm
  · refine ⟨pulseAndAbort .handshakeExpired s, congrArg Host.Outcome.next ((linkEvent_of_por_clear por handshakeExpires).trans ?_),
      pulseAndAbort_eq por sender .handshakeExpired⟩
    rw [handshakeExpires, wait]
    exact if_neg kind
  · refine ⟨pulseAndAbort .noticeExpired s, congrArg Host.Outcome.next ((linkEvent_of_por_clear por noticeWaitExpires).trans ?_),
      pulseAndAbort_eq por sender .noticeExpired⟩
    rw [noticeWaitExpires, wait]
    exact if_pos kind
  · refine ⟨congrArg Host.Outcome.next ((linkEvent_of_por_clear por handshakeExpires).trans ?_),
      congrArg Host.Outcome.next ((linkEvent_of_por_clear por noticeWaitExpires).trans ?_)⟩
    · rw [handshakeExpires, wait]
    · rw [noticeWaitExpires, wait]
  · obtain ⟨nothing, ended, lost⟩ := earlyLbusyFall_outside s idle
    refine ⟨nothing, ended, lost, fun ld outside opened tenure => ?_⟩
    have follows := follows_of_outside idle (by rw [outside]; nofun)
    have completed : followCompletion s = s.setLink { s.link with wordOpen := false, taken := .follows } := by
      have valid : (s.link.valid == true) = s.link.valid := by cases s.link.valid <;> rfl
      rw [followCompletion, if_pos follows, if_pos outside, opened, valid]
    refine congrArg Host.Outcome.next (Eq.trans ?_ completed)
    rw [wordEvent]
    split
    · rfl
    · rw [wordCompletes, opened, tenure]

end Sys2Proof.Machine

/-!
PROOF. The outcomes delivered to the one slot that sends: an unsuccessful attempt, and the ends of a command that was not
applied (R37, R87, R88, R93, R127 to R131, R186, R193).
-/

namespace Sys2Proof.Machine

/-! ## A command that ends unapplied -/

/-- The copy table with the reservations of slot `k` released (R37). -/
@[irreducible] def releasedTable (k : SlotIx) (c : CopyUnit) : CopyUnit :=
  { c with entries := Vector.ofFn fun i : EntryIx => releasedEntry k c.entries[i] }

theorem releaseReservations_eq (k : SlotIx) (s : State) : releaseReservations k s = s.setCopy (releasedTable k s.copy) := by
  rw [releaseReservations, releasedTable]
  rfl

theorem releasedTable_entry (k : SlotIx) (c : CopyUnit) (i : EntryIx) : (releasedTable k c).entries[i] = releasedEntry k c.entries[i] := by
  simp only [releasedTable, Fin.getElem_fin, Vector.getElem_ofFn, Fin.eta]

theorem releasedTable_receive (k : SlotIx) (c : CopyUnit) : (releasedTable k c).receive = c.receive := by
  rw [releasedTable]

theorem releasedTable_unreserved (k : SlotIx) (c : CopyUnit) (i : EntryIx) : (releasedTable k c).entries[i].reservedBy ≠ some k := by
  rw [releasedTable_entry, releasedEntry_reservedBy]
  split
  · nofun
  · assumption

/-- Where the end of a command that was not applied leaves the participation machine (R186, R193). -/
def endedAs (b : Body) (p : Participation) : Participation :=
  match b with
  | .join => .offline
  | .leave => .online
  | _ => p

/-- The state once the command `c` of slot `k` has ended unapplied, its reservations released (R37, R132). -/
def State.withdrawn (s : State) (k : SlotIx) (c : Command) (status : Status) : State :=
  (((s.setCopy (releasedTable k s.copy)).setCompletion { s.completion with
      free := s.completion.free + (c.body.credits - 1)
      queue := s.completion.queue ++ [⟨c.tag, c.body.code, c.body.subject, status, s.tracker.slots[k].tenures, none, none⟩] }).setTracker
    { s.tracker with slots := s.tracker.slots.set k Slot.idle }).setParticipation (endedAs c.body s.participation)

theorem creditsReturned_of_refused {b : Body} {status : Status} (refused : status ≠ .ok) :
    creditsReturned b status = b.credits - 1 := by
  cases b
  case hold => exact if_neg refused
  all_goals rfl

theorem endCommand_eq {s : State} {k : SlotIx} {c : Command} {status : Status} (command : s.tracker.slots[k].command = some c)
    (refused : status ≠ .ok) : endCommand k status (s.setCopy (releasedTable k s.copy)) = s.withdrawn k c status := by
  have unreserved := releasedTable_unreserved k s.copy
  rw [State.withdrawn]
  generalize releasedTable k s.copy = table at unreserved
  have completes := complete_of_unreserved (s := s.setCopy table) (k := k) command unreserved ⟨status, none⟩ none
  rw [creditsReturned_of_refused refused] at completes
  have body : (s.setCopy table).slotBody k = some c.body := by
    show (s.tracker.slots[k].command).map (·.body) = _
    rw [command]
    rfl
  rw [endCommand, body]
  simp only
  rw [completes, slotRecord]
  cases c.body <;> rfl

/-! ## The lone sender -/

/-- The one busy slot is `k`, its command `c` with a tenure on the link. -/
structure LoneSender (s : State) (k : SlotIx) (c : Command) : Prop where
  queue : s.port.queue = []
  others : ∀ j : SlotIx, j ≠ k → s.tracker.slots[j] = Slot.idle
  phase : s.tracker.slots[k].phase = .link
  command : s.tracker.slots[k].command = some c

theorem loneSender_of_sendingAlone {s : State} {k : SlotIx} {c : Command} (h : s.sendingAlone k c) : LoneSender s k c := by
  obtain ⟨_, queue, others, phase, command, _, _⟩ := h
  exact ⟨queue, others, phase, command⟩

section
variable {s : State} {k : SlotIx} {c : Command} (h : LoneSender s k c)
include h

theorem LoneSender.congr {t : State} (port : t.port = s.port) (tracker : t.tracker = s.tracker) : LoneSender t k c := by
  obtain ⟨queue, others, phase, command⟩ := h
  exact ⟨by rw [port]; exact queue, by rw [tracker]; exact others, by rw [tracker]; exact phase, by rw [tracker]; exact command⟩

theorem LoneSender.not_due (j : SlotIx) : s.due j = false :=
  not_due_of_alone h.others (by rw [h.phase]; nofun) j

/-- The lone sender acts on its outcome first: no other slot is due (R116). -/
theorem LoneSender.slotTurns_eq (d : Delivery) : slotTurns (some k) d s = settle (deliver k d (releaseEnded k d s)) := by
  have still : ∀ j : SlotIx, j < k → (releaseEnded k d s).due j = false := fun j lt => by
    rw [releaseEnded]
    split
    · rw [releaseReservations_eq]
      exact not_due_of_not_plan (s := s.setCopy (releasedTable k s.copy)) (by
        rw [State.setCopy_tracker, h.others j (Fin.ne_of_lt lt)]
        nofun)
    · exact h.not_due j
  exact congrArg (fun u => settle (deliver k d u)) (plansBelow_quiet still Config.settleBound)

/-- The slot has left PLAN, or waits for holds or the end of a tenure: the event is over. -/
theorem LoneSender.settled {t : State} {z : Slot} (queue : t.port.queue = []) (slots : t.tracker.slots = s.tracker.slots.set k z)
    (still : z.phase ≠ .plan ∨ z.waiting = some .holds ∨ z.waiting = some .tenureEnd) : settle t = t :=
  settle_of_still queue (still_of_lone h.others slots still)

theorem LoneSender.withdrawn_settled (status : Status) : settle (s.withdrawn k c status) = s.withdrawn k c status :=
  h.settled h.queue (z := Slot.idle) rfl (.inl nofun)

/-- An outcome that ends the command at once (R88, R130, R131, R184). -/
theorem LoneSender.slotTurns_ends {d : Delivery} {status : Status} (ends : endsReservation k d s = true)
    (delivers : ∀ u : State, u.tracker = s.tracker → deliver k d u = endCommand k status u) (refused : status ≠ .ok) :
    slotTurns (some k) d s = s.withdrawn k c status := by
  rw [h.slotTurns_eq, releaseEnded, if_pos ends, releaseReservations_eq, delivers _ (State.setCopy_tracker _ _), endCommand_eq h.command refused, h.withdrawn_settled]

/-! ## An unsuccessful attempt -/

theorem LoneSender.slots_idle {t : State} (slots : t.tracker.slots = s.tracker.slots.set k Slot.idle) (j : SlotIx) :
    t.tracker.slots[j] = Slot.idle := by
  rw [slots, slots_set_get]
  split
  · rfl
  · rename_i other
    exact h.others j (Ne.symm other)

end

theorem raiseRetry_eq (s : State) : raiseCounter .retry 1 s = s.setCompletion { s.completion with
    counters := { s.completion.counters with retry := satAdd s.completion.counters.retry 1 } } := by
  simp [raiseCounter, Counters.set, Counters.get]

section
variable {s : State} {k : SlotIx} {c : Command} (h : LoneSender s k c) {d : Delivery} (failed : d = .retried ∨ d = .cleared)
include h failed

omit h in
theorem endsReservation_of_failed : endsReservation k d s =
    decide (fieldValue s.timing.retryLimit ≤ s.tracker.slots[k].unsuccessful + 1) := by
  obtain rfl | rfl := failed <;> rfl

omit h in
theorem deliver_of_failed : deliver k d s = failAttempt k s := by
  obtain rfl | rfl := failed <;> rfl

/-- Below the limit the slot backs off, keeping its reservation (R129). -/
theorem LoneSender.backs_off (below : s.tracker.slots[k].unsuccessful + 1 < fieldValue s.timing.retryLimit) :
    slotTurns (some k) d s = writeSlot k { s.tracker.slots[k] with
        phase := .backoff
        unsuccessful := s.tracker.slots[k].unsuccessful + 1
        frame := none
        waiting := none
        backoff := (s.tracker.slots[k].unsuccessful + 1) * fieldValue s.timing.backoffUnit } (raiseCounter .retry 1 s) := by
  have kept : endsReservation k d s = false := by
    rw [endsReservation_of_failed failed]
    exact decide_eq_false (Nat.not_le_of_lt below)
  have fails : failAttempt k s = writeSlot k { s.tracker.slots[k] with
        phase := .backoff
        unsuccessful := s.tracker.slots[k].unsuccessful + 1
        frame := none
        waiting := none
        backoff := (s.tracker.slots[k].unsuccessful + 1) * fieldValue s.timing.backoffUnit } (raiseCounter .retry 1 s) := by
    rw [failAttempt]
    simp only
    rw [if_neg (Nat.not_le_of_lt below)]
    have counted : (raiseCounter .retry 1 (writeSlot k { s.tracker.slots[k] with
        unsuccessful := s.tracker.slots[k].unsuccessful + 1 } s)).tracker.slots[k] =
        { s.tracker.slots[k] with unsuccessful := s.tracker.slots[k].unsuccessful + 1 } := writeSlot_same k _ s
    rw [counted]
    exact writeSlot_writeSlot k _ _ (raiseCounter .retry 1 s)
  rw [h.slotTurns_eq, releaseEnded, kept, if_neg Bool.false_ne_true, deliver_of_failed failed, fails]
  exact h.settled h.queue rfl (.inl nofun)

/-- At the limit the command ends RETRY-EXHAUSTED (R128). -/
theorem LoneSender.exhausts (limit : fieldValue s.timing.retryLimit ≤ s.tracker.slots[k].unsuccessful + 1) :
    slotTurns (some k) d s = (raiseCounter .retry 1 s).withdrawn k c .retryExhausted := by
  have ends : endsReservation k d s = true := by
    rw [endsReservation_of_failed failed]
    exact decide_eq_true limit
  have fails : failAttempt k (s.setCopy (releasedTable k s.copy)) = (raiseCounter .retry 1 s).withdrawn k c .retryExhausted := by
    have counted := endCommand_eq (s := raiseCounter .retry 1 (writeSlot k { s.tracker.slots[k] with
      unsuccessful := s.tracker.slots[k].unsuccessful + 1 } s)) (k := k) (c := c) (status := .retryExhausted)
      (by
        show (writeSlot k _ s).tracker.slots[k].command = _
        rw [writeSlot_same]
        exact h.command) nofun
    refine (if_pos (show fieldValue s.timing.retryLimit ≤ (s.setCopy _).tracker.slots[k].unsuccessful + 1 from limit)).trans
      (Eq.trans ?_ (counted.trans ?_))
    · rfl
    · have slot : (raiseCounter .retry 1 (writeSlot k { s.tracker.slots[k] with
          unsuccessful := s.tracker.slots[k].unsuccessful + 1 } s)).tracker.slots[k] =
          { s.tracker.slots[k] with unsuccessful := s.tracker.slots[k].unsuccessful + 1 } := writeSlot_same k _ s
      rw [State.withdrawn, slot]
      exact congrArg (fun slots => State.setParticipation (State.setTracker _ { s.tracker with slots := slots }) _)
        (slots_set_set s.tracker.slots k _ Slot.idle)
  rw [h.slotTurns_eq, releaseEnded, if_pos ends, deliver_of_failed failed, releaseReservations_eq, fails]
  exact (h.congr (t := raiseCounter .retry 1 s) rfl rfl).withdrawn_settled .retryExhausted

end

end Sys2Proof.Machine

/-!
PROOF. The ends of a tenure that do not commit, and the clears, at the one slot that sends (R65, R69, R88, R91, R93, R128 to R131).
-/

namespace Sys2Proof.Machine

section
variable {s : State}

theorem exec_tenureEnd_of_close {tn : Tenure} (por : s.por = false) (close : s.link.phase = .close)
    (tenure : s.link.tenure = some tn) : exec .tenureEnd s = .next (endTenure tn s) := by
  refine congrArg Host.Outcome.next ((if_neg (by rw [por]; exact Bool.false_ne_true)).trans ?_)
  rw [lbusyReleased, close, tenure]

theorem endTenure_of_uncommitted {tn : Tenure} (h : tn.outcome ≠ some .committed) (s : State) :
    endTenure tn s = slotTurns s.link.sender (deliveryOf tn none) (linkIdle (dropBuffers s)) := by
  simp only [endTenure, endState, if_neg h]

/-- The state of a participant that has observed a clear, before its slots act (R69, R91). -/
def State.clearedLink (s : State) : State := dropBuffers (countLinkClear (clearLink s))

theorem clearedLink_completion (s : State) : s.clearedLink.completion = { s.completion with
    counters := { s.completion.counters with clear := satAdd s.completion.counters.clear 1 }
    latched := { s.completion.latched with linkErr := true } } := by
  rw [State.clearedLink, countLinkClear_eq]
  rfl

/-- The blocks in which a cleared link shows. -/
theorem clearedLink_frame (s : State) : s.clearedLink.port = s.port ∧ s.clearedLink.tracker = s.tracker ∧
    s.clearedLink.participation = s.participation ∧ s.clearedLink.timing = s.timing ∧ s.clearedLink.holds = s.holds ∧
    s.clearedLink.home = { s.home with capture := [] } ∧ s.clearedLink.copy = { s.copy with receive := [] } ∧
    s.clearedLink.link = (clearLink s).link ∧ s.clearedLink.cold = s.cold ∧ s.clearedLink.nodeId = s.nodeId := by
  rw [State.clearedLink, countLinkClear_eq]
  simp [dropBuffers, clearLink]

theorem clearedLink_notices (s : State) : s.clearedLink.por = s.por ∧
    s.clearedLink.notices = { s.notices with reserved := false, buffer := [] } := by
  rw [State.clearedLink, countLinkClear_eq]
  simp [dropBuffers, clearLink]

theorem abortLink_in_tenure (inTenure : s.inTenure = true) (d : Delivery) :
    abortLink d s = slotTurns s.link.sender d s.clearedLink :=
  abortLink_of_observed d (observesClear_of_participant (.inl inTenure))

end

/-- What the end of a command leaves of the state that its event made. -/
theorem withdrawn_frame (s : State) (k : SlotIx) (c : Command) (status : Status) :
    (s.withdrawn k c status).completion = { s.completion with
      free := s.completion.free + (c.body.credits - 1)
      queue := s.completion.queue ++ [⟨c.tag, c.body.code, c.body.subject, status, s.tracker.slots[k].tenures, none, none⟩] } ∧
    (s.withdrawn k c status).home = s.home ∧ (s.withdrawn k c status).holds = s.holds ∧
    (s.withdrawn k c status).link = s.link ∧ (s.withdrawn k c status).cold = s.cold ∧
    (s.withdrawn k c status).participation = endedAs c.body s.participation ∧
    (s.withdrawn k c status).copy = releasedTable k s.copy ∧
    (s.withdrawn k c status).tracker.slots = s.tracker.slots.set k Slot.idle ∧ (s.withdrawn k c status).por = s.por ∧
    (s.withdrawn k c status).nodeId = s.nodeId ∧ (s.withdrawn k c status).notices = s.notices := by
  rw [State.withdrawn]
  generalize releasedTable k s.copy = table
  exact ⟨rfl, rfl, rfl, rfl, rfl, rfl, rfl, rfl, rfl, rfl, rfl⟩

/-- What the slots act on once a tenure has ended without a commit, or been aborted: the link at rest, buffers empty, the rest
of the node as it was (R65, R69). -/
structure LinkOver (s u : State) : Prop where
  port : u.port = s.port
  tracker : u.tracker = s.tracker
  participation : u.participation = s.participation
  timing : u.timing = s.timing
  holds : u.holds = s.holds
  home : u.home = { s.home with capture := [] }
  copy : u.copy = { s.copy with receive := [] }
  tenure : u.link.tenure = none
  sender : u.link.sender = none
  roster : u.link.roster = s.link.roster
  cold : u.cold = s.cold
  nodeId : u.nodeId = s.nodeId
  por : u.por = s.por
  notices : u.notices = { s.notices with reserved := false, buffer := [] }

section
variable {s u : State} (h : LinkOver s u)
include h

theorem LinkOver.records : u.home.records = s.home.records := by rw [h.home]
theorem LinkOver.capture : u.home.capture = [] := by rw [h.home]
theorem LinkOver.entries : u.copy.entries = s.copy.entries := by rw [h.copy]
theorem LinkOver.receive : u.copy.receive = [] := by rw [h.copy]
theorem LinkOver.unbound : u.boundVar = none := by rw [State.boundVar, h.tenure]

end

theorem linkOver_ended (s : State) : LinkOver s (linkIdle (dropBuffers s)) :=
  ⟨rfl, rfl, rfl, rfl, rfl, rfl, rfl, rfl, rfl, rfl, rfl, rfl, rfl, rfl⟩

theorem linkOver_cleared (s : State) : LinkOver s s.clearedLink := by
  obtain ⟨port, tracker, participation, timing, holds, home, copy, link, cold, nodeId⟩ := clearedLink_frame s
  obtain ⟨por, notices⟩ := clearedLink_notices s
  exact ⟨port, tracker, participation, timing, holds, home, copy, by rw [link]; rfl, by rw [link]; rfl, by rw [link]; rfl, cold, nodeId,
    por, notices⟩

/-- The event of O47, and the state its slot acts on. -/
theorem exec_of_failed {s : State} {tn : Tenure} {k : SlotIx} {e : Instr} (por : s.por = false) (tenure : s.link.tenure = some tn)
    (sender : s.link.sender = some k) (event : (e = .tenureEnd ∧ s.link.phase = .close ∧ tn.outcome = some .retried) ∨
      (e = .linkClear ∧ s.inTenure = true)) :
    ∃ u d, exec e s = .next (slotTurns (some k) d u) ∧ (d = .retried ∨ d = .cleared) ∧ LinkOver s u ∧
      u.completion = { s.completion with
        counters := { s.completion.counters with
          clear := if e = .linkClear then satAdd s.completion.counters.clear 1 else s.completion.counters.clear }
        latched := if e = .linkClear then { s.completion.latched with linkErr := true } else s.completion.latched } := by
  obtain ⟨rfl, close, retried⟩ | ⟨rfl, inTenure⟩ := event
  · refine ⟨linkIdle (dropBuffers s), .retried, ?_, .inl rfl, linkOver_ended s, rfl⟩
    rw [exec_tenureEnd_of_close por close tenure, endTenure_of_uncommitted (by rw [retried]; nofun), sender, deliveryOf, retried]
  · refine ⟨s.clearedLink, .cleared, ?_, .inr rfl, linkOver_cleared s, clearedLink_completion s⟩
    rw [exec_linkClear_of_por_clear por, abortLink_in_tenure inTenure, sender]

theorem boundVar_of_no_tenure {s : State} (h : s.link.tenure = none) : s.boundVar = none := by
  rw [State.boundVar, h]

/-- Settles O47. -/
theorem unsuccessfulAttempt : Obligations.UnsuccessfulAttempt := by
  intro s k c tn e alone tenure event x n limit latched counters
  have lone := loneSender_of_sendingAlone alone
  obtain ⟨por, queue, others, phase, command, sender, reserved⟩ := alone
  obtain ⟨u, d, run, failed, idle, completion⟩ := exec_of_failed por tenure sender event
  have loneU := lone.congr idle.port idle.tracker
  have attempts : u.tracker.slots[k].unsuccessful + 1 = n := by rw [idle.tracker]
  have limits : fieldValue u.timing.retryLimit = limit := by rw [idle.timing]; rfl
  have raised : (raiseCounter .retry 1 u).completion = { s.completion with counters := counters, latched := latched } := by
    rw [raiseRetry_eq, State.setCompletion_completion, completion]
  have units : fieldValue u.timing.backoffUnit = max 1 s.timing.backoffUnit.toNat := by rw [idle.timing]; rfl
  by_cases below : n < limit
  · have backs := loneU.backs_off failed (by rw [attempts, limits]; exact below)
    refine ⟨_, run, ?_⟩
    rw [backs]
    refine ⟨congrArg CompletionUnit.counters raised, congrArg CompletionUnit.latched raised, ?_, idle.holds,
      idle.unbound, idle.sender, ?_, ?_, fun _ => ⟨?_, ?_, ?_,
        ?_, idle.participation⟩, fun reaches => absurd below (Nat.not_lt_of_le reaches)⟩
    · exact idle.records
    · exact idle.capture
    · exact idle.receive
    · rw [units]
      exact congrArg (fun tr : Tracker => { tr with slots := tr.slots.set k { tr.slots[k] with
        phase := .backoff
        unsuccessful := tr.slots[k].unsuccessful + 1
        frame := none
        waiting := none
        backoff := (tr.slots[k].unsuccessful + 1) * max 1 s.timing.backoffUnit.toNat } }) idle.tracker
    · exact idle.entries
    · exact (congrArg CompletionUnit.queue raised :)
    · exact (congrArg CompletionUnit.free raised :)
  · have reaches := Nat.le_of_not_lt below
    have ends := loneU.exhausts failed (by rw [attempts, limits]; exact reaches)
    obtain ⟨completion', home, holds, link, cold, participation, copy, slots, _⟩ :=
      withdrawn_frame (raiseCounter .retry 1 u) k c .retryExhausted
    rw [raised] at completion'
    have tracker : (raiseCounter .retry 1 u).tracker = s.tracker := idle.tracker
    rw [tracker] at completion' slots
    refine ⟨_, run, ?_⟩
    rw [ends]
    refine ⟨by rw [completion'], by rw [completion'], ?_, holds.trans idle.holds, ?_, ?_, ?_, ?_,
      fun short => absurd short below, fun _ => ⟨lone.slots_idle slots, by rw [completion'], by rw [completion'], fun i => ?_, ?_⟩⟩
    · exact (congrArg HomeUnit.records home).trans idle.records
    · exact boundVar_of_no_tenure ((congrArg LinkUnit.tenure link).trans idle.tenure)
    · exact (congrArg LinkUnit.sender link).trans idle.sender
    · exact (congrArg HomeUnit.capture home).trans idle.capture
    · rw [copy, releasedTable_receive]
      exact idle.receive
    · have same : (raiseCounter .retry 1 u).copy.entries = s.copy.entries := idle.entries
      rw [copy, releasedTable_entry, same, releasedEntry_reservedBy]
      obtain free | mine := reserved i
      · rw [free]
        rfl
      · exact if_pos mine
    · have same : (raiseCounter .retry 1 u).participation = s.participation := idle.participation
      rw [participation, same]
      cases c.body <;> rfl

end Sys2Proof.Machine

/-!
PROOF. The outcomes that end the sender's command at once, and the joiner that meets its own ID (R88, R130, R131, R184, R185).
-/

namespace Sys2Proof.Machine

section
variable {s : State} {k : SlotIx} {c : Command}

theorem slotBody_of_command (command : s.tracker.slots[k].command = some c) : s.slotBody k = some c.body := by
  rw [State.slotBody, command]
  rfl

/-- The NO-HOME of a main tenure ends the command (R130). -/
theorem deliverNoHome_of_main (command : s.tracker.slots[k].command = some c) (victim : s.tracker.slots[k].victim = none)
    (plain : c.body.drains = false) : deliverNoHome k s = endCommand k .noHome s := by
  rw [deliverNoHome, victim, slotBody_of_command command]
  exact if_neg (by rw [plain]; exact Bool.false_ne_true)

theorem releasedEntry_eq (k : SlotIx) (e : CopyEntry) : releasedEntry k e = if e.reservedBy = some k then
    { e with reservedBy := none, tag := if e.state = .none then none else e.tag } else e := by
  rw [releasedEntry]
  split
  · split <;> rfl
  · rfl

theorem releasedTable_of_unreserved {c : CopyUnit} (h : ∀ i : EntryIx, c.entries[i].reservedBy ≠ some k) :
    (releasedTable k c).entries = c.entries := Vector.ext fun i lt => by
  refine (releasedTable_entry k c ⟨i, lt⟩).trans ?_
  rw [releasedEntry, if_neg (h ⟨i, lt⟩)]
  rfl

theorem endedAs_eq (b : Body) (p : Participation) :
    endedAs b p = (match b with | .join => .offline | .leave => .online | _ => p) := by
  cases b <;> rfl

end

section
variable {s : State} {k : SlotIx} {c : Command} (lone : LoneSender s k c) (sender : s.link.sender = some k)
include lone sender

/-- A pulse of this node's own, with its tenure on the link, ends the sender's command (R88, R184). -/
theorem pulseAndAbort_ends (inTenure : s.inTenure = true) {d : Delivery} {status : Status}
    (ends : ∀ u, endsReservation k d u = true) (delivers : ∀ u, deliver k d u = endCommand k status u) (refused : status ≠ .ok) :
    pulseAndAbort d s = (drivePulse s).clearedLink.withdrawn k c status := by
  have aborts := abortLink_in_tenure (s := drivePulse s) inTenure d
  have sends : (drivePulse s).link.sender = some k := sender
  have cleared := clearedLink_frame (drivePulse s)
  rw [sends] at aborts
  exact aborts.trans ((lone.congr (t := (drivePulse s).clearedLink) cleared.1 cleared.2.1).slotTurns_ends (ends _)
    (fun u _ => delivers u) refused)

end

/-- A tenure that ends without a commit ends the sender's command (R130, R131). -/
theorem exec_tenureEnd_ends {s : State} {k : SlotIx} {c : Command} {tn : Tenure} (lone : LoneSender s k c) (por : s.por = false)
    (sender : s.link.sender = some k) (close : s.link.phase = .close) (tenure : s.link.tenure = some tn) {d : Delivery}
    {status : Status} (outcome : tn.outcome ≠ some .committed ∧ deliveryOf tn none = d)
    (ends : endsReservation k d (linkIdle (dropBuffers s)) = true)
    (delivers : ∀ u : State, u.tracker = s.tracker → deliver k d u = endCommand k status u) (refused : status ≠ .ok) :
    exec .tenureEnd s = .next ((linkIdle (dropBuffers s)).withdrawn k c status) := by
  obtain ⟨uncommitted, rfl⟩ := outcome
  rw [exec_tenureEnd_of_close por close tenure, endTenure_of_uncommitted uncommitted, sender,
    (lone.congr (t := linkIdle (dropBuffers s)) rfl rfl).slotTurns_ends ends delivers refused]

theorem linkOver_pulsed (s : State) : LinkOver s (drivePulse s).clearedLink := by
  obtain ⟨port, tracker, participation, timing, holds, home, copy, tenure, sender, roster, cold, nodeId, por, notices⟩ :=
    linkOver_cleared (drivePulse s)
  exact ⟨port, tracker, participation, timing, holds, home, copy, tenure, sender, roster, cold, nodeId, por, notices⟩

theorem pulsed_link (s : State) : (drivePulse s).clearedLink.link = (clearLink (drivePulse s)).link := by
  obtain ⟨_, _, _, _, _, _, _, link, _⟩ := clearedLink_frame (drivePulse s)
  exact link

/-- The event of the first part of O48, and the state its slot leaves. -/
theorem exec_of_ended {s : State} {k : SlotIx} {c : Command} {tn : Tenure} {e : Instr} {status : Status} (alone : s.sendingAlone k c)
    (tenure : s.link.tenure = some tn)
    (event : (e = .tenureEnd ∧ s.link.phase = .close ∧ tn.outcome = some .denied ∧ status = .denied) ∨
      (e = .tenureEnd ∧ s.link.phase = .close ∧ tn.outcome = some .noHome ∧ status = .noHome ∧
        s.tracker.slots[k].victim = none ∧ c.body ≠ .flush ∧ c.body ≠ .leave) ∨
      (e = .handshakeTimeout ∧ s.inTenure = true ∧ status = .linkTimeout ∧
        ∃ w, s.link.wait = some w ∧ w.kind ≠ .noticeResponse) ∨
      (e = .noticeWaitExpiry ∧ s.inTenure = true ∧ status = .noticeTimeout ∧
        ∃ w, s.link.wait = some w ∧ w.kind = .noticeResponse)) :
    ∃ u, exec e s = .next (u.withdrawn k c status) ∧ LinkOver s u ∧
      u.completion = { s.completion with
        counters := { s.completion.counters with
          clear := if e ≠ .tenureEnd then satAdd s.completion.counters.clear 1 else s.completion.counters.clear }
        latched := { s.completion.latched with linkErr := s.completion.latched.linkErr || decide (e ≠ .tenureEnd) } } ∧
      u.link.phase = (if e ≠ .tenureEnd then .clear else .idle) ∧
      (u.link.pulse != 0) = (decide (e ≠ .tenureEnd) || s.link.pulse != 0) := by
  have lone := loneSender_of_sendingAlone alone
  obtain ⟨por, queue, others, phase, command, sender, reserved⟩ := alone
  have ended : ∀ c : CompletionUnit, c = { c with
      counters := { c.counters with clear := c.counters.clear }
      latched := { c.latched with linkErr := c.latched.linkErr || false } } := fun c => by
    rw [Bool.or_false]
  have pulsed := clearedLink_completion (drivePulse s)
  have raised : ∀ b : Bool, (b || true) = true := Bool.or_true
  obtain ⟨rfl, close, denied, rfl⟩ | ⟨rfl, close, noHome, rfl, victim, notFlush, notLeave⟩ | ⟨rfl, inTenure, rfl, w, wait, kind⟩ |
    ⟨rfl, inTenure, rfl, w, wait, kind⟩ := event
  · have run := exec_tenureEnd_ends (d := .denied) lone por sender close tenure
      ⟨by rw [denied]; nofun, by rw [deliveryOf, denied]⟩ rfl (fun _ _ => rfl) (status := .denied) nofun
    exact ⟨_, run, linkOver_ended s, ended _, rfl, rfl⟩
  · have plain : c.body.drains = false := by
      cases body : c.body
      case flush => exact absurd body notFlush
      case leave => exact absurd body notLeave
      all_goals rfl
    have ends : endsReservation k .noHome (linkIdle (dropBuffers s)) = true := by
      have body : (linkIdle (dropBuffers s)).slotBody k = some c.body := slotBody_of_command (s := linkIdle (dropBuffers s)) command
      rw [endsReservation, body]
      show (_ || !c.body.drains) = true
      rw [plain]
      exact Bool.or_true _
    have run := exec_tenureEnd_ends (d := .noHome) (status := .noHome) lone por sender close tenure
      ⟨by rw [noHome]; nofun, by rw [deliveryOf, noHome]⟩ ends
      (fun u same => deliverNoHome_of_main (by rw [same]; exact command) (by rw [same]; exact victim) plain) nofun
    exact ⟨_, run, linkOver_ended s, ended _, rfl, rfl⟩
  · have run : exec .handshakeTimeout s = .next (handshakeExpires s) :=
      congrArg Host.Outcome.next (linkEvent_of_por_clear por handshakeExpires)
    have expires : handshakeExpires s = pulseAndAbort .handshakeExpired s := by
      rw [handshakeExpires, wait]
      exact if_neg kind
    rw [expires, pulseAndAbort_ends lone sender inTenure (status := .linkTimeout) (fun _ => rfl) (fun _ => rfl) nofun] at run
    refine ⟨_, run, linkOver_pulsed s, ?_, ?_, ?_⟩
    · rw [pulsed, if_pos nofun, decide_eq_true (p := Instr.handshakeTimeout ≠ .tenureEnd) nofun, raised]
      rfl
    · rw [pulsed_link]
      rfl
    · rw [pulsed_link]
      rfl
  · have run : exec .noticeWaitExpiry s = .next (noticeWaitExpires s) :=
      congrArg Host.Outcome.next (linkEvent_of_por_clear por noticeWaitExpires)
    have expires : noticeWaitExpires s = pulseAndAbort .noticeExpired s := by
      rw [noticeWaitExpires, wait]
      exact if_pos kind
    rw [expires, pulseAndAbort_ends lone sender inTenure (status := .noticeTimeout) (fun _ => rfl) (fun _ => rfl) nofun] at run
    refine ⟨_, run, linkOver_pulsed s, ?_, ?_, ?_⟩
    · rw [pulsed, if_pos nofun, decide_eq_true (p := Instr.noticeWaitExpiry ≠ .tenureEnd) nofun, raised]
      rfl
    · rw [pulsed_link]
      rfl
    · rw [pulsed_link]
      rfl

/-- The first part of O48: the outcomes that end the command at once. -/
theorem outcome_ends {s : State} {k : SlotIx} {c : Command} {tn : Tenure} {e : Instr} {status : Status} (alone : s.sendingAlone k c)
    (tenure : s.link.tenure = some tn)
    (event : (e = .tenureEnd ∧ s.link.phase = .close ∧ tn.outcome = some .denied ∧ status = .denied) ∨
      (e = .tenureEnd ∧ s.link.phase = .close ∧ tn.outcome = some .noHome ∧ status = .noHome ∧
        s.tracker.slots[k].victim = none ∧ c.body ≠ .flush ∧ c.body ≠ .leave) ∨
      (e = .handshakeTimeout ∧ s.inTenure = true ∧ status = .linkTimeout ∧
        ∃ w, s.link.wait = some w ∧ w.kind ≠ .noticeResponse) ∨
      (e = .noticeWaitExpiry ∧ s.inTenure = true ∧ status = .noticeTimeout ∧
        ∃ w, s.link.wait = some w ∧ w.kind = .noticeResponse)) :
    let own := e ≠ .tenureEnd
    ∃ t, exec e s = .next t ∧ (∀ j : SlotIx, t.tracker.slots[j] = Slot.idle) ∧
      t.completion.queue = s.completion.queue ++
        [⟨c.tag, c.body.code, c.body.subject, status, s.tracker.slots[k].tenures, none, none⟩] ∧
      t.completion.free = s.completion.free + (c.body.credits - 1) ∧
      (∀ i : EntryIx, t.copy.entries[i] = if s.copy.entries[i].reservedBy = some k then
        { s.copy.entries[i] with
          reservedBy := none
          tag := if s.copy.entries[i].state = .none then none else s.copy.entries[i].tag }
        else s.copy.entries[i]) ∧
      t.completion.counters = { s.completion.counters with
        clear := if own then satAdd s.completion.counters.clear 1 else s.completion.counters.clear } ∧
      t.completion.latched = { s.completion.latched with
        linkErr := s.completion.latched.linkErr || decide own } ∧
      t.link.phase = (if own then .clear else .idle) ∧ t.pinLclr = (decide own || s.link.pulse != 0) ∧
      t.boundVar = none ∧ t.home.records = s.home.records ∧ t.holds = s.holds ∧ t.cold = s.cold ∧
      t.participation = (match c.body with | .join => .offline | .leave => .online | _ => s.participation) := by
  intro own
  obtain ⟨u, run, idle, completion, phase, pulse⟩ := exec_of_ended alone tenure event
  have lone := (loneSender_of_sendingAlone alone).congr idle.port idle.tracker
  obtain ⟨por, _⟩ := alone
  obtain ⟨completion', home, holds, link, cold, participation, copy, slots, por', _⟩ := withdrawn_frame u k c status
  rw [completion, idle.tracker] at completion'
  refine ⟨_, run, lone.slots_idle slots, by rw [completion'], by rw [completion'], fun i => ?_, by rw [completion'],
    by rw [completion'], by rw [link, phase], ?_, ?_, ?_, holds.trans idle.holds, cold.trans idle.cold, ?_⟩
  · rw [copy, releasedTable_entry, idle.entries, releasedEntry_eq]
  · rw [State.pinLclr, por', idle.por, por, link, pulse]
    rfl
  · rw [State.boundVar, link, idle.tenure]
  · rw [home, idle.records]
  · rw [participation, idle.participation, endedAs_eq]

/-! ## A joiner that meets its own ID -/

/-- The end of a JOIN by DUPLICATE-ID, from the state `r` in which its clear is pulsed. -/
theorem duplicateId_ends {r : State} {k : SlotIx} {c : Command} (lone : LoneSender r k c) (sender : r.link.sender = some k)
    (inTenure : r.inTenure = true) (por : r.por = false) (join : c.body = .join)
    (unreserved : ∀ i : EntryIx, r.copy.entries[i].reservedBy = none) :
    let t := pulseAndAbort .duplicateId r
    t.participation = .offline ∧ t.cold = r.cold ∧ t.nodeId = r.nodeId ∧
      t.completion.queue =
        r.completion.queue ++ [⟨c.tag, .join, .absent, .duplicateId, r.tracker.slots[k].tenures, none, none⟩] ∧
      t.completion.free = r.completion.free ∧
      t.completion.counters = { r.completion.counters with clear := satAdd r.completion.counters.clear 1 } ∧
      t.completion.latched = { r.completion.latched with linkErr := true } ∧
      (∀ j : SlotIx, t.tracker.slots[j] = Slot.idle) ∧ t.link.phase = .clear ∧ t.link.pulse = 2 ∧ t.pinLclr = true ∧
      t.link.inhibit = false ∧ t.link.tenure = none ∧ t.link.roster = r.link.roster ∧ t.home.records = r.home.records ∧
      t.copy.entries = r.copy.entries ∧ t.holds = r.holds ∧ t.notices.inbound = r.notices.inbound := by
  intro t
  have ends : t = (drivePulse r).clearedLink.withdrawn k c .duplicateId :=
    pulseAndAbort_ends lone sender inTenure (status := .duplicateId) (fun _ => rfl) (fun _ => rfl) nofun
  have idle := linkOver_pulsed r
  have completion := clearedLink_completion (drivePulse r)
  have linkIs := pulsed_link r
  rw [ends]
  obtain ⟨u, eq⟩ : ∃ u, u = (drivePulse r).clearedLink := ⟨_, rfl⟩
  rw [← eq] at idle completion linkIs ⊢
  have lone' := lone.congr idle.port idle.tracker
  obtain ⟨completion', home, holds, link, cold, participation, copy, slots, por', nodeId, notices⟩ := withdrawn_frame u k c .duplicateId
  rw [completion, idle.tracker, join] at completion'
  rw [linkIs] at link
  refine ⟨by rw [participation, join]; rfl, cold.trans idle.cold, nodeId.trans idle.nodeId, by rw [completion']; rfl,
    by rw [completion']; rfl, by rw [completion']; rfl, by rw [completion']; rfl, lone'.slots_idle slots, by rw [link]; rfl,
    by rw [link]; rfl, ?_, by rw [link]; rfl, by rw [link]; rfl, by rw [link]; rfl, by rw [home, idle.records], ?_,
    holds.trans idle.holds, by rw [notices, idle.notices]⟩
  · rw [State.pinLclr, por', idle.por, por, link]
    rfl
  · rw [copy, releasedTable_of_unreserved, idle.entries]
    intro i
    rw [idle.entries, unreserved i]
    nofun

/-- A JOIN's response word with the joiner's own bit in it (R184). -/
theorem exec_responseWord_of_duplicate {s : State} {tn : Tenure} {present : NodeMask} {lines : RespLines} (por : s.por = false)
    (phase : s.link.phase = .response) (opened : s.link.wordOpen = true) (takes : s.link.taken ≠ .withheld)
    (tenure : s.link.tenure = some tn) (sends : s.link.sender.isSome = true) (kind : kindOf tn.h0 = some .join)
    (own : present.getLsbD s.nodeId.toNat = true) :
    exec (.responseWord present lines) s = .next (pulseAndAbort .duplicateId (responseLatched tn present lines s)) := by
  have seen : duplicateSeen tn (present ||| s.presentBit) s = true := by
    have bit : inMask (present ||| s.presentBit) s.nodeId = true := by
      rw [inMask, BitVec.getLsbD_or, own]
      rfl
    rw [duplicateSeen, sends, kind, bit]
    rfl
  rw [exec_responseWord_of_por_clear por, responseCompletes_of_response phase (.inl opened) takes tenure, completeResponse_eq, if_pos seen]

/-- A header word that differs from the one the joiner drove (R185). -/
theorem completeWord_of_mismatch {s : State} {tn : Tenure} {h1 ld : Halfword} (phase : s.link.phase = .header)
    (sends : s.link.sender.isSome = true) (header : tn.h1 = some h1)
    (differs : (s.link.wordIndex = 0 ∧ ld ||| tn.h0 ≠ tn.h0) ∨ (s.link.wordIndex = 1 ∧ ld ||| h1 ≠ h1)) :
    completeWord ld tn s = pulseAndAbort (mismatchDelivery s) s := by
  obtain ⟨index, other⟩ | ⟨index, other⟩ := differs
  · rw [completeWord, phase, index]
    exact (if_pos sends).trans (if_neg other)
  · rw [completeWord, phase, index, header]
    exact if_pos ⟨sends, other⟩

/-- Settles O41. -/
theorem duplicateIdEndsJoin : Obligations.DuplicateIdEndsJoin := by
  intro s k c tn h1 alone join unreserved tenure kind header opened ends
  have lone := loneSender_of_sendingAlone alone
  obtain ⟨por, queue, others, phase', command, sender, reserved⟩ := alone
  have sends : s.link.sender.isSome = true := by rw [sender]; rfl
  refine ⟨fun present lines phase takes joining own => ?_, fun ld phase differs => ?_⟩
  · refine ⟨_, exec_responseWord_of_duplicate por phase opened takes tenure sends kind own, ?_⟩
    have absent : present ||| s.presentBit = present := by
      rw [presentBit_eq, joining, if_neg (by rintro (h | h) <;> cases h)]
      exact BitVec.or_zero
    have differs : (s.link.roster != present) = decide (s.link.roster ≠ present) := by
      by_cases h : s.link.roster = present <;> simp [h]
    have updated := updateRoster_eq present s
    rw [responseLatched, absent, updated]
    rw [differs]
    exact duplicateId_ends (r := (((s.setLink { s.link with roster := present }).setCompletion _).setLink _))
      (lone.congr rfl rfl) sender (by rw [State.inTenure]; show (s.link.phase != _ && s.link.phase != _) = true; rw [phase]; rfl) por join unreserved
  · have run : exec (.wordComplete ld) s = .next (pulseAndAbort .duplicateId s) := by
      have delivery : mismatchDelivery s = .duplicateId := by
        rw [mismatchDelivery, sender]
        exact if_pos (by rw [slotBody_of_command command, join])
      rw [exec_wordComplete_of_por_clear por, wordCompletes_of_open opened tenure,
        completeWord_of_mismatch phase sends header differs, delivery]
    refine ⟨_, run, ?_⟩
    have inTenure : s.inTenure = true := by rw [State.inTenure, phase]; rfl
    rw [Bool.or_false]
    exact duplicateId_ends lone sender inTenure por join unreserved

end Sys2Proof.Machine

/-!
PROOF. The NO-HOME of an eviction and of a FLUSH's give-back (R43, R123, R188, R190).
-/

namespace Sys2Proof.Machine

/-- With no entry free and no victim eligible the command ends NO-ROOM (R41). -/
theorem planVar_of_full {s : State} {k : SlotIx} {c : Command} {v : VarNum} (free : s.boundVar ≠ some v) (foreign : homeOf v ≠ s.nodeId)
    (needs : c.body.code.needsEntry) (untagged : ∀ i : EntryIx, s.copy.entries[i].tag ≠ some v)
    (victim : s.tracker.slots[k].victim = none) (full : s.freeEntry = none) (none : s.oldestVictim k = none) :
    planVar k c v s = complete k ⟨.noRoom, Option.none⟩ Option.none
      (writeSlot k { s.tracker.slots[k] with entry := Option.none } s) := by
  have noVictim : (writeSlot k { s.tracker.slots[k] with entry := Option.none } s).oldestVictim k = Option.none :=
    (oldestVictim_congr (s := s) (t := writeSlot k _ s) rfl rfl rfl fun j other => writeSlot_other other _ s).trans none
  rw [planVar_of_copy free foreign needs, forgetEntry_of_untagged untagged,
    planCopy_of_miss (s := writeSlot k _ s) (entryOf_of_untagged (s := s) untagged) (by rw [writeSlot_same]; exact victim),
    allocate_of_none (s := writeSlot k _ s) full noVictim]

section
variable {s : State} {k : SlotIx} {c : Command}

/-- A slot returned to PLAN plans at once, alone (R116, R122). -/
theorem settle_replanned {u t : State} {y z : Slot} (others : ∀ j : SlotIx, j ≠ k → u.tracker.slots[j] = Slot.idle)
    (phase : y.phase = .plan) (waiting : y.waiting = none) (plan : planSlot k (writeSlot k y u) = t) (queue : t.port.queue = [])
    (slots : t.tracker.slots = u.tracker.slots.set k z)
    (still : z.phase ≠ .plan ∨ z.waiting = some .holds ∨ z.waiting = some .tenureEnd) : settle (writeSlot k y u) = t := by
  refine settle_of_lone_plan (k := k) (fun j other => ?_) (by rw [writeSlot_same]; exact phase) (by rw [writeSlot_same]; exact waiting)
    plan queue (still_of_lone others slots still)
  rw [writeSlot_other other, others j other]

/-- The slot of an eviction whose home is away, to choose again (R43, R123). -/
def State.reevictSlot (s : State) (k : SlotIx) : Slot :=
  { s.tracker.slots[k] with phase := .plan, victim := none, frame := none, waiting := none }

theorem deliverNoHome_of_victim {i : EntryIx} (victim : s.tracker.slots[k].victim = some i) :
    deliverNoHome k s = writeSlot k (s.reevictSlot k) s := by
  have evicts : deliverNoHome k s = replan k (writeSlot k { s.tracker.slots[k] with victim := none } s) := by
    rw [deliverNoHome, victim]
  rw [evicts, replan, writeSlot_same, writeSlot_writeSlot]
  rfl

/-- The slot of a barrier whose entry could not be given back, to go on (R188). -/
def State.strandedSlot (s : State) (k : SlotIx) : Slot := { s.tracker.slots[k] with
  phase := .plan, frame := none, waiting := none, stranded := s.tracker.slots[k].stranded ++ s.tracker.slots[k].entry.toList }

theorem deliverNoHome_of_barrier (command : s.tracker.slots[k].command = some c) (victim : s.tracker.slots[k].victim = none)
    (drains : c.body.drains = true) : deliverNoHome k s = writeSlot k (s.strandedSlot k) s := by
  have strands : deliverNoHome k s = replan k (writeSlot k { s.tracker.slots[k] with
      stranded := s.tracker.slots[k].stranded ++ s.tracker.slots[k].entry.toList } s) := by
    unfold deliverNoHome
    simp only
    split
    · rename_i evicts
      rw [victim] at evicts
      cases evicts
    · rename_i b _ body
      rw [slotBody_of_command command] at body
      cases body
      exact if_pos drains
    · rename_i body
      rw [slotBody_of_command command] at body
      cases body
  rw [strands, replan, writeSlot_same, writeSlot_writeSlot]
  rfl

theorem exec_tenureEnd_of_noHome {tn : Tenure} (alone : s.sendingAlone k c) (close : s.link.phase = .close)
    (tenure : s.link.tenure = some tn) (noHome : tn.outcome = some .noHome) :
    exec .tenureEnd s = .next (settle (deliverNoHome k (releaseEnded k .noHome (linkIdle (dropBuffers s))))) := by
  have lone := loneSender_of_sendingAlone alone
  obtain ⟨por, queue, others, phase, command, sender, reserved⟩ := alone
  rw [exec_tenureEnd_of_close por close tenure, endTenure_of_uncommitted (by rw [noHome]; nofun), sender, deliveryOf, noHome]
  exact congrArg Host.Outcome.next ((lone.congr (t := linkIdle (dropBuffers s)) rfl rfl).slotTurns_eq .noHome)

/-! ## An eviction -/

/-- The tables from which an eviction's slot chooses again: its victim released as it was (R43). -/
structure Reevicts (s u : State) (k : SlotIx) : Prop where
  frame : u = (linkIdle (dropBuffers s)).setCopy u.copy
  entries : ∀ j : EntryIx, u.copy.entries[j] = { s.copy.entries[j] with reservedBy := none }
  runs : exec .tenureEnd s = .next (settle (writeSlot k (s.reevictSlot k) u))

theorem reevicts_of_noHome {tn : Tenure} {i : EntryIx} (alone : s.sendingAlone k c) (close : s.link.phase = .close)
    (tenure : s.link.tenure = some tn) (noHome : tn.outcome = some .noHome)
    (kept : ∀ j : EntryIx, s.copy.entries[j].reservedBy = some k → s.copy.entries[j].state ≠ .none)
    (victim : s.tracker.slots[k].victim = some i) : ∃ u, Reevicts s u k := by
  have run := exec_tenureEnd_of_noHome alone close tenure noHome
  have ends : endsReservation k .noHome (linkIdle (dropBuffers s)) = true := by
    have named : (linkIdle (dropBuffers s)).tracker.slots[k].victim = some i := victim
    rw [endsReservation, named]
    rfl
  obtain ⟨_, _, _, _, _, _, reserved⟩ := alone
  rw [releaseEnded, if_pos ends, releaseReservations_eq] at run
  have entries : ∀ j : EntryIx, (releasedTable k (linkIdle (dropBuffers s)).copy).entries[j] =
      { s.copy.entries[j] with reservedBy := none } := fun j => by
    rw [releasedTable_entry]
    show releasedEntry k s.copy.entries[j] = _
    rw [releasedEntry]
    obtain free | mine := reserved j
    · rw [if_neg (by rw [free]; nofun), ← free]
    · rw [if_pos mine, if_neg (kept j mine)]
  generalize releasedTable k (linkIdle (dropBuffers s)).copy = table at run entries
  rw [deliverNoHome_of_victim (s := (linkIdle (dropBuffers s)).setCopy table) victim] at run
  exact ⟨(linkIdle (dropBuffers s)).setCopy table, rfl, entries, run⟩

end

theorem subject_of_var {b : Body} {v : VarNum} (var : b.var? = some v) : b.subject = .var v := by
  cases b <;> cases var <;> rfl

section
variable {s u : State} {k : SlotIx} (again : Reevicts s u k)
include again

theorem Reevicts.others {c : Command} (lone : LoneSender s k c) (j : SlotIx) (other : j ≠ k) : u.tracker.slots[j] = Slot.idle := by
  rw [again.frame]
  exact lone.others j other

theorem Reevicts.unbound (v : VarNum) : (writeSlot k (s.reevictSlot k) u).boundVar ≠ some v := by
  have none' : u.link.tenure = none := by rw [again.frame]; rfl
  show u.boundVar ≠ some v
  rw [boundVar_of_no_tenure none']
  nofun

theorem Reevicts.nodeId : (writeSlot k (s.reevictSlot k) u).nodeId = s.nodeId := by
  show u.nodeId = s.nodeId
  rw [again.frame]
  rfl

theorem Reevicts.entry (j : EntryIx) :
    (writeSlot k (s.reevictSlot k) u).copy.entries[j] = { s.copy.entries[j] with reservedBy := none } := by
  rw [writeSlot_copy, again.entries]

variable {c : Command} {v : VarNum} (lone : LoneSender s k c) (var : c.body.var? = some v) (needs : c.body.code.needsEntry)
  (foreign : homeOf v ≠ s.nodeId) (untagged : ∀ j : EntryIx, s.copy.entries[j].tag ≠ some v)
include lone var needs

theorem Reevicts.plan_eq : planSlot k (writeSlot k (s.reevictSlot k) u) = planVar k c v (writeSlot k (s.reevictSlot k) u) :=
  planSlot_of_var (by rw [writeSlot_same]; exact lone.command) var (not_unhold_of_needsEntry needs)

include foreign untagged

/-- The slot takes the lowest NONE entry (R41, R43). -/
theorem Reevicts.takes_free {f : EntryIx} (state : s.copy.entries[f].state = .none)
    (lowest : ∀ j : EntryIx, j < f → s.copy.entries[j].state ≠ .none) :
    exec .tenureEnd s = .next (writeEntry f { s.copy.entries[f] with tag := some v, reservedBy := some k }
      (writeSlot k { s.reevictSlot k with
        phase := .send, entry := some f, victim := none, frame := some (varFrame (fetchFor c) v), waiting := none } u)) := by
  have found : (writeSlot k (s.reevictSlot k) u).freeEntry = some f := by
    refine find_finRange ?_ fun j lt => ?_
    · rw [writeSlot_copy, again.entries, Bool.and_eq_true, beq_iff_eq]
      exact ⟨state, rfl⟩
    · rw [writeSlot_copy, again.entries, beq_false_of_ne (lowest j lt), Bool.false_and]
  have plan := (again.plan_eq lone var needs).trans (planVar_of_free (again.unbound v) (by rw [again.nodeId]; exact foreign) needs
    (fun j => by rw [again.entry]; exact untagged j) (by rw [writeSlot_same]; rfl) found)
  rw [writeSlot_same, writeSlot_copy, again.entries, writeSlot_writeSlot] at plan
  rw [again.runs, settle_replanned (again.others lone) rfl rfl plan
    (by rw [again.frame]; exact lone.queue) rfl (.inl nofun)]

/-- With every entry taken and none eligible the command ends NO-ROOM (R41, R43). -/
theorem Reevicts.ends (full : ∀ j : EntryIx, s.copy.entries[j].state ≠ .none)
    (away : ∀ (j : EntryIx) (w : VarNum), s.copy.entries[j].tag = some w → s.link.roster.getLsbD (homeOf w).toNat = false) :
    exec .tenureEnd s = .next ((u.setCompletion { s.completion with
        free := s.completion.free + (c.body.credits - 1)
        queue := s.completion.queue ++ [⟨c.tag, c.body.code, .var v, .noRoom, s.tracker.slots[k].tenures, none, none⟩] }).setTracker
      { s.tracker with slots := s.tracker.slots.set k Slot.idle }) := by
  have noFree : (writeSlot k (s.reevictSlot k) u).freeEntry = none := freeEntry_of_full fun j state => by
    rw [writeSlot_copy, again.entries] at state
    exact absurd state (full j)
  have roster : u.link.roster = s.link.roster := by rw [again.frame]; rfl
  have noVictim : (writeSlot k (s.reevictSlot k) u).oldestVictim k = none := oldestVictim_of_none fun j => by
    rw [mayEvict, writeSlot_copy, again.entries]
    cases tag : s.copy.entries[j].tag with
    | none => rfl
    | some w =>
      have gone : (writeSlot k (s.reevictSlot k) u).link.roster.getLsbD (homeOf w).toNat = false := by
        show u.link.roster.getLsbD _ = false
        rw [roster]
        exact away j w tag
      simp only [Option.any_some, gone, Bool.and_false]
  have plan := (again.plan_eq lone var needs).trans (planVar_of_full (again.unbound v) (by rw [again.nodeId]; exact foreign) needs
    (fun j => by rw [again.entry]; exact untagged j) (by rw [writeSlot_same]; rfl) noFree noVictim)
  rw [writeSlot_same, writeSlot_writeSlot] at plan
  have completes := complete_of_unreserved (s := writeSlot k { s.reevictSlot k with entry := none } u) (k := k) (c := c)
    (by rw [writeSlot_same]; exact lone.command) (fun j => by rw [writeSlot_copy, again.entries]; nofun) ⟨.noRoom, none⟩ none
  rw [creditsReturned_of_refused (status := .noRoom) nofun, writeSlot_same, slotRecord, subject_of_var var] at completes
  have slots : (writeSlot k { s.reevictSlot k with entry := none } u).tracker.slots.set k Slot.idle =
      u.tracker.slots.set k Slot.idle := slots_set_set u.tracker.slots k _ Slot.idle
  rw [slots] at completes
  rw [again.runs, settle_replanned (again.others lone) rfl rfl
    (plan.trans completes) (by rw [again.frame]; exact lone.queue) rfl (z := Slot.idle) (.inl nofun)]
  have tracker : u.tracker = s.tracker := by rw [again.frame]; rfl
  have completion : u.completion = s.completion := by rw [again.frame]; rfl
  exact congrArg₂ (fun (x : Tracker) (y : CompletionUnit) => Host.Outcome.next ((u.setCompletion { y with
      free := y.free + (c.body.credits - 1)
      queue := y.queue ++ [⟨c.tag, c.body.code, .var v, .noRoom, s.tracker.slots[k].tenures, none, none⟩] }).setTracker
    { x with slots := x.slots.set k Slot.idle })) tracker completion

end

/-! ## A FLUSH's give-back -/

section
variable {s : State} {k : SlotIx} {c : Command} {tn : Tenure} (alone : s.sendingAlone k c) (close : s.link.phase = .close)
  (tenure : s.link.tenure = some tn) (noHome : tn.outcome = some .noHome) (flush : c.body = .flush)
  (victim : s.tracker.slots[k].victim = none)
include alone close tenure noHome flush victim

theorem exec_noHome_of_flush : exec .tenureEnd s =
    .next (settle (writeSlot k (s.strandedSlot k) (linkIdle (dropBuffers s)))) := by
  have run := exec_tenureEnd_of_noHome alone close tenure noHome
  obtain ⟨_, _, _, _, command, _, _⟩ := alone
  have drains : c.body.drains = true := by rw [flush]; rfl
  have kept : endsReservation k .noHome (linkIdle (dropBuffers s)) = false := by
    have body : (linkIdle (dropBuffers s)).slotBody k = some c.body := slotBody_of_command (s := linkIdle (dropBuffers s)) command
    have noVictim : (linkIdle (dropBuffers s)).tracker.slots[k].victim = none := victim
    rw [endsReservation, body, noVictim]
    show (false || !c.body.drains) = false
    rw [drains]
    rfl
  rw [releaseEnded, kept, if_neg Bool.false_ne_true,
    deliverNoHome_of_barrier (s := linkIdle (dropBuffers s)) command victim drains] at run
  exact run

variable {i : EntryIx} (given : s.tracker.slots[k].entry = some i) (fresh : s.tracker.slots[k].stranded = [])
  (unreserved : ∀ j : EntryIx, s.copy.entries[j].reservedBy = none) (noCopy : ∀ j : EntryIx, s.copy.entries[j].state ≠ .copy)
include given fresh unreserved noCopy

omit alone close tenure noHome flush victim unreserved noCopy in
theorem strandedSlot_stranded : (s.strandedSlot k).stranded = [i] := by
  rw [State.strandedSlot, given, fresh]
  rfl

variable (released : ∀ r : HoldIx, s.holds[r] = none) (own : s.copy.entries[i].exclusive = true)
include released own

omit alone close tenure noHome flush victim given fresh unreserved noCopy released own in
/-- The stranded entry stays on the list while it is OWNED or DIRTY (R188). -/
theorem prunedSlot_of_stranded {u : State} (slot : u.tracker.slots[k] = s.strandedSlot k)
    (copy : u.copy.entries = s.copy.entries) (list : (s.strandedSlot k).stranded = [i]) (own : s.copy.entries[i].exclusive = true) :
    u.prunedSlot k = { s.strandedSlot k with entry := none } := by
  have stays : (u.tracker.slots[k].stranded.filter fun j => u.copy.entries[j].exclusive) = (s.strandedSlot k).stranded := by
    rw [slot, list, copy]
    exact List.filter_eq_self.mpr fun j listed => by rw [List.mem_singleton.mp listed]; exact own
  rw [State.prunedSlot, stays, slot]

/-- With none left to offer the FLUSH ends NO-HOME, the entry kept (R190). -/
theorem flush_ends_noHome (empty : ∀ j : EntryIx, j ≠ i → s.copy.entries[j].state = .none) : exec .tenureEnd s =
    .next (((linkIdle (dropBuffers s)).setCompletion { s.completion with
      queue := s.completion.queue ++ [⟨c.tag, .flush, .absent, .noHome, s.tracker.slots[k].tenures, none, none⟩] }).setTracker
        { s.tracker with slots := s.tracker.slots.set k Slot.idle }) := by
  have run := exec_noHome_of_flush alone close tenure noHome flush victim
  have lone := loneSender_of_sendingAlone alone
  have list := strandedSlot_stranded given fresh
  obtain ⟨w, eq⟩ : ∃ w, w = writeSlot k (s.strandedSlot k) (linkIdle (dropBuffers s)) := ⟨_, rfl⟩
  have slot : w.tracker.slots[k] = s.strandedSlot k := by rw [eq, writeSlot_same]
  have copy : w.copy.entries = s.copy.entries := by rw [eq]; rfl
  have none' : ∀ j : EntryIx, offeredApart w w.tracker.slots[k].stranded j = false := fun j => by
    rw [slot, list, offeredApart, offered, copy]
    by_cases same : j = i
    · rw [same]
      simp
    · rw [CopyEntry.exclusive, empty j same]
      rfl
  have command : w.tracker.slots[k].command = some c := by rw [slot]; exact lone.command
  have drain := planDrain_ends (s := w) (k := k) (by rw [eq]; rfl) (by rw [copy]; exact unreserved) none'
    (anyHold_of_none (by rw [eq]; exact released)) .flush
  have pruned := prunedSlot_of_stranded slot copy list own
  have still : w.dropped k = writeSlot k { s.strandedSlot k with entry := none } w := by
    rw [State.dropped, pruned, copiesDropped_of_none (by rw [copy]; exact noCopy)]
    rfl
  have ends : barrierEnd k .flush (w.dropped k) = complete k ⟨.noHome, none⟩ none (w.dropped k) := by
    rw [barrierEnd, dropped_slot, pruned]
    · simp only [list, List.isEmpty_cons, Bool.false_eq_true, if_false]
    · nofun
  have completes := complete_of_unreserved (s := w.dropped k) (k := k) (c := c) (by rw [dropped_slot, pruned]; exact lone.command)
    (fun j => by
      rw [still, writeSlot_copy, copy, unreserved j]
      nofun) ⟨.noHome, none⟩ none
  rw [dropped_slot, pruned, slotRecord, flush, still] at completes
  have slots : (writeSlot k { s.strandedSlot k with entry := none } w).tracker.slots.set k Slot.idle =
      s.tracker.slots.set k Slot.idle := by
    rw [eq, writeSlot_writeSlot]
    exact slots_set_set s.tracker.slots k _ Slot.idle
  rw [slots] at completes
  rw [still] at ends
  rw [run]
  refine congrArg Host.Outcome.next ((settle_replanned (u := linkIdle (dropBuffers s)) (z := Slot.idle) lone.others rfl rfl ?_ lone.queue
    rfl (.inl nofun)))
  rw [← eq, planSlot_of_flush command flush, drain, still, ends, completes, eq]
  rfl

/-- The FLUSH goes on to the next entry (R187, R188). -/
theorem flush_goes_on {j : EntryIx} {w : VarNum} (other : j ≠ i) (exclusive : s.copy.entries[j].exclusive = true)
    (tag : s.copy.entries[j].tag = some w)
    (first : ∀ m : EntryIx, m < j → m = i ∨ s.copy.entries[m].state = .none) : exec .tenureEnd s =
    .next (writeSlot k { s.strandedSlot k with
      phase := .send, frame := some (varFrame (giveBackKind s.copy.entries[j]) w), entry := some j } (linkIdle (dropBuffers s))) := by
  have run := exec_noHome_of_flush alone close tenure noHome flush victim
  have lone := loneSender_of_sendingAlone alone
  have list := strandedSlot_stranded given fresh
  obtain ⟨u, eq⟩ : ∃ u, u = writeSlot k (s.strandedSlot k) (linkIdle (dropBuffers s)) := ⟨_, rfl⟩
  have slot : u.tracker.slots[k] = s.strandedSlot k := by rw [eq, writeSlot_same]
  have copy : u.copy.entries = s.copy.entries := by rw [eq]; rfl
  have free : ∀ v, u.held v = false := fun v => by
    rw [State.held, State.holdOf, Option.isSome_eq_false_iff, Option.isNone_iff_eq_none, List.find?_eq_none]
    intro r _
    have gone : u.holds[r] = none := by rw [eq]; exact released r
    rw [holdNames, gone]
    nofun
  have offers : (List.finRange 32).find? (offeredApart u u.tracker.slots[k].stranded) = some j := by
    refine find_finRange ?_ fun m lt => ?_
    · rw [slot, list, offeredApart, offered, copy, exclusive, tag]
      simp [free, other]
    · rw [slot, list, offeredApart, offered, copy]
      obtain same | empty := first m lt
      · rw [same]
        simp
      · rw [CopyEntry.exclusive, empty]
        rfl
  have command : u.tracker.slots[k].command = some c := by rw [slot]; exact lone.command
  have drain := planDrain_offers (s := u) (k := k) (by rw [eq]; rfl) (by rw [copy]; exact unreserved) offers
    (by rw [copy]; exact tag) .flush
  have pruned := prunedSlot_of_stranded slot copy list own
  rw [pruned, copiesDropped_of_none (by rw [copy]; exact noCopy), copy] at drain
  have result : (writeSlot k { s.strandedSlot k with
      phase := .send, entry := some j, frame := some (varFrame (giveBackKind s.copy.entries[j]) w), waiting := none } u).setCopy u.copy =
      writeSlot k { s.strandedSlot k with
        phase := .send, frame := some (varFrame (giveBackKind s.copy.entries[j]) w), entry := some j } (linkIdle (dropBuffers s)) := by
    rw [eq]
    exact writeSlot_writeSlot k (s.strandedSlot k) _ (linkIdle (dropBuffers s))
  rw [run]
  refine congrArg Host.Outcome.next ((settle_replanned (u := linkIdle (dropBuffers s)) (z := { s.strandedSlot k with
    phase := .send, frame := some (varFrame (giveBackKind s.copy.entries[j]) w), entry := some j }) lone.others rfl rfl ?_ lone.queue
      rfl (.inl nofun)))
  rw [← eq, planSlot_of_flush command flush, drain]
  exact result

end

/-- Settles O48. -/
theorem outcomeEndsCommand : Obligations.OutcomeEndsCommand := by
  refine ⟨fun s k c tn e status alone tenure event => outcome_ends alone tenure event, ?_⟩
  intro s k c tn i alone close tenure noHome mine x goesOn
  have lone := loneSender_of_sendingAlone alone
  have own : s.copy.entries[i].exclusive = true := by
    obtain owned | dirty := mine
    · rw [CopyEntry.exclusive, owned]; rfl
    · rw [CopyEntry.exclusive, dirty]; rfl
  refine ⟨fun v var needs foreign untagged victim reserved others => ?_, fun flush victim given fresh released unreserved noCopy => ?_⟩
  · have kept : ∀ j : EntryIx, s.copy.entries[j].reservedBy = some k → s.copy.entries[j].state ≠ .none := fun j held => by
      by_cases same : j = i
      · rw [same]
        obtain owned | dirty := mine
        · rw [owned]; nofun
        · rw [dirty]; nofun
      · rw [others j same] at held
        cases held
    obtain ⟨u, again⟩ := reevicts_of_noHome alone close tenure noHome kept victim
    refine ⟨fun f state lowest => ?_, fun full away => ?_⟩
    · have run := again.takes_free lone var needs foreign untagged state lowest
      have frame := again.frame
      have entries := again.entries
      generalize u.copy = table at frame entries
      subst frame
      refine ⟨_, run, ?_, fun j => ?_, ?_, ?_, ?_, ?_, ?_⟩
      · simp [writeEntry, writeSlot, linkIdle, dropBuffers, State.reevictSlot, fetchFor, varFrame, x]
      · rw [writeEntry_entry]
        refine (if_congr eq_comm rfl ?_)
        exact entries j
      all_goals simp [writeEntry, writeSlot, linkIdle, dropBuffers]
    · have run := again.ends lone var needs foreign untagged full away
      have frame := again.frame
      have entries := again.entries
      generalize u.copy = table at frame entries
      subst frame
      refine ⟨_, run, ?_, entries, ?_, ?_, ?_, ?_, ?_⟩
      all_goals simp [linkIdle, dropBuffers, x]
  · refine ⟨fun empty => ?_, fun j w other exclusive tag first => ?_⟩
    · have run := flush_ends_noHome alone close tenure noHome flush victim given fresh unreserved noCopy released own empty
      refine ⟨_, run, ?_, fun j => ?_, ?_, ?_, ?_, ?_, ?_⟩
      all_goals simp [linkIdle, dropBuffers, flush, Body.credits, x]
    · have exclusive' : s.copy.entries[j].exclusive = true := by
        obtain owned | dirty := exclusive
        · rw [CopyEntry.exclusive, owned]; rfl
        · rw [CopyEntry.exclusive, dirty]; rfl
      have run := flush_goes_on alone close tenure noHome flush victim given fresh unreserved noCopy released own other exclusive' tag first
      have list := strandedSlot_stranded given fresh
      refine ⟨_, run, ?_, fun m => ?_, ?_, ?_, ?_, ?_, ?_⟩
      · rw [← list]
        simp [writeSlot, linkIdle, dropBuffers, State.strandedSlot, giveBackKind, varFrame, x]
      all_goals simp [writeSlot, linkIdle, dropBuffers]

end Sys2Proof.Machine

/-!
PROOF. The end of a COMMITTED tenure with no slot to plan again, and the commit of a NOTICE (R65 to R68, R127, R157, R159).
-/

namespace Sys2Proof.Machine

/-! ## No slot depends on what a commit changes -/

/-- With no slot in SEND or PLAN a commit makes none plan again (R122). -/
theorem replanChanged_of_none {before s : State}
    (h : ∀ j : SlotIx, before.tracker.slots[j].phase ≠ .send ∧ before.tracker.slots[j].phase ≠ .plan) :
    replanChanged before s = s := by
  have same : (replanChanged before s).tracker.slots = s.tracker.slots := Vector.ext fun j lt => by
    refine (replanChanged_slot before s ⟨j, lt⟩).trans (if_neg ?_)
    rintro ⟨send | plan, _⟩
    · exact (h ⟨j, lt⟩).1 send
    · exact (h ⟨j, lt⟩).2 plan
  have eta : replanChanged before s = s.setTracker { s.tracker with slots := (replanChanged before s).tracker.slots } := by
    rw [replanChanged, State.setTracker_tracker]
  rw [eta, same]
  rfl

/-- The state that the slots act on at the end of a COMMITTED tenure, no slot planning again. -/
def State.closedFrom (s : State) : State := linkIdle (dropBuffers s)

theorem closedFrom_eq (s : State) : s.closedFrom = ((((s.setHome { s.home with capture := [] }).setCopy
    { s.copy with receive := [] }).setNotices { s.notices with reserved := false, buffer := [] }).setLink { s.link with
      phase := .idle, bidding := false, wordOpen := false, wordIndex := 0, taken := .follows, sender := none,
      tenure := none, wait := none }) := by
  simp [State.closedFrom, linkIdle, dropBuffers]

theorem committedState_of_none {s : State} (tn : Tenure)
    (h : ∀ j : SlotIx, s.tracker.slots[j].phase ≠ .send ∧ s.tracker.slots[j].phase ≠ .plan) :
    committedState tn s = (commitTenure tn s).1.closedFrom := by
  rw [committedState, replanChanged_of_none h, State.closedFrom]

section
variable {s : State} {tn : Tenure} (por : s.por = false) (close : s.link.phase = .close) (tenure : s.link.tenure = some tn)
  (committed : tn.outcome = some .committed)
include por close tenure committed

/-- Another node's tenure commits at a node whose slots are all FREE. -/
theorem exec_tenureEnd_of_idle (idle : ∀ j : SlotIx, s.tracker.slots[j] = Slot.idle) (sender : s.link.sender = none) :
    exec .tenureEnd s = .next (settle (commitTenure tn s).1.closedFrom) := by
  have quiet := committedState_of_none tn fun j => by
    rw [idle j]
    exact ⟨nofun, nofun⟩
  rw [exec_tenureEnd_of_close por close tenure, endTenure_of_committed committed, sender, quiet]
  rfl

/-- This node's own tenure commits, its slot alone busy: the slot acts on the commit first (R127). -/
theorem exec_tenureEnd_of_sender {k : SlotIx} {c : Command} (lone : LoneSender s k c) (sender : s.link.sender = some k)
    (others : ∀ j : SlotIx, j ≠ k → (commitTenure tn s).1.tracker.slots[j] = Slot.idle) :
    exec .tenureEnd s = .next (settle (deliverCommit k (commitTenure tn s).2 (some (tn.h1.getD 0#16 &&& tn.present))
      (commitTenure tn s).1.closedFrom)) := by
  have quiet := committedState_of_none tn fun j => by
    by_cases same : j = k
    · rw [same, lone.phase]
      exact ⟨nofun, nofun⟩
    · rw [lone.others j same]
      exact ⟨nofun, nofun⟩
  have slots : ((commitTenure tn s).1.closedFrom).tracker.slots = (commitTenure tn s).1.tracker.slots := by
    rw [closedFrom_eq]
    rfl
  have still : ∀ j : SlotIx, j < k → ((commitTenure tn s).1.closedFrom).due j = false := fun j lt => not_due_of_not_plan (by
    rw [slots, others j (Fin.ne_of_lt lt)]
    nofun)
  rw [exec_tenureEnd_of_close por close tenure, endTenure_of_committed committed, sender, slotTurns_committed, quiet,
    plansBelow_quiet still]

end

/-! ## A NOTICE -/

theorem commitTenure_of_notice {tn : Tenure} (kind : kindOf tn.h0 = some .notice) (s : State) :
    commitTenure tn s = (commitNotice tn s, none) := by
  rw [commitTenure, kind]

theorem commitTenure_of_join {tn : Tenure} (kind : kindOf tn.h0 = some .join) (s : State) :
    commitTenure tn s = (commitJoin tn s, none) := by
  rw [commitTenure, kind]

theorem deliverCommit_of_notice {s : State} {k : SlotIx} {c : Command} {mask : NodeMask} {words : List Halfword}
    (command : s.tracker.slots[k].command = some c) (notice : c.body = .notice mask words) (m : Option NodeMask) :
    deliverCommit k none m s = complete k ⟨.ok, none⟩ m s := by
  have body := slotBody_of_command command
  rw [notice] at body
  simp only [deliverCommit, body]

/-- Settles O49. -/
theorem noticeCommits : Obligations.NoticeCommits := by
  refine ⟨fun s tn rest close sender tenure kind committed => ?_,
    fun s k c tn mask words alone notice unreserved close tenure kind header addressed committed => ?_⟩
  · obtain ⟨por, queue, idle, _⟩ := rest
    have run := exec_tenureEnd_of_idle por close tenure committed idle sender
    rw [commitTenure_of_notice kind, closedFrom_eq, commitNotice] at run
    cases listed : tn.addressed with
    | true =>
      rw [listed, if_pos rfl, settle_of_still (by simp [queue]) fun j => not_due_of_not_plan (by simp [idle j, Slot.idle])] at run
      refine ⟨_, run, ?_⟩
      simp
    | false =>
      rw [listed, if_neg Bool.false_ne_true,
        settle_of_still (by simp [queue]) fun j => not_due_of_not_plan (by simp [idle j, Slot.idle])] at run
      refine ⟨_, run, ?_⟩
      simp
  · have lone := loneSender_of_sendingAlone alone
    obtain ⟨por, queue, others, phase, command, sender, _⟩ := alone
    have same : commitTenure tn s = (s, none) := by
      rw [commitTenure_of_notice kind, commitNotice, addressed]
      rfl
    have run := exec_tenureEnd_of_sender por close tenure committed lone sender (by rw [same]; exact others)
    have completes := complete_of_unreserved (s := s.closedFrom) (k := k) (c := c) (by rw [closedFrom_eq]; exact command)
      (fun i => by rw [closedFrom_eq]; exact fun held => by cases (unreserved i).symm.trans held) ⟨.ok, none⟩ (some (mask &&& tn.present))
    rw [same, header, deliverCommit_of_notice (s := s.closedFrom) (by rw [closedFrom_eq]; exact command) notice] at run
    rw [slotRecord, notice] at completes
    rw [closedFrom_eq] at run completes
    rw [Option.getD_some, completes, settle_of_still (by simp [queue]) (still_of_lone others (z := Slot.idle) (by simp) (.inl nofun))]
      at run
    refine ⟨_, run, ?_, lone.slots_idle (by simp), ?_⟩
    · simp [creditsReturned, Body.code, Body.subject]
    · simp

end Sys2Proof.Machine

/-!
PROOF. The commit of a JOIN at the joiner and at every other participant (R18, R32, R144, R183).
-/

namespace Sys2Proof.Machine

/-! ## The loans reclaimed -/

/-- The home store with every record rewritten, one that becomes blank dropped, read at an index. -/
theorem homeRead_rewritten (f : HomeRecord → HomeRecord) (blank : f HomeRecord.blank = HomeRecord.blank)
    {l : List (Nat × HomeRecord)} {lo : Nat} (h : homeWfFrom lo l = true) (i : Nat) :
    homeRead ((l.map fun p => (p.1, f p.2)).filter fun p => p.2 != HomeRecord.blank) i = f (homeRead l i) := by
  induction l generalizing lo with
  | nil => exact blank.symm
  | cons p rest ih =>
    obtain ⟨j, r⟩ := p
    simp only [homeWfFrom, Bool.and_eq_true, decide_eq_true_eq] at h
    obtain ⟨_, wf⟩ := h
    rw [List.map_cons]
    by_cases gone : f r = HomeRecord.blank
    · rw [List.filter_cons_of_neg (by simp [gone]), ih wf]
      by_cases same : j = i
      · rw [homeRead, if_pos same, gone, homeRead_below wf (by omega), blank]
      · rw [homeRead, if_neg same]
    · rw [List.filter_cons_of_pos (by simp [gone]), homeRead, homeRead]
      split
      · rfl
      · exact ih wf

theorem reclaimLoans_eq (joiner : NodeId) (s : State) : reclaimLoans joiner s =
    (s.setHome { s.home with records := (reclaimLoans joiner s).home.records }).setCompletion { s.completion with
      counters := { s.completion.counters with
        reclaim := satAdd s.completion.counters.reclaim (s.home.records.countP fun p => p.2.state == .lent joiner) }
      latched := { s.completion.latched with
        reclaim := s.completion.latched.reclaim || (s.home.records.countP fun p => p.2.state == .lent joiner) != 0 } } := by
  simp [reclaimLoans, countReclaims, latch, raiseCounter, Counters.set, Counters.get]
  rfl

/-! ## The copies dropped -/

/-- Entries that no slot has reserved become NONE one after another. -/
theorem foldl_vacate {s : State} (unreserved : ∀ i : EntryIx, s.copy.entries[i].reservedBy = none) (l : List EntryIx) :
    ∃ table : CopyUnit, l.foldl (fun s i => vacate i s) s = s.setCopy table ∧ table.receive = s.copy.receive ∧
      ∀ j : EntryIx, table.entries[j] = if j ∈ l then { s.copy.entries[j] with state := .none, tag := none } else s.copy.entries[j] := by
  induction l generalizing s with
  | nil => exact ⟨s.copy, rfl, rfl, fun j => rfl⟩
  | cons i rest ih =>
    have here : vacate i s = s.setCopy (writeEntry i { s.copy.entries[i] with state := .none, tag := none } s).copy :=
      vacate_of_unreserved (unreserved i)
    have written : ∀ j : EntryIx, (vacate i s).copy.entries[j] =
        if i = j then { s.copy.entries[i] with state := .none, tag := none } else s.copy.entries[j] := fun j => by
      rw [here]
      exact writeEntry_entry i j _ s
    obtain ⟨table, folds, receive, entries⟩ := ih (s := vacate i s) fun j => by
      rw [written]
      split
      · exact unreserved i
      · exact unreserved j
    refine ⟨table, ?_, ?_, fun j => ?_⟩
    · rw [List.foldl_cons, folds, here]
      rfl
    · rw [receive, here]
      rfl
    · rw [entries, written]
      by_cases same : i = j
      · subst same
        simp
      · rw [if_neg same]
        simp [Ne.symm same]

/-! ## The holds lost -/

/-- The record of a hold that ends LOST with the entries of the tags given (R144). -/
def lostRecord (tags : List (Option VarNum)) (holds : Vector (Option HoldRecord) 4) (r : HoldIx) : Option Completion :=
  match holds[r] with
  | some h => if tags.contains (some h.var) then some ⟨h.tag, .hold, .var h.var, .lost, 0, none, none⟩ else none
  | none => none

theorem lostRecord_congr (tags : List (Option VarNum)) {a b : Vector (Option HoldRecord) 4} {r : HoldIx} (h : a[r] = b[r]) :
    lostRecord tags a r = lostRecord tags b r := by
  rw [lostRecord, lostRecord, h]

section
variable {s : State} (idle : ∀ k : SlotIx, s.tracker.slots[k] = Slot.idle) (tags : List (Option VarNum))
include idle

theorem loseHold_eq (r : HoldIx) : loseHold tags s r =
    match lostRecord tags s.holds r with
    | some c => (s.setHolds (s.holds.set r none)).setCompletion { s.completion with queue := s.completion.queue ++ [c] }
    | none => s := by
  have woken : wokenSlots s.tracker.slots = s.tracker.slots := wokenSlots_of_none fun k => by rw [idle k]; nofun
  unfold loseHold lostRecord
  cases active : s.holds[r] with
  | none => rfl
  | some h =>
    simp only
    split
    · rw [endHold, active]
      simp only
      rw [removeHold_eq, post_tracker, woken]
      simp [post]
      rfl
    · rfl

/-- The holds lost end in rising record number (R144). -/
theorem foldl_loseHold (l : List HoldIx) (nodup : l.Nodup) : ∃ holds : Vector (Option HoldRecord) 4,
    l.foldl (loseHold tags) s = (s.setHolds holds).setCompletion { s.completion with
      queue := s.completion.queue ++ l.filterMap (lostRecord tags s.holds) } ∧
    ∀ r : HoldIx, holds[r] = if r ∈ l ∧ (lostRecord tags s.holds r).isSome then none else s.holds[r] := by
  induction l generalizing s with
  | nil => exact ⟨s.holds, by rw [List.filterMap_nil, List.append_nil]; rfl, fun r => by simp⟩
  | cons q rest ih =>
    obtain ⟨notIn, nodup'⟩ := List.nodup_cons.mp nodup
    have here := loseHold_eq idle tags q
    cases lost : lostRecord tags s.holds q with
    | none =>
      rw [lost] at here
      obtain ⟨holds, folds, each⟩ := ih idle nodup'
      refine ⟨holds, ?_, fun r => ?_⟩
      · rw [List.foldl_cons, here, folds, List.filterMap_cons_none lost]
      · rw [each]
        by_cases same : r = q
        · subst same
          simp [lost]
        · simp [same]
    | some c =>
      rw [lost] at here
      obtain ⟨t, eq⟩ : ∃ t, t = (s.setHolds (s.holds.set q none)).setCompletion
        { s.completion with queue := s.completion.queue ++ [c] } := ⟨_, rfl⟩
      have tHolds : t.holds = s.holds.set q none := by simp [eq]
      have other : ∀ r, r ≠ q → lostRecord tags t.holds r = lostRecord tags s.holds r := fun r ne =>
        lostRecord_congr tags (by rw [tHolds, holds_set, if_neg (Ne.symm ne)])
      obtain ⟨holds, folds, each⟩ := ih (s := t) (by rw [eq]; exact idle) nodup'
      have records : rest.filterMap (lostRecord tags t.holds) = rest.filterMap (lostRecord tags s.holds) :=
        List.filterMap_congr fun r mem => other r fun same => notIn (same ▸ mem)
      refine ⟨holds, ?_, fun r => ?_⟩
      · rw [List.foldl_cons, here]
        simp only
        rw [← eq, folds, records, List.filterMap_cons_some lost, eq]
        simp
        rfl
      · rw [each]
        by_cases same : r = q
        · subst same
          rw [if_neg (by simp [notIn]), tHolds, holds_set, if_pos rfl]
          simp [lost]
        · rw [other r same, tHolds, holds_set, if_neg (Ne.symm same)]
          simp [same]

end

/-! ## A cold JOIN -/

/-- The blocks a cold JOIN's commit changes, as they stand after it (R32, R144). -/
structure ColdJoined (s t : State) (joiner : NodeId) : Prop where
  frame : t = ((s.setCopy t.copy).setHolds t.holds).setCompletion t.completion
  receive : t.copy.receive = s.copy.receive
  entries : ∀ i : EntryIx, t.copy.entries[i] =
    if joinerEntry s joiner i then { s.copy.entries[i] with state := .none, tag := none } else s.copy.entries[i]
  holds : ∀ r : HoldIx, t.holds[r] =
    if (lostRecord ((coldDiscards s joiner).map fun i => s.copy.entries[i].tag) s.holds r).isSome then none else s.holds[r]
  completion : t.completion = { s.completion with
    counters := { s.completion.counters with discard := satAdd s.completion.counters.discard (coldDiscards s joiner).length }
    latched := { s.completion.latched with discard := s.completion.latched.discard || (coldDiscards s joiner).length != 0 }
    queue := s.completion.queue ++
      (List.finRange 4).filterMap (lostRecord ((coldDiscards s joiner).map fun i => s.copy.entries[i].tag) s.holds) }

theorem coldJoin_joined {s : State} (idle : ∀ k : SlotIx, s.tracker.slots[k] = Slot.idle)
    (unreserved : ∀ i : EntryIx, s.copy.entries[i].reservedBy = none) (joiner : NodeId) :
    ColdJoined s (coldJoin joiner s) joiner := by
  obtain ⟨table, folds, receive, entries⟩ := foldl_vacate unreserved ((List.finRange 32).filter (joinerEntry s joiner))
  obtain ⟨tags, tagsIs⟩ : ∃ tags, tags = (coldDiscards s joiner).map fun i => s.copy.entries[i].tag := ⟨_, rfl⟩
  obtain ⟨u, eq⟩ : ∃ u, u = countDiscards (coldDiscards s joiner).length (s.setCopy table) := ⟨_, rfl⟩
  have uHolds : u.holds = s.holds := by rw [eq, countDiscards_eq]; rfl
  obtain ⟨holds, loses, each⟩ := foldl_loseHold (s := u) (by rw [eq]; exact idle) tags (List.finRange 4) (List.nodup_finRange 4)
  have joined : coldJoin joiner s = (u.setHolds holds).setCompletion { u.completion with
      queue := u.completion.queue ++ (List.finRange 4).filterMap (lostRecord tags u.holds) } := by
    rw [← loses, eq, ← folds, tagsIs]
    rfl
  have records : (List.finRange 4).filterMap (lostRecord tags u.holds) = (List.finRange 4).filterMap (lostRecord tags s.holds) := by
    rw [uHolds]
  rw [records, eq, countDiscards_eq] at joined
  refine ⟨?_, ?_, fun i => ?_, fun r => ?_, ?_⟩
  · rw [joined]
    simp
    rfl
  · rw [joined]
    simpa using receive
  · rw [joined]
    simp only [State.setCompletion_copy, State.setHolds_copy, State.setCopy_copy]
    rw [entries]
    simp
  · rw [joined, ← tagsIs]
    simp only [State.setCompletion_holds, State.setHolds_holds]
    rw [each, uHolds]
    simp
  · rw [joined, ← tagsIs]
    simp

theorem commitJoin_of_joiner {s : State} {k : SlotIx} (sender : s.link.sender = some k) (tn : Tenure) :
    commitJoin tn s = (s.setParticipation .online).setCold false := by
  rw [commitJoin, sender]

theorem commitJoin_of_other {s : State} (sender : s.link.sender = none) (tn : Tenure) : commitJoin tn s =
    if coldOf tn.h0 ∧ s.full = true then coldJoin (sourceOf tn.h0) (reclaimLoans (sourceOf tn.h0) s)
    else reclaimLoans (sourceOf tn.h0) s := by
  rw [commitJoin, sender]

theorem deliverCommit_of_join {s : State} {k : SlotIx} {c : Command} (command : s.tracker.slots[k].command = some c)
    (join : c.body = .join) (m : Option NodeMask) : deliverCommit k none m s = complete k ⟨.ok, none⟩ none s := by
  have body := slotBody_of_command command
  rw [join] at body
  simp only [deliverCommit, body]

/-- What a JOIN's commit leaves at a participant that is not the joiner, given the entries `gone` and the holds `lost`. -/
structure JoinSeen (s t : State) (joiner : NodeId) (gone : EntryIx → Bool) : Prop where
  frame : t = (((s.setHome t.home).setCopy t.copy).setHolds t.holds).setCompletion t.completion
  records : t.home.records = (reclaimLoans joiner s).home.records
  entries : ∀ i : EntryIx, t.copy.entries[i] =
    if gone i then { s.copy.entries[i] with state := .none, tag := none } else s.copy.entries[i]
  holds : ∀ r : HoldIx, t.holds[r] = if (lostRecord (((List.finRange 32).filter fun i => gone i && s.copy.entries[i].exclusive).map
    fun i => s.copy.entries[i].tag) s.holds r).isSome then none else s.holds[r]
  completion : t.completion = { s.completion with
    counters := { s.completion.counters with
      reclaim := satAdd s.completion.counters.reclaim (s.home.records.countP fun p => p.2.state == .lent joiner)
      discard := satAdd s.completion.counters.discard
        ((List.finRange 32).countP fun i => gone i && s.copy.entries[i].exclusive) }
    latched := { s.completion.latched with
      reclaim := s.completion.latched.reclaim || (s.home.records.countP fun p => p.2.state == .lent joiner) != 0
      discard := s.completion.latched.discard ||
        ((List.finRange 32).countP fun i => gone i && s.copy.entries[i].exclusive) != 0 }
    queue := s.completion.queue ++ (List.finRange 4).filterMap (lostRecord (((List.finRange 32).filter fun i =>
      gone i && s.copy.entries[i].exclusive).map fun i => s.copy.entries[i].tag) s.holds) }

theorem lostRecord_nil (holds : Vector (Option HoldRecord) 4) (r : HoldIx) : lostRecord [] holds r = none := by
  unfold lostRecord
  split <;> rfl

theorem commitJoin_seen {s : State} {tn : Tenure} (idle : ∀ k : SlotIx, s.tracker.slots[k] = Slot.idle)
    (unreserved : ∀ i : EntryIx, s.copy.entries[i].reservedBy = none) (sender : s.link.sender = none) :
    JoinSeen s (commitJoin tn s) (sourceOf tn.h0)
      fun i => (coldOf tn.h0 && s.full) && joinerEntry s (sourceOf tn.h0) i := by
  have loans := reclaimLoans_eq (sourceOf tn.h0) s
  rw [commitJoin_of_other sender]
  obtain ⟨u, eq⟩ : ∃ u, u = reclaimLoans (sourceOf tn.h0) s := ⟨_, rfl⟩
  rw [← eq] at loans ⊢
  have copy : u.copy = s.copy := by rw [loans]; rfl
  have holds : u.holds = s.holds := by rw [loans]; rfl
  have tracker : u.tracker = s.tracker := by rw [loans]; rfl
  have same : joinerEntry u (sourceOf tn.h0) = joinerEntry s (sourceOf tn.h0) := by
    funext i
    rw [joinerEntry, joinerEntry, copy]
  cases cold : coldOf tn.h0 && s.full with
  | true =>
    have seen := coldJoin_joined (s := u) (by rw [tracker]; exact idle) (by rw [copy]; exact unreserved) (sourceOf tn.h0)
    rw [Bool.and_eq_true] at cold
    rw [if_pos cold]
    have discards : coldDiscards u (sourceOf tn.h0) =
        (List.finRange 32).filter fun i => joinerEntry s (sourceOf tn.h0) i && s.copy.entries[i].exclusive := by
      rw [coldDiscards, same, copy]
    obtain ⟨frame, receive, entries, each, completion⟩ := seen
    have count : ((List.finRange 32).filter fun i => joinerEntry s (sourceOf tn.h0) i && s.copy.entries[i].exclusive).length =
        (List.finRange 32).countP fun i => joinerEntry s (sourceOf tn.h0) i && s.copy.entries[i].exclusive :=
      List.countP_eq_length_filter.symm
    rw [discards, copy, holds] at each
    rw [discards, copy, holds, count] at completion
    rw [copy, same] at entries
    simp only [Bool.true_and]
    refine ⟨?_, ?_, entries, each, ?_⟩
    · have home : (coldJoin (sourceOf tn.h0) u).home = u.home := by rw [frame]; simp
      rw [home]
      refine frame.trans ?_
      rw [loans]
      rfl
    · rw [frame]
      simp [eq]
    · rw [completion, loans]
      simp
  | false =>
    rw [if_neg (by rw [← Bool.and_eq_true, cold]; exact Bool.false_ne_true)]
    simp only [Bool.false_and]
    have none' : (List.finRange 32).filter (fun i => false && s.copy.entries[i].exclusive) = [] := List.filter_eq_nil_iff.mpr fun _ _ => Bool.false_ne_true
    have zero : (List.finRange 32).countP (fun i => false && s.copy.entries[i].exclusive) = 0 := List.countP_eq_zero.mpr fun _ _ => Bool.false_ne_true
    refine ⟨?_, by rw [eq], fun i => by rw [copy, if_neg Bool.false_ne_true], fun r => ?_, ?_⟩
    · rw [loans]
      rfl
    · rw [none', List.map_nil, lostRecord_nil, holds]
      rfl
    · have records : (List.finRange 4).filterMap (lostRecord [] s.holds) = [] :=
        List.filterMap_eq_nil_iff.mpr fun r _ => lostRecord_nil s.holds r
      rw [none', zero, List.map_nil, records, List.append_nil, satAdd_zero, loans]
      simp

/-- The second part of O50: the commit of a JOIN at a participant that is not the joiner. -/
theorem joinCommits_other {s : State} {tn : Tenure} (rest : s.atRest) (canonical : s.homeCanonical) (close : s.link.phase = .close)
    (sender : s.link.sender = none) (tenure : s.link.tenure = some tn) (kind : kindOf tn.h0 = some .join)
    (committed : tn.outcome = some .committed) :
    ∃ u, JoinSeen s u (sourceOf tn.h0) (fun i => (coldOf tn.h0 && s.full) && joinerEntry s (sourceOf tn.h0) i) ∧
      exec .tenureEnd s = .next u.closedFrom ∧ u.tracker = s.tracker ∧
      ∀ i : Nat, homeRead u.home.records i = reclaimedRecord (sourceOf tn.h0) (homeRead s.home.records i) := by
  obtain ⟨por, queue, idle, unreserved⟩ := rest
  have seen := commitJoin_seen (tn := tn) idle unreserved sender
  have run := exec_tenureEnd_of_idle por close tenure committed idle sender
  rw [commitTenure_of_join kind] at run
  obtain ⟨u, eq⟩ : ∃ u, u = commitJoin tn s := ⟨_, rfl⟩
  rw [← eq] at seen
  have frame := seen.frame
  have tracker : u.tracker = s.tracker := by rw [frame]; simp
  have port : u.port = s.port := by rw [frame]; simp
  refine ⟨u, seen, ?_, tracker, fun i => ?_⟩
  · rw [run, ← eq, settle_of_still (by rw [closedFrom_eq]; simp [port, queue]) fun j => not_due_of_not_plan (by
      rw [closedFrom_eq]
      simp [tracker, idle j, Slot.idle])]
  · rw [seen.records, reclaimLoans_records]
    refine homeRead_rewritten _ ?_ canonical i
    rw [reclaimedRecord, if_neg]
    nofun

/-- Settles O50. -/
theorem joinCommits : Obligations.JoinCommits := by
  refine ⟨fun s k c tn alone join unreserved close tenure kind committed => ?_,
    fun s tn rest canonical close sender tenure kind committed => ?_⟩
  · have lone := loneSender_of_sendingAlone alone
    obtain ⟨por, queue, others, phase, command, sender, _⟩ := alone
    have same : commitTenure tn s = ((s.setParticipation .online).setCold false, none) := by
      rw [commitTenure_of_join kind, commitJoin_of_joiner sender]
    have run := exec_tenureEnd_of_sender por close tenure committed lone sender (by rw [same]; exact others)
    have completes := complete_of_unreserved (s := ((s.setParticipation .online).setCold false).closedFrom) (k := k) (c := c)
      (by rw [closedFrom_eq]; exact command)
      (fun i => by rw [closedFrom_eq]; exact fun held => nomatch (unreserved i).symm.trans held) ⟨.ok, none⟩ none
    rw [same, deliverCommit_of_join (c := c) (by rw [closedFrom_eq]; exact command) join, completes, closedFrom_eq,
      settle_of_still (by simpa using queue) (still_of_lone others (z := Slot.idle) (by simp) (.inl nofun))] at run
    refine ⟨_, run, by simp, by simp, ?_, lone.slots_idle (by simp), by simp, by simp⟩
    simp [slotRecord, join, creditsReturned, Body.code, Body.subject, Body.var?]
  · intro joiner drops atJoiner discarded lost nReclaim nDiscard
    obtain ⟨u, seen, run, tracker, records⟩ := joinCommits_other rest canonical close sender tenure kind committed
    have goneIs : (fun i => (coldOf tn.h0 && s.full) && joinerEntry s joiner i) = atJoiner := by
      funext i
      show _ = (drops && s.copy.entries[i].state != .none && _)
      rw [full_eq, joinerEntry, ← Bool.and_assoc]
      cases s.copy.entries[i].tag <;> rfl
    rw [goneIs] at seen
    have lostIs : lostRecord (((List.finRange 32).filter fun i => atJoiner i && s.copy.entries[i].exclusive).map
        fun i => s.copy.entries[i].tag) s.holds = lost := by
      funext r
      have listed : ∀ w : VarNum, (((List.finRange 32).filter fun i => atJoiner i && s.copy.entries[i].exclusive).map
          fun i => s.copy.entries[i].tag).contains (some w) =
          (List.finRange 32).any fun i => discarded i && s.copy.entries[i].tag == some w := fun w => by
        rw [Bool.eq_iff_iff, List.contains_iff_mem, List.mem_map, List.any_eq_true]
        refine exists_congr fun i => ?_
        simp only [List.mem_filter, Bool.and_eq_true, beq_iff_eq, and_assoc, discarded, CopyEntry.exclusive]
      rw [lostRecord]
      simp only [listed]
      rfl
    have frame := seen.frame
    obtain ⟨_, _, entries, holds, completion⟩ := seen
    rw [lostIs] at completion
    rw [lostIs] at holds
    rw [closedFrom_eq] at run
    have untouched : u.participation = s.participation ∧ u.cold = s.cold := by
      rw [frame]
      simp
    refine ⟨_, run, fun i => ?_, ?_, ?_, ?_, ?_, ?_, ?_, ?_, ?_, ?_, ?_⟩
    · refine (records i).trans ?_
      rw [reclaimedRecord]
      simp only [beq_iff_eq]
      rfl
    · exact entries
    · exact holds
    · simp [completion]
    · simp [completion]
    · simp [completion]
      exact ⟨rfl, rfl⟩
    · simp [completion]
      exact ⟨rfl, rfl⟩
    · simp [untouched]
    · simp [untouched]
    · simp [tracker]
    · simp

end Sys2Proof.Machine

/-!
PROOF. What a committed variable tenure leaves of the home record it names, and the slot that another node's commit makes
plan again (R12 to R17, R117, R122).
-/

namespace Sys2Proof.Machine

/-! ## One record rewritten, its reclaim and its protocol error counted -/

/-- `u` is `s` with the record of `v` as `r`, a reclaim and a protocol error counted as said. -/
structure RecordChanged (s u : State) (v : VarNum) (r : HomeRecord) (reclaimed error : Bool) : Prop where
  frame : u = (s.setHome { s.home with records := u.home.records }).setCompletion u.completion
  canonical : u.homeCanonical
  record : u.record v = r
  others : ∀ i : Nat, i ≠ indexOf v → homeRead u.home.records i = homeRead s.home.records i
  completion : u.completion = { s.completion with
    counters := { s.completion.counters with
      reclaim := if reclaimed then satAdd s.completion.counters.reclaim 1 else s.completion.counters.reclaim
      proto := if error then satAdd s.completion.counters.proto 1 else s.completion.counters.proto }
    latched := { s.completion.latched with
      reclaim := s.completion.latched.reclaim || reclaimed
      linkErr := s.completion.latched.linkErr || error } }

theorem record_congr {s t : State} (h : t.home.records = s.home.records) (w : VarNum) : t.record w = s.record w :=
  congrArg (homeRead · (indexOf w)) h

theorem countReclaims_one (s : State) : countReclaims 1 s = s.setCompletion { s.completion with
    counters := { s.completion.counters with reclaim := satAdd s.completion.counters.reclaim 1 }
    latched := { s.completion.latched with reclaim := true } } := by
  simp [countReclaims, latch, raiseCounter, Counters.set, Counters.get]
  rfl

theorem RecordChanged.refl {s : State} (canonical : s.homeCanonical) (v : VarNum) :
    RecordChanged s s v (s.record v) false false :=
  ⟨rfl, canonical, rfl, fun _ _ => rfl, by simp⟩

section
variable {s u : State} {v : VarNum} {r : HomeRecord} {reclaimed error : Bool}

theorem RecordChanged.capture (h : RecordChanged s u v r reclaimed error) : u.home.capture = s.home.capture := by
  rw [h.frame]
  rfl

theorem RecordChanged.keeps (h : RecordChanged s u v r reclaimed error) : u.copy = s.copy ∧ u.holds = s.holds ∧
    u.notices = s.notices ∧ u.link = s.link ∧ u.participation = s.participation ∧ u.port = s.port ∧ u.timing = s.timing ∧
    u.control = s.control ∧ u.nodeId = s.nodeId ∧ u.cold = s.cold ∧ u.tracker = s.tracker := by
  obtain ⟨w, eq⟩ : ∃ w, w = u := ⟨u, rfl⟩
  have frame := h.frame
  rw [← eq] at frame ⊢
  rw [frame]
  simp

theorem RecordChanged.nodeId (h : RecordChanged s u v r reclaimed error) : u.nodeId = s.nodeId := by
  rw [h.frame]
  rfl

theorem RecordChanged.tracker (h : RecordChanged s u v r reclaimed error) : u.tracker = s.tracker := by
  rw [h.frame]
  rfl

theorem RecordChanged.record_other (h : RecordChanged s u v r reclaimed error) (w : VarNum) (other : indexOf w ≠ indexOf v) :
    u.record w = s.record w :=
  h.others (indexOf w) other

theorem RecordChanged.write (h : RecordChanged s u v r reclaimed error) (q : HomeRecord) :
    RecordChanged s (writeRecord v q u) v q reclaimed error := by
  have read : ∀ i : Nat, homeRead (writeRecord v q u).home.records i = if i = indexOf v then q else homeRead u.home.records i :=
    homeRead_homeWrite h.canonical (indexOf v) q
  refine ⟨?_, homeWrite_wf h.canonical _ q (indexOf_lt v), (read _).trans (if_pos rfl), fun i other => ?_, h.completion⟩
  · show u.setHome _ = _
    rw [h.frame]
    rfl
  · rw [read, if_neg other, h.others i other]

theorem RecordChanged.reclaim (h : RecordChanged s u v r false error) :
    RecordChanged s (countReclaims 1 u) v r true error := by
  rw [countReclaims_one]
  refine ⟨?_, h.canonical, h.record, h.others, ?_⟩
  · rw [h.frame]
    rfl
  · rw [h.completion]
    simp

theorem RecordChanged.protocolError (h : RecordChanged s u v r reclaimed false) :
    RecordChanged s (countProtocolError u) v r reclaimed true := by
  rw [countProtocolError_eq]
  refine ⟨?_, h.canonical, h.record, h.others, ?_⟩
  · rw [h.frame]
    rfl
  · rw [h.completion]
    simp

end

/-! ## The home's work in its order -/

/-- The lender that a record names is not in the present mask (R13). -/
def lenderAbsent (st : HomeState) (present : NodeMask) : Bool :=
  match st with
  | .lent l => !present.getLsbD l.toNat
  | _ => false

theorem reclaimAbsent_changed {s : State} (canonical : s.homeCanonical) (v : VarNum) (present : NodeMask) :
    RecordChanged s (reclaimAbsent v present s) v
      { s.record v with state := if lenderAbsent (s.record v).state present then .quiet else (s.record v).state }
      (lenderAbsent (s.record v).state present) false := by
  have same := RecordChanged.refl canonical v
  unfold reclaimAbsent
  cases state : (s.record v).state with
  | quiet | shared =>
    simp only [lenderAbsent, Bool.false_eq_true, if_false]
    rw [← state]
    exact same
  | lent l =>
    simp only [lenderAbsent]
    by_cases here : present.getLsbD l.toNat = true
    · simp only [inMask, here, if_true, Bool.not_true, Bool.false_eq_true, if_false]
      rw [← state]
      exact same
    · simp only [inMask, here, Bool.not_false, Bool.false_eq_true, if_false, if_true]
      exact (same.write _).reclaim

/-- The captured words are dropped: none came, or a WRITEBACK's record does not name its source (R16). -/
abbrev captureDropped (s : State) (k : Kind) (source : NodeId) (st : HomeState) : Prop :=
  s.home.capture = [] ∨ (k = .writeback ∧ st ≠ .lent source)

/-- The value a commit leaves in its record before the command, if any, is applied (R12). -/
def keptValue (s : State) (k : Kind) (source : NodeId) (st : HomeState) (x : Value) : Value :=
  if captureDropped s k source st then x else valueOfWords s.home.capture

theorem storeCapture_changed {s u : State} {v : VarNum} {r : HomeRecord} {reclaimed error : Bool}
    (h : RecordChanged s u v r reclaimed error) (k : Kind) (source : NodeId) :
    RecordChanged s (storeCapture k source v u) v { r with value := keptValue s k source r.state r.value } reclaimed error := by
  have captured : (u.home.capture.isEmpty = true ∨ (k = .writeback ∧ (u.record v).state ≠ .lent source)) ↔
      captureDropped s k source r.state := by
    rw [h.capture, h.record, List.isEmpty_iff]
  unfold storeCapture keptValue
  by_cases dropped : captureDropped s k source r.state
  · rw [if_pos (captured.mpr dropped), if_pos dropped]
    exact h
  · rw [if_neg (mt captured.mp dropped), if_neg dropped]
    have written := h.write { u.record v with value := valueOfWords u.home.capture }
    rw [h.record, h.capture] at written
    rw [h.record, h.capture]
    exact written

theorem changeRecord_of_state {s u : State} {v : VarNum} {r : HomeRecord} {reclaimed error : Bool}
    (h : RecordChanged s u v r reclaimed error) {k : Kind} {source : NodeId} {lines : RespLines} {st : HomeState}
    (after : homeStateAfter k source (source != s.nodeId) lines r.state = some st) :
    RecordChanged s (changeRecord k v source lines u) v { r with state := st } reclaimed error := by
  rw [changeRecord, h.nodeId, h.record, after]
  exact h.write _

theorem changeRecord_of_error {s u : State} {v : VarNum} {r : HomeRecord} {reclaimed : Bool}
    (h : RecordChanged s u v r reclaimed false) {k : Kind} {source : NodeId} {lines : RespLines}
    (after : homeStateAfter k source (source != s.nodeId) lines r.state = none) :
    RecordChanged s (changeRecord k v source lines u) v r reclaimed true := by
  rw [changeRecord, h.nodeId, h.record, after]
  exact h.protocolError

/-- The home's work at a commit, before any command of its own is applied. -/
def homeWork (tn : Tenure) (k : Kind) (v : VarNum) (s : State) : State :=
  changeRecord k v (sourceOf tn.h0) tn.lines (storeCapture k (sourceOf tn.h0) v (reclaimAbsent v tn.present s))

theorem commitHome_of_other {s : State} (sender : s.link.sender = none) (tn : Tenure) (k : Kind) (v : VarNum) :
    commitHome tn k v s = (homeWork tn k v s, none) := by
  rw [commitHome, sender]
  rfl

theorem commitTenure_of_var {s : State} {tn : Tenure} {k : Kind} {h1 : Halfword} (full : s.full = true)
    (kind : kindOf tn.h0 = some k) (var : k.isVar = true) (header : tn.h1 = some h1) :
    commitTenure tn s = if s.ownsVar (h1Var h1) then commitHome tn k (h1Var h1) s
      else match s.link.sender with
        | some slot => commitRequester slot tn k (h1Var h1) s
        | none => (commitHolder tn k (h1Var h1) s, none) := by
  rw [commitTenure, kind, header]
  cases k <;> cases var <;> exact if_pos full

/-! ## A lone slot that another node's commit makes plan again -/

/-- A slot in PLAN that waits for a binding is due once nothing is bound (R117). -/
theorem due_of_unbound {s : State} {k : SlotIx} (phase : s.tracker.slots[k].phase = .plan)
    (waiting : s.tracker.slots[k].waiting = none ∨ s.tracker.slots[k].waiting = some .binding) (unbound : s.link.tenure = none) :
    s.due k = true := by
  have none' : s.boundVar = none := boundVar_of_no_tenure unbound
  have kept : s.dropBound = fun _ => false := by
    funext i
    rw [State.dropBound, State.entryBound, none']
    cases s.copy.entries[i].exclusive <;> cases s.copy.entries[i].tag <;> rfl
  rw [State.due, phase]
  obtain free | binding := waiting
  · rw [free]
    rfl
  · rw [binding]
    simp only [waitEnded, none', kept]
    cases s.slotVar k with
    | none => rfl
    | some w => cases s.tracker.slots[k].victim <;> rfl

theorem settle_of_lone_due {s t : State} {k : SlotIx} (others : ∀ j : SlotIx, j ≠ k → s.tracker.slots[j] = Slot.idle)
    (due : s.due k = true) (plan : planSlot k s = t) (queue : t.port.queue = []) (still : ∀ j : SlotIx, t.due j = false) :
    settle s = t := by
  have next : s.nextDue = some k :=
    find_finRange due fun j lt => not_due_of_not_plan (by rw [others j (Fin.ne_of_lt lt)]; nofun)
  refine (settleFor_plan next 63).trans ?_
  rw [plan]
  exact settleFor_of_still queue still 63

/-- The slot in PLAN again, whatever its frame was and whatever it waited for. -/
structure Replans (x y : Slot) : Prop where
  slot : y = { x with phase := .plan, frame := y.frame, waiting := y.waiting }
  waiting : y.waiting = none ∨ y.waiting = some .binding

theorem waits_of_planning {s : State} {j : SlotIx} {c : Command} (alone : s.planningAlone j c)
    (plan : s.tracker.slots[j].phase = .plan) : s.tracker.slots[j].waiting = some .binding := by
  obtain ⟨_, _, _, _, _, send | ⟨_, binding⟩, _⟩ := alone
  · rw [send] at plan
    cases plan
  · exact binding

section
variable {s u : State} {j : SlotIx} {c : Command} {tn : Tenure} (alone : s.planningAlone j c) (close : s.link.phase = .close)
  (tenure : s.link.tenure = some tn) (committed : tn.outcome = some .committed)
  (commit : (commitTenure tn s).1 = u)
  (others : ∀ i : SlotIx, i ≠ j → u.tracker.slots[i] = Slot.idle)
  (waits : s.tracker.slots[j].phase = .plan → u.tracker.slots[j].phase = .plan ∧
    u.tracker.slots[j].waiting = some .binding)
  (changes : s.tracker.slots[j].phase = .send →
    dependencies s.tracker.slots[j] s ≠ dependencies s.tracker.slots[j] u)
include alone close tenure committed commit others waits changes

theorem exec_tenureEnd_of_planning : ∃ y : Slot, Replans u.tracker.slots[j] y ∧
    exec .tenureEnd s = .next (settle (writeSlot j y u.closedFrom)) := by
  obtain ⟨por, queue, idle, command, sender, phase, reserved⟩ := alone
  have state : committedState tn s = (replanChanged s u).closedFrom := by rw [committedState, commit, State.closedFrom]
  rw [exec_tenureEnd_of_close por close tenure, endTenure_of_committed committed, sender, state]
  have mine := replanChanged_slot s u j
  have slots : replanChanged s u = writeSlot j (replanChanged s u).tracker.slots[j] u := by
    have table : (replanChanged s u).tracker.slots = u.tracker.slots.set j (replanChanged s u).tracker.slots[j] :=
      Vector.ext fun i lt => by
        refine Eq.trans ?_ (slots_set_get u.tracker.slots j ⟨i, lt⟩ _).symm
        by_cases same : j = ⟨i, lt⟩
        · subst same
          rw [if_pos rfl]
          rfl
        · rw [if_neg same]
          refine (replanChanged_slot s u ⟨i, lt⟩).trans (if_neg ?_)
          rw [idle ⟨i, lt⟩ (Ne.symm same)]
          rintro ⟨send | plan, _⟩
          · cases send
          · cases plan
    have eta : replanChanged s u = u.setTracker { u.tracker with slots := (replanChanged s u).tracker.slots } := by
      rw [replanChanged, State.setTracker_tracker]
    exact eta.trans (congrArg (fun x => u.setTracker { u.tracker with slots := x }) table)
  refine ⟨(replanChanged s u).tracker.slots[j], ?_, ?_⟩
  · rw [mine]
    split
    · exact ⟨rfl, .inl rfl⟩
    · rename_i unchanged
      obtain send | ⟨plan, _⟩ := phase
      · exact absurd ⟨.inl send, changes send⟩ unchanged
      · obtain ⟨plan', binding⟩ := waits plan
        exact ⟨by rw [← plan'], .inr binding⟩
  · rw [slots, writeSlot_same]
    refine congrArg (fun x => Host.Outcome.next (settle x)) ?_
    rw [closedFrom_eq, closedFrom_eq]
    rfl

end

end Sys2Proof.Machine

/-!
PROOF. The commit of another node's tenure at the home (R12 to R17, R65 to R67, R117, R118, R122).
-/

namespace Sys2Proof.Machine

/-- The commit of another node's tenure that is a protocol error at the home (R16, R17). -/
def peerError (k : Kind) (source : NodeId) (st : HomeState) : Bool :=
  match k with
  | .writeback | .giveBack => decide (st ≠ .lent source)
  | .purge => true
  | _ => false

/-- The state another node's commit leaves a record in (R14 to R16). -/
def peerState (k : Kind) (source : NodeId) (lines : RespLines) (st : HomeState) : HomeState :=
  match k with
  | .read => if grantsOwned lines then .lent source else .shared
  | .own => .lent source
  | .claim => if st.isLent then st else .lent source
  | .writeback | .giveBack => if st = .lent source then .quiet else st
  | _ => st

theorem homeStateAfter_peer {k : Kind} (var : k.isVar = true) (source : NodeId) (lines : RespLines) (st : HomeState) :
    homeStateAfter k source true lines st =
      if peerError k source st then none else some (peerState k source lines st) := by
  cases k with
  | notice | join => cases var
  | read | own | purge => cases st <;> rfl
  | claim => cases st <;> rfl
  | writeback | giveBack =>
    cases st with
    | quiet | shared => simp [homeStateAfter, peerError]
    | lent l => by_cases same : l = source <;> simp [homeStateAfter, peerError, peerState, same]

theorem peerState_of_error {k : Kind} {source : NodeId} {st : HomeState} (error : peerError k source st = true)
    (lines : RespLines) : peerState k source lines st = st := by
  cases k with
  | writeback | giveBack => exact if_neg (of_decide_eq_true error)
  | purge | notice | join => rfl
  | read | own | claim => cases error

/-- The state of a record once an absent lender's loan is reclaimed (R13). -/
def stateReclaimed (st : HomeState) (present : NodeMask) : HomeState := if lenderAbsent st present then .quiet else st

theorem homeWork_of_peer {s : State} (canonical : s.homeCanonical) {tn : Tenure} {k : Kind} (var : k.isVar = true) (v : VarNum)
    (peer : sourceOf tn.h0 ≠ s.nodeId) :
    RecordChanged s (homeWork tn k v s) v
      ⟨keptValue s k (sourceOf tn.h0) (stateReclaimed (s.record v).state tn.present) (s.record v).value,
        peerState k (sourceOf tn.h0) tn.lines (stateReclaimed (s.record v).state tn.present), (s.record v).guard⟩
      (lenderAbsent (s.record v).state tn.present)
      (peerError k (sourceOf tn.h0) (stateReclaimed (s.record v).state tn.present)) := by
  have captured := storeCapture_changed (reclaimAbsent_changed canonical v tn.present) k (sourceOf tn.h0)
  have after := homeStateAfter_peer var (sourceOf tn.h0) tn.lines (stateReclaimed (s.record v).state tn.present)
  have other : (sourceOf tn.h0 != s.nodeId) = true := bne_iff_ne.mpr peer
  rw [homeWork]
  cases error : peerError k (sourceOf tn.h0) (stateReclaimed (s.record v).state tn.present) with
  | true =>
    rw [error, if_pos rfl] at after
    rw [peerState_of_error error]
    exact changeRecord_of_error captured (by rw [other]; exact after)
  | false =>
    rw [error, if_neg Bool.false_ne_true] at after
    exact changeRecord_of_state captured (by rw [other]; exact after)

/-! ## The slot that plans again -/

section
variable {s u : State} {j : SlotIx} {c : Command} {v : VarNum} {y : Slot} (others : ∀ i : SlotIx, i ≠ j → s.tracker.slots[i] = Slot.idle)
  (command : s.tracker.slots[j].command = some c) (again : Replans s.tracker.slots[j] y) (tracker : u.tracker = s.tracker)
  (unbound : u.link.tenure = none) (queue : u.port.queue = [])
include others command again tracker unbound queue

/-- The lone slot plans, and its plan leaves it as `z`. -/
theorem settle_of_replans {t : State} {z : Slot} (plan : planSlot j (writeSlot j y u) = t) (queue' : t.port.queue = [])
    (slots : t.tracker.slots = s.tracker.slots.set j z)
    (still : z.phase ≠ .plan ∨ z.waiting = some .holds ∨ z.waiting = some .tenureEnd) : settle (writeSlot j y u) = t := by
  obtain ⟨slot, waiting⟩ := again
  refine settle_of_lone_due (k := j) (fun i other => ?_) (due_of_unbound (by rw [writeSlot_same, slot])
    (by rw [writeSlot_same]; exact waiting) unbound) plan queue' (still_of_lone others slots still)
  rw [writeSlot_other other, tracker, others i other]

theorem settle_of_replans_writes {z : Slot} (plan : planSlot j (writeSlot j y u) = writeSlot j z (writeSlot j y u))
    (still : z.phase ≠ .plan) : settle (writeSlot j y u) = writeSlot j z u := by
  rw [writeSlot_writeSlot] at plan
  exact settle_of_replans others command again tracker unbound queue plan queue (by rw [← tracker]; rfl) (.inl still)

omit others tracker unbound queue in
theorem replans_command : (writeSlot j y u).tracker.slots[j].command = some c := by
  rw [writeSlot_same, again.slot]
  exact command

section
variable (var : c.body.var? = some v) (home : homeOf v = u.nodeId)
include var home

/-- The tenure that recalls the record is sent (R118). -/
theorem settle_of_recall {kind : Kind} (plain : c.body.code ≠ .unhold ∧ c.body.code ≠ .release)
    (needs : homeTenure c.body (u.record v).state = some kind) : settle (writeSlot j y u) =
      writeSlot j { s.tracker.slots[j] with phase := .send, frame := some (varFrame kind v), waiting := none } u := by
  have free : (writeSlot j y u).boundVar ≠ some v := by
    rw [boundVar_of_no_tenure (s := writeSlot j y u) unbound]
    nofun
  have plan := (planSlot_of_var (replans_command command again) var plain.1).trans
    ((planVar_of_home (s := writeSlot j y u) free home plain.2).trans (planHome_of_tenure (s := writeSlot j y u) needs))
  rw [sendFrame, writeSlot_same] at plan
  rw [settle_of_replans_writes others command again tracker unbound queue plan nofun, again.slot]

/-- A LOAD ends locally on a record that is not LENT (R103, R118). -/
theorem settle_of_load (body : c.body = .load v) (unlent : (u.record v).state.isLent = false)
    (unreserved : ∀ i : EntryIx, u.copy.entries[i].reservedBy = none) : settle (writeSlot j y u) =
      (u.setCompletion { u.completion with
        queue := u.completion.queue ++
          [⟨c.tag, .load, .var v, .ok, s.tracker.slots[j].tenures, some (u.record v).value, none⟩] }).setTracker
        { u.tracker with slots := s.tracker.slots.set j Slot.idle } := by
  have free : (writeSlot j y u).boundVar ≠ some v := by
    rw [boundVar_of_no_tenure (s := writeSlot j y u) unbound]
    nofun
  have runs : homeTenure c.body (u.record v).state = none := by
    rw [body]
    cases state : (u.record v).state with
    | quiet => rfl
    | shared => rfl
    | lent n => rw [state] at unlent; cases unlent
  have plan := (planSlot_of_var (replans_command command again) var (by rw [body]; nofun)).trans
    ((planVar_of_home (s := writeSlot j y u) free home (by rw [body]; nofun)).trans
      (planHome_of_applied (s := writeSlot j y u) runs (applyHome_of_load body)))
  have done := complete_of_unreserved (s := writeSlot j y u) (replans_command command again) (fun e => by
    rw [writeSlot_copy, unreserved e]
    nofun) ⟨.ok, some (u.record v).value⟩ none
  have slots : (writeSlot j y u).tracker.slots.set j Slot.idle = s.tracker.slots.set j Slot.idle := by
    rw [← tracker]
    exact slots_set_set u.tracker.slots j y Slot.idle
  rw [writeSlot_same, slotRecord, body, slots] at done
  have ends := settle_of_replans others command again tracker unbound queue (z := Slot.idle) (plan.trans done) queue rfl (.inl nofun)
  rw [ends, again.slot]
  rfl

end

end

/-- Settles O44. -/
theorem homeCommits : Obligations.HomeCommits := by
  intro s tn h1 k canonical participation close sender tenure header committed kind var v source home peer r absent state0 error
    state1 value commits
  have full := full_of_participation participation
  obtain ⟨u, eq⟩ : ∃ u, u = homeWork tn k v s := ⟨_, rfl⟩
  have commit : commitTenure tn s = (u, none) := by
    rw [commitTenure_of_var full kind var header, if_pos (ownsVar_of_home home), commitHome_of_other sender, eq]
  have errorIs : error = peerError k source state0 := by cases k <;> rfl
  have stateIs : state1 = peerState k source tn.lines state0 := by
    cases k with
    | read =>
      refine if_congr ?_ rfl rfl
      rw [grantsOwned, Bool.and_eq_true, Bool.not_eq_true', Bool.not_eq_true']
    | _ => rfl
  have changed : RecordChanged s u v ⟨value, state1, r.guard⟩ absent error := by
    rw [eq, errorIs, stateIs]
    exact homeWork_of_peer canonical var v peer
  have completion := changed.completion
  obtain ⟨copy, holds, notices, link, participation', port, timing, control, nodeId, cold, tracker⟩ := changed.keeps
  have record := changed.record
  have other := changed.record_other
  clear_value value state1 error absent
  have commits_of : ∀ (t : State) (posted : List Completion) (slots : Vector Slot 4), exec .tenureEnd s = .next t →
      t = (u.closedFrom.setCompletion { u.completion with queue := u.completion.queue ++ posted }).setTracker
        { s.tracker with slots := slots } → commits t posted slots := by
    intro t posted slots run is
    rw [closedFrom_eq] at is
    have records : ∀ w : VarNum, t.record w = u.record w := record_congr (by rw [is]; simp)
    refine ⟨run, (records v).trans record, fun w ne => (records w).trans (other w ne), ?_⟩
    rw [is]
    simp [copy, holds, notices, link, participation', port, timing, control, nodeId, cold, completion, State.boundVar]
  have closed := closedFrom_eq u
  obtain ⟨w, is⟩ : ∃ w, w = u.closedFrom := ⟨_, rfl⟩
  rw [← is] at closed commits_of
  have wTracker : w.tracker = s.tracker := by rw [closed]; exact tracker
  have wCompletion : w.completion = u.completion := by rw [closed]; rfl
  have wRecord : w.record v = ⟨value, state1, r.guard⟩ := (record_congr (by rw [closed]; simp) v).trans record
  have wEntries : w.copy.entries = s.copy.entries := by rw [closed, ← copy]; simp
  have wNode : homeOf v = w.nodeId := by rw [closed, home, ← nodeId]; rfl
  have wLink : w.link.tenure = none := by rw [closed]; rfl
  constructor
  · intro rest
    obtain ⟨por, queue, idle, _⟩ := rest
    have wQueue : w.port.queue = [] := by rw [closed, ← queue, ← port]; rfl
    have run := exec_tenureEnd_of_idle por close tenure committed idle sender
    rw [commit, ← is, settle_of_still wQueue fun i => not_due_of_not_plan (by rw [wTracker, idle i]; nofun)] at run
    refine ⟨w, commits_of w [] _ run ?_⟩
    rw [List.append_nil, ← wCompletion, ← wTracker]
    rfl
  · intro j c alone unreserved named affected x sends
    have parts := alone
    obtain ⟨_, queue, idle, command, _, _, _⟩ := parts
    have depends : s.tracker.slots[j].phase = .send →
        dependencies s.tracker.slots[j] s ≠ dependencies s.tracker.slots[j] u := fun send same => by
      have first := congrArg Prod.fst same
      simp only [dependencies, command, Option.map_some, Option.bind_some, named, ownsVar_of_home home,
        ownsVar_of_home (s := u) (v := v) (by rw [nodeId]; exact home), if_true, Option.some.injEq] at first
      exact affected send (record.symm.trans first.symm)
    obtain ⟨y, again, run⟩ := exec_tenureEnd_of_planning alone close tenure committed (congrArg Prod.fst commit)
      (fun i ne => by rw [tracker]; exact idle i ne)
      (fun plan => by rw [tracker]; exact ⟨plan, waits_of_planning alone plan⟩) depends
    have wQueue : w.port.queue = [] := by rw [closed, ← queue, ← port]; rfl
    rw [← is] at run
    rw [tracker] at again
    have recalls : ∀ kind : Kind, c.body.code ≠ .unhold ∧ c.body.code ≠ .release → homeTenure c.body state1 = some kind →
        ∃ t, commits t [] (sends kind) := fun kind plain needs => by
      rw [settle_of_recall idle command again wTracker wLink wQueue named wNode plain (by rw [wRecord]; exact needs)] at run
      refine ⟨_, commits_of _ [] (sends kind) run ?_⟩
      rw [List.append_nil, ← wCompletion, writeSlot, wTracker]
      rfl
    refine ⟨fun body unlent => ?_, fun body lent => ?_, fun writes => ⟨fun shared => ?_, fun lent => ?_⟩⟩
    · rw [settle_of_load idle command again wTracker wLink wQueue named wNode body (by rw [wRecord]; exact unlent)
        (by rw [wEntries]; exact unreserved), wRecord, wTracker, wCompletion] at run
      exact ⟨_, commits_of _ _ _ run rfl⟩
    · obtain ⟨n, state⟩ := isLent_iff.mp lent
      exact recalls .read (by rw [body]; exact ⟨nofun, nofun⟩) (by rw [body, state]; rfl)
    · exact recalls .purge (plain_of_writer writes) (by rw [shared]; exact (homeTenure_of_writer writes).1)
    · obtain ⟨n, state⟩ := isLent_iff.mp lent
      exact recalls .own (plain_of_writer writes) (by rw [state]; exact (homeTenure_of_writer writes).2 n)

end Sys2Proof.Machine

/-!
PROOF. What the commit of another node's tenure leaves of a copy entry, and the plans of a slot that depended on it
(R26, R30, R31, R42, R122).
-/

namespace Sys2Proof.Machine

/-! ## Entries and plans -/

theorem entryOf_of_sole {s : State} {v : VarNum} {i : EntryIx} (tag : s.copy.entries[i].tag = some v)
    (sole : ∀ m : EntryIx, s.copy.entries[m].tag = some v → m = i) : s.entryOf v = some i :=
  find_finRange (by rw [tag]; exact beq_self_eq_true _) fun m lt => beq_false_of_ne fun other =>
    Fin.ne_of_lt lt (sole m other)

theorem tag_of_entryOf {s : State} {v : VarNum} {i : EntryIx} (entry : s.entryOf v = some i) : s.copy.entries[i].tag = some v :=
  eq_of_beq (List.find?_some (p := fun m : EntryIx => s.copy.entries[m].tag == some v) entry)

theorem dropBound_of_unbound {s : State} (unbound : s.boundVar = none) (i : EntryIx) : s.dropBound i = false := by
  rw [State.dropBound, State.entryBound, unbound]
  cases s.copy.entries[i].tag <;> simp

/-- A victim that has become COPY is dropped, and its entry fetched (R42). -/
theorem planVar_of_dropped {s : State} {k : SlotIx} {c : Command} {v : VarNum} {i : EntryIx} (unbound : s.boundVar = none)
    (foreign : homeOf v ≠ s.nodeId) (needs : c.body.code.needsEntry) (untagged : ∀ m : EntryIx, s.copy.entries[m].tag ≠ some v)
    (command : s.tracker.slots[k].command = some c) (var : c.body.var? = some v) (victim : s.tracker.slots[k].victim = some i)
    (state : s.copy.entries[i].state = .copy) (reserved : s.copy.entries[i].reservedBy = some k) : planVar k c v s =
      writeEntry i { s.copy.entries[i] with state := .none, tag := some v } (writeSlot k { s.tracker.slots[k] with
        phase := .send, entry := some i, victim := none, frame := some (varFrame (fetchFor c) v), waiting := none } s) := by
  have free : s.boundVar ≠ some v := by rw [unbound]; nofun
  rw [planVar_of_copy free foreign needs, forgetEntry_of_untagged untagged]
  obtain ⟨u, eq⟩ : ∃ u, u = writeSlot k { s.tracker.slots[k] with entry := none } s := ⟨_, rfl⟩
  have slot : u.tracker.slots[k] = { s.tracker.slots[k] with entry := none } := by rw [eq, writeSlot_same]
  have copy : u.copy = s.copy := by rw [eq]; rfl
  have unbound' : u.boundVar = none := by rw [eq, ← unbound]; rfl
  have missing : u.entryOf v = none := entryOf_of_untagged (by rw [copy]; exact untagged)
  have plain : u.copy.entries[i].exclusive = false := by rw [copy]; exact exclusive_of_copy state
  have named : u.slotVar k = some v := (slotVar_of_some (c := c) (by rw [slot]; exact command)).trans var
  have evicts : planEvict k c.body v i u = sendFrame k (varFrame (fetchFor c) v) (vacate i u) := by
    rw [planEvict, plain, fetchKind_eq needs]
  have evicted : u.tracker.slots[k].victim = some i := by rw [slot, ← victim]
  rw [← eq, planCopy, missing, evicted]
  show (if _ then _ else _) = _
  rw [dropBound_of_unbound unbound', if_neg Bool.false_ne_true, evicts, vacate_of_reserved (by rw [copy]; exact reserved), named,
    slot, copy, sendFrame, writeSlot_same, writeSlot_writeSlot, eq]
  exact congrArg (writeEntry i { s.copy.entries[i] with state := .none, tag := some v })
    (writeSlot_writeSlot k { s.tracker.slots[k] with entry := none } _ s)

/-! ## What a slot depends on -/

/-- The slot depends on the entry: it is tagged with the slot's variable, or recorded by the slot (R122). -/
def dependsOn (x : Slot) (s : State) (i : EntryIx) : Bool :=
  ((s.copy.entries[i].tag).isSome && s.copy.entries[i].tag == (x.command.map (·.body)).bind Body.var?) || x.entry == some i ||
    x.victim == some i

/-- A change of an entry the slot depends on, its rank aside, changes the slot's dependencies (R122). -/
theorem dependencies_ne {x : Slot} {s u : State} {i : EntryIx} (depends : dependsOn x s i = true)
    (same : ∀ m : EntryIx, m ≠ i → u.copy.entries[m] = s.copy.entries[m])
    (changed : { u.copy.entries[i] with age := 0 } ≠ { s.copy.entries[i] with age := 0 }) :
    dependencies x s ≠ dependencies x u := fun equal => by
  have lists : ((List.finRange 32).filter (dependsOn x s)).map (fun m => { s.copy.entries[m] with age := 0 }) =
      ((List.finRange 32).filter (dependsOn x u)).map fun m => { u.copy.entries[m] with age := 0 } := congrArg Prod.snd equal
  have others : ∀ m : EntryIx, m ≠ i → dependsOn x u m = dependsOn x s m := fun m ne => by rw [dependsOn, dependsOn, same m ne]
  have listed : i ∈ (List.finRange 32).filter (dependsOn x s) := List.mem_filter.mpr ⟨List.mem_finRange i, depends⟩
  cases stays : dependsOn x u i with
  | true =>
    have filters : dependsOn x u = dependsOn x s := funext fun m => by
      by_cases ne : m = i
      · rw [ne, stays, depends]
      · exact others m ne
    rw [filters] at lists
    exact changed (List.map_inj_left.mp lists i listed).symm
  | false =>
    have fewer : (List.finRange 32).filter (dependsOn x u) =
        ((List.finRange 32).filter (dependsOn x s)).filter (dependsOn x u) := by
      rw [List.filter_filter]
      refine List.filter_congr fun m _ => ?_
      by_cases ne : m = i
      · rw [ne, stays, Bool.false_and]
      · rw [others m ne, Bool.and_self]
    have lengths := congrArg List.length lists
    rw [List.length_map, List.length_map, fewer] at lengths
    exact absurd lengths.symm (Nat.ne_of_lt (List.length_filter_lt_length_iff_exists.mpr ⟨i, listed, by rw [stays]; exact Bool.false_ne_true⟩))

/-! ## The holder's change -/

section
variable {s : State} {tn : Tenure} {k : Kind} {v : VarNum} {i : EntryIx} (entry : s.entryOf v = some i)
include entry

theorem commitHolder_of_read (own : s.copy.entries[i].state = .owned ∨ s.copy.entries[i].state = .dirty) :
    commitHolder tn .read v s = writeEntry i { s.copy.entries[i] with state := .copy } s := by
  have exclusive : s.copy.entries[i].exclusive = true := by
    obtain state | state := own <;> simp only [CopyEntry.exclusive, state] <;> rfl
  have held : s.copy.entries[i].state ≠ .none := by
    obtain state | state := own <;> rw [state] <;> nofun
  rw [commitHolder, entry]
  exact (if_neg held).trans (if_pos exclusive)

/-- The commits that take a holder's entry away (R31). -/
theorem commitHolder_of_taken (held : s.copy.entries[i].state ≠ .none)
    (takes : k = .own ∨ k = .claim ∨ (k = .purge ∧ sourceOf tn.h0 = homeOf v ∧ s.copy.entries[i].state = .copy)) :
    commitHolder tn k v s = vacate i s := by
  rw [commitHolder, entry]
  refine (if_neg held).trans ?_
  obtain rfl | rfl | ⟨rfl, taken⟩ := takes
  · rfl
  · rfl
  · exact if_pos taken

end

end Sys2Proof.Machine

/-!
PROOF. The commit of another node's tenure at a participant that is not the home (R26, R30, R31, R42, R122).
-/

namespace Sys2Proof.Machine

/-! ## What the event leaves besides the entries -/

/-- `t` is `s` after the tenure's end, some entries apart, with the records posted and the slots as given. -/
structure HolderLeft (s t : State) (posted : List Completion) (slots : Vector Slot 4) : Prop where
  frame : t = ((s.closedFrom.setCopy t.copy).setCompletion t.completion).setTracker t.tracker
  receive : t.copy.receive = []
  completion : t.completion = { s.completion with queue := s.completion.queue ++ posted }
  tracker : t.tracker = { s.tracker with slots := slots }

theorem closedFrom_writeEntry (i : EntryIx) (e : CopyEntry) (s : State) :
    (writeEntry i e s).closedFrom = writeEntry i e s.closedFrom := by
  rw [closedFrom_eq, closedFrom_eq]
  rfl

theorem closedFrom_writeSlot (k : SlotIx) (x : Slot) (s : State) : (writeSlot k x s).closedFrom = writeSlot k x s.closedFrom := by
  rw [closedFrom_eq, closedFrom_eq]
  rfl

section
variable (s : State)

theorem closedFrom_tracker : s.closedFrom.tracker = s.tracker := by rw [closedFrom_eq]; rfl
theorem closedFrom_entries : s.closedFrom.copy.entries = s.copy.entries := by rw [closedFrom_eq]; rfl
theorem closedFrom_tenure : s.closedFrom.link.tenure = none := by rw [closedFrom_eq]; rfl
theorem closedFrom_queue : s.closedFrom.port.queue = s.port.queue := by rw [closedFrom_eq]; rfl
theorem closedFrom_nodeId : s.closedFrom.nodeId = s.nodeId := by rw [closedFrom_eq]; rfl

theorem holderLeft_closed : HolderLeft s s.closedFrom [] s.tracker.slots := by
  refine ⟨rfl, ?_, ?_, closedFrom_tracker s⟩
  · rw [closedFrom_eq]
    rfl
  · rw [List.append_nil, closedFrom_eq]
    rfl

end

section
variable {s t : State} {posted : List Completion} {slots : Vector Slot 4} (h : HolderLeft s t posted slots)
include h

theorem HolderLeft.writeEntry (i : EntryIx) (e : CopyEntry) : HolderLeft s (writeEntry i e t) posted slots := by
  refine ⟨?_, h.receive, h.completion, h.tracker⟩
  show t.setCopy _ = _
  rw [h.frame]
  rfl

theorem HolderLeft.writeSlot (k : SlotIx) (x : Slot) : HolderLeft s (writeSlot k x t) posted (slots.set k x) := by
  refine ⟨?_, h.receive, h.completion, ?_⟩
  · show t.setTracker _ = _
    rw [h.frame]
    rfl
  · show { t.tracker with slots := t.tracker.slots.set k x } = _
    rw [h.tracker]

theorem HolderLeft.completed (k : SlotIx) (c : Completion) : HolderLeft s ((t.setCompletion { t.completion with
      queue := t.completion.queue ++ [c] }).setTracker { t.tracker with slots := t.tracker.slots.set k Slot.idle })
    (posted ++ [c]) (slots.set k Slot.idle) := by
  refine ⟨?_, h.receive, ?_, ?_⟩
  · rw [h.frame]
    rfl
  · show { t.completion with queue := t.completion.queue ++ [c] } = _
    rw [h.completion, List.append_assoc]
  · show { t.tracker with slots := t.tracker.slots.set k Slot.idle } = _
    rw [h.tracker]

theorem HolderLeft.keeps : t.home = { s.home with capture := [] } ∧ t.holds = s.holds ∧
    t.notices = { s.notices with reserved := false, buffer := [] } ∧ t.link.phase = .idle ∧ t.boundVar = none ∧
    t.link.roster = s.link.roster ∧ t.participation = s.participation ∧ t.port = s.port := by
  obtain ⟨u, eq⟩ : ∃ u, u = t := ⟨t, rfl⟩
  have frame := h.frame
  rw [closedFrom_eq] at frame
  rw [← eq] at frame ⊢
  rw [frame]
  simp [State.boundVar]

end

/-! ## The slot that plans again -/

section
variable {s : State} {j : SlotIx} {c : Command} {tn : Tenure} (alone : s.planningAlone j c) (close : s.link.phase = .close)
  (tenure : s.link.tenure = some tn) (committed : tn.outcome = some .committed) {i : EntryIx} {e : CopyEntry}
  (depends : dependsOn s.tracker.slots[j] s i = true)
  (changed : { e with age := 0 } ≠ { s.copy.entries[i] with age := 0 })
include alone close tenure committed depends changed

/-- The commit changes an entry that no slot has reserved. -/
theorem exec_of_entry_changed (commit : (commitTenure tn s).1 = writeEntry i e s) :
    ∃ y, Replans s.tracker.slots[j] y ∧ exec .tenureEnd s = .next (settle (writeSlot j y (writeEntry i e s.closedFrom))) := by
  have planning := waits_of_planning alone
  have idle : ∀ m : SlotIx, m ≠ j → s.tracker.slots[m] = Slot.idle := by
    obtain ⟨_, _, idle, _⟩ := alone
    exact idle
  obtain ⟨y, again, run⟩ := exec_tenureEnd_of_planning alone close tenure committed commit idle
    (fun plan => ⟨plan, planning plan⟩) fun _ => dependencies_ne depends (fun m ne => writeEntry_other ne e s)
      (by rw [writeEntry_same]; exact changed)
  rw [closedFrom_writeEntry] at run
  exact ⟨y, again, run⟩

/-- The commit changes a victim: its slot takes the entry in fetch form (R26). -/
theorem exec_of_victim_changed
    (commit : (commitTenure tn s).1 = writeSlot j { s.tracker.slots[j] with entry := some i, victim := none } (writeEntry i e s)) :
    ∃ y, Replans { s.tracker.slots[j] with entry := some i, victim := none } y ∧
      exec .tenureEnd s = .next (settle (writeSlot j y (writeEntry i e s.closedFrom))) := by
  have planning := waits_of_planning alone
  have others : ∀ m : SlotIx, m ≠ j → (writeSlot j { s.tracker.slots[j] with entry := some i, victim := none }
      (writeEntry i e s)).tracker.slots[m] = Slot.idle := fun m ne => by
    obtain ⟨_, _, idle, _⟩ := alone
    rw [writeSlot_other ne]
    exact idle m ne
  have written : ∀ m : EntryIx, m ≠ i → (writeEntry i e s).copy.entries[m] = s.copy.entries[m] := fun m ne => writeEntry_other ne e s
  obtain ⟨y, again, run⟩ := exec_tenureEnd_of_planning alone close tenure committed commit others
    (fun plan => by rw [writeSlot_same]; exact ⟨plan, planning plan⟩) fun _ => dependencies_ne depends
      (fun m ne => by rw [writeSlot_copy]; exact written m ne)
      (by rw [writeSlot_copy, writeEntry_same]; exact changed)
  rw [writeSlot_same] at again
  rw [closedFrom_writeSlot, closedFrom_writeEntry, writeSlot_writeSlot] at run
  exact ⟨y, again, run⟩

end

theorem settle_of_planning {u t : State} {j : SlotIx} {x y z : Slot} (others : ∀ m : SlotIx, m ≠ j → u.tracker.slots[m] = Slot.idle)
    (again : Replans x y) (unbound : u.link.tenure = none) (plan : planSlot j (writeSlot j y u) = t) (queue : t.port.queue = [])
    (slots : t.tracker.slots = u.tracker.slots.set j z) (still : z.phase ≠ .plan) : settle (writeSlot j y u) = t := by
  obtain ⟨slot, waiting⟩ := again
  refine settle_of_lone_due (k := j) (fun i other => ?_) (due_of_unbound (by rw [writeSlot_same, slot])
    (by rw [writeSlot_same]; exact waiting) unbound) plan queue (still_of_lone others slots (.inl still))
  rw [writeSlot_other other, others i other]

/-- The state once the changed entry stands and nothing is bound, its lone slot to plan. -/
structure ReplansOver (s w : State) (j : SlotIx) (c : Command) (x y : Slot) (i : EntryIx) (e : CopyEntry) : Prop where
  left : HolderLeft s w [] s.tracker.slots
  others : ∀ m : SlotIx, m ≠ j → w.tracker.slots[m] = Slot.idle
  again : Replans x y
  command : y.command = some c
  entries : ∀ m : EntryIx, w.copy.entries[m] = if i = m then e else s.copy.entries[m]
  unbound : w.link.tenure = none
  queue : w.port.queue = []
  nodeId : w.nodeId = s.nodeId

theorem replansOver_of_planning {s : State} {j : SlotIx} {c : Command} (alone : s.planningAlone j c) {x y : Slot} (again : Replans x y)
    (command : x.command = s.tracker.slots[j].command) (i : EntryIx) (e : CopyEntry) :
    ReplansOver s (writeEntry i e s.closedFrom) j c x y i e := by
  obtain ⟨_, queue, idle, carries, _⟩ := alone
  have tracker := closedFrom_tracker s
  refine ⟨(holderLeft_closed s).writeEntry i e, fun m ne => ?_, again, ?_, fun m => ?_, closedFrom_tenure s, ?_, closedFrom_nodeId s⟩
  · rw [writeEntry_tracker, tracker, idle m ne]
  · rw [again.slot]
    exact command.trans carries
  · rw [writeEntry_entry, closedFrom_entries]
  · exact (closedFrom_queue s).trans queue

section
variable {s w : State} {j : SlotIx} {c : Command} {x y : Slot} {i : EntryIx} {e : CopyEntry} (h : ReplansOver s w j c x y i e)
include h

theorem ReplansOver.replanned_command : (writeSlot j y w).tracker.slots[j].command = some c := by
  rw [writeSlot_same]
  exact h.command

theorem ReplansOver.free : (writeSlot j y w).boundVar = none := boundVar_of_no_tenure h.unbound

/-- The plan ends the command; the slots are all FREE. -/
theorem ReplansOver.settles_completed {u : State} {r : CmdResult} {z : Slot} (plan : planSlot j (writeSlot j y w) = complete j r none u)
    (slot : u.tracker.slots[j] = z) (left : HolderLeft s u [] (s.tracker.slots.set j z)) (command : z.command = some c)
    (queue : u.port.queue = []) (unreserved : ∀ m : EntryIx, u.copy.entries[m].reservedBy ≠ some j) (refunds : creditsReturned c.body r.status = 0) :
    ∃ t, settle (writeSlot j y w) = t ∧ t.copy = u.copy ∧
      HolderLeft s t [slotRecord c z.tenures r none] (s.tracker.slots.set j Slot.idle) := by
  have done := complete_of_unreserved (by rw [slot]; exact command) unreserved r none
  rw [refunds, Nat.add_zero, slot] at done
  have ends := left.completed j (slotRecord c z.tenures r none)
  rw [slots_set_set, List.nil_append] at ends
  refine ⟨_, settle_of_planning (z := Slot.idle) h.others h.again h.unbound (plan.trans done) queue ?_ nofun, rfl, ends⟩
  rw [ends.tracker, h.left.tracker]

/-- The plan forms a frame; `z` is the slot then, `e'` the entry. -/
theorem ReplansOver.settles_writes {z : Slot} {e' : CopyEntry}
    (plan : planSlot j (writeSlot j y w) = writeEntry i e' (writeSlot j z w)) (still : z.phase ≠ .plan) :
    ∃ t, settle (writeSlot j y w) = t ∧ HolderLeft s t [] (s.tracker.slots.set j z) ∧
      ∀ m : EntryIx, t.copy.entries[m] = if i = m then e' else s.copy.entries[m] := by
  have ends := (h.left.writeSlot j z).writeEntry i e'
  refine ⟨_, settle_of_planning (z := z) h.others h.again h.unbound plan h.queue ?_ still, ends, fun m => ?_⟩
  · rw [ends.tracker, h.left.tracker]
  · rw [writeEntry_entry, writeSlot_copy, h.entries]
    by_cases here : i = m
    · rw [if_pos here, if_pos here]
    · rw [if_neg here, if_neg here, if_neg here]

section
variable {v : VarNum} (var : c.body.var? = some v)
include var

theorem ReplansOver.plan_eq (plain : c.body.code ≠ .unhold) : planSlot j (writeSlot j y w) = planVar j c v (writeSlot j y w) :=
  planSlot_of_var h.replanned_command var plain

section
variable (foreign : homeOf v ≠ s.nodeId) (needs : c.body.code.needsEntry)
include foreign needs

/-- The entry taken from the slot is the lowest free one: it is reserved again and fetched (R26, R41). -/
theorem ReplansOver.fetches_anew (victim : x.victim = none) (untagged : ∀ m : EntryIx, w.copy.entries[m].tag ≠ some v)
    (found : w.freeEntry = some i) : ∃ t, settle (writeSlot j y w) = t ∧
      HolderLeft s t [] (s.tracker.slots.set j { x with
        phase := .send, frame := some (varFrame (fetchFor c) v), waiting := none, entry := some i, victim := none }) ∧
      ∀ m : EntryIx, t.copy.entries[m] = if i = m then { e with tag := some v, reservedBy := some j } else s.copy.entries[m] := by
  have free : (writeSlot j y w).boundVar ≠ some v := by rw [h.free]; nofun
  have plan := (h.plan_eq var (not_unhold_of_needsEntry needs)).trans (planVar_of_free (s := writeSlot j y w) (i := i) free
    (by rw [← h.nodeId] at foreign; exact foreign) needs untagged (by rw [writeSlot_same, h.again.slot]; exact victim) found)
  rw [writeSlot_same, writeSlot_copy, h.entries, if_pos rfl, writeSlot_writeSlot] at plan
  obtain ⟨t, settles, left, entries⟩ := h.settles_writes plan nofun
  rw [h.again.slot] at left
  exact ⟨t, settles, left, entries⟩

section
variable (reserved : e.reservedBy = some j)
include reserved

/-- A victim that became NONE is its slot's entry, in fetch form, and is fetched (R26). -/
theorem ReplansOver.fetches (entry : x.entry = some i) (tag : e.tag = some v) (state : e.state = .none)
    (sole : ∀ m : EntryIx, w.copy.entries[m].tag = some v → m = i) : ∃ t, settle (writeSlot j y w) = t ∧
      HolderLeft s t [] (s.tracker.slots.set j { x with
        phase := .send, frame := some (varFrame (fetchFor c) v), waiting := none, entry := some i }) ∧
      ∀ m : EntryIx, t.copy.entries[m] = if i = m then e else s.copy.entries[m] := by
  have free : (writeSlot j y w).boundVar ≠ some v := by rw [h.free]; nofun
  have here : (writeSlot j y w).copy.entries[i] = e := by rw [writeSlot_copy, h.entries, if_pos rfl]
  have plan := (h.plan_eq var (not_unhold_of_needsEntry needs)).trans (planVar_of_fetch (s := writeSlot j y w) (i := i) free
    (by rw [← h.nodeId] at foreign; exact foreign) needs (entryOf_of_sole (by rw [here]; exact tag) sole)
    (by rw [here]; exact state) (by rw [here]; exact reserved))
  rw [writeSlot_same, writeSlot_writeSlot] at plan
  have kept : writeSlot j { y with
      phase := .send, frame := some (varFrame (fetchFor c) v), waiting := none, entry := some i } w =
      writeEntry i e (writeSlot j { y with
        phase := .send, frame := some (varFrame (fetchFor c) v), waiting := none, entry := some i } w) :=
    (writeEntry_self (s := writeSlot j _ w) (by rw [writeSlot_copy, h.entries, if_pos rfl])).symm
  obtain ⟨t, settles, left, entries⟩ := h.settles_writes (plan.trans kept) nofun
  rw [h.again.slot] at left
  exact ⟨t, settles, left, entries⟩

/-- A victim that became COPY is dropped and its entry fetched (R42). -/
theorem ReplansOver.drops (victim : x.victim = some i) (state : e.state = .copy)
    (untagged : ∀ m : EntryIx, w.copy.entries[m].tag ≠ some v) : ∃ t, settle (writeSlot j y w) = t ∧
      HolderLeft s t [] (s.tracker.slots.set j { x with
        phase := .send, frame := some (varFrame (fetchFor c) v), waiting := none, entry := some i, victim := none }) ∧
      ∀ m : EntryIx, t.copy.entries[m] = if i = m then { e with state := .none, tag := some v } else s.copy.entries[m] := by
  have here : (writeSlot j y w).copy.entries[i] = e := by rw [writeSlot_copy, h.entries, if_pos rfl]
  have plan := (h.plan_eq var (not_unhold_of_needsEntry needs)).trans (planVar_of_dropped (s := writeSlot j y w) (i := i) h.free
    (by rw [← h.nodeId] at foreign; exact foreign) needs untagged h.replanned_command var
    (by rw [writeSlot_same, h.again.slot]; exact victim) (by rw [here]; exact state) (by rw [here]; exact reserved))
  rw [here, writeSlot_same, writeSlot_writeSlot] at plan
  obtain ⟨t, settles, left, entries⟩ := h.settles_writes plan nofun
  rw [h.again.slot] at left
  exact ⟨t, settles, left, entries⟩

end

end

/-- A RELEASE whose entry is gone, or left a COPY, ends OK with the entry NONE (R106). -/
theorem ReplansOver.releases (body : c.body = .release v) (released : s.held v = false) (foreign : homeOf v ≠ s.nodeId)
    (unreserved : ∀ m : EntryIx, w.copy.entries[m].reservedBy = none)
    (gone : (e.state = .none ∧ e.tag = none ∧ ∀ m : EntryIx, w.copy.entries[m].tag ≠ some v) ∨
      (e.state = .copy ∧ w.entryOf v = some i)) : ∃ t, settle (writeSlot j y w) = t ∧
      HolderLeft s t [⟨c.tag, .release, .var v, .ok, x.tenures, none, none⟩] (s.tracker.slots.set j Slot.idle) ∧
      ∀ m : EntryIx, t.copy.entries[m] = if i = m then { e with state := .none, tag := none } else s.copy.entries[m] := by
  have free : (writeSlot j y w).boundVar ≠ some v := by rw [h.free]; nofun
  have plan := (h.plan_eq var (by rw [body]; nofun)).trans (planVar_of_release (s := writeSlot j y w) free body)
  obtain ⟨z, forgets, tenures, command⟩ : ∃ z, forgetEntry j v (writeSlot j y w) = writeSlot j z w ∧ z.tenures = x.tenures ∧
      z.command = some c := by
    rw [forgetEntry, writeSlot_same, writeSlot_writeSlot]
    exact ⟨_, rfl, by rw [h.again.slot], h.command⟩
  rw [forgets] at plan
  have notHeld : (writeSlot j z w).held v = false :=
    (held_congr (s := s) (t := writeSlot j z w) h.left.keeps.2.1 v).trans released
  have foreign' : homeOf v ≠ (writeSlot j z w).nodeId := by rw [← h.nodeId] at foreign; exact foreign
  have left := h.left.writeSlot j z
  have refunds : creditsReturned c.body .ok = 0 := by rw [body]; rfl
  have record : slotRecord c z.tenures ⟨.ok, none⟩ none = ⟨c.tag, .release, .var v, .ok, x.tenures, none, none⟩ := by
    rw [slotRecord, body, tenures]
    rfl
  have slot := writeSlot_same j z w
  obtain ⟨state, tag, untagged⟩ | ⟨state, entry⟩ := gone
  · have ends := plan.trans (planRelease_of_no_entry (k := j) notHeld foreign' (entryOf_of_untagged (s := writeSlot j z w) untagged))
    obtain ⟨t, settles, copy, done⟩ := h.settles_completed ends slot left command h.queue
      (fun m => by rw [writeSlot_copy, unreserved]; nofun) refunds
    rw [record] at done
    refine ⟨t, settles, done, fun m => ?_⟩
    rw [copy, writeSlot_copy, h.entries, ← state, ← tag]
  · have here : (writeSlot j z w).copy.entries[i] = e := by rw [writeSlot_copy, h.entries, if_pos rfl]
    have open' : (writeSlot j z w).copy.entries[i].reservedBy = none := unreserved i
    have ends := plan.trans ((planRelease_of_copy (s := writeSlot j z w) (k := j) notHeld foreign' entry
      (not_reservedByOther open' j) (by rw [here]; exact state)))
    rw [vacate_of_unreserved open', here] at ends
    obtain ⟨t, settles, copy, done⟩ := h.settles_completed ends (slot := slot) (left.writeEntry i _) command h.queue
      (fun m => by
        rw [writeEntry_entry]
        split
        · rw [← here, open']
          nofun
        · rw [writeSlot_copy, unreserved]
          nofun) refunds
    rw [record] at done
    refine ⟨t, settles, done, fun m => ?_⟩
    rw [copy, writeEntry_entry, writeSlot_copy, h.entries]
    by_cases same : i = m
    · rw [if_pos same, if_pos same]
    · rw [if_neg same, if_neg same, if_neg same]

end

end

theorem dependsOn_of_tag {s : State} {j : SlotIx} {c : Command} {v : VarNum} {i : EntryIx} (alone : s.planningAlone j c)
    (var : c.body.var? = some v) (tag : s.copy.entries[i].tag = some v) : dependsOn s.tracker.slots[j] s i = true := by
  obtain ⟨_, _, _, command, _⟩ := alone
  rw [dependsOn, command, tag, Option.map_some, Option.bind_some, var]
  simp

theorem dependsOn_of_victim {s : State} {x : Slot} {i : EntryIx} (victim : x.victim = some i) : dependsOn x s i = true := by
  rw [dependsOn, victim]
  simp

theorem ReplansOver.untagged {s w : State} {j : SlotIx} {c : Command} {x y : Slot} {i : EntryIx} {e : CopyEntry}
    (h : ReplansOver s w j c x y i e) {v : VarNum} (here : e.tag ≠ some v)
    (elsewhere : ∀ m : EntryIx, m ≠ i → s.copy.entries[m].tag ≠ some v) (m : EntryIx) : w.copy.entries[m].tag ≠ some v := by
  rw [h.entries]
  by_cases same : i = m
  · rw [if_pos same]
    exact here
  · rw [if_neg same]
    exact elsewhere m (Ne.symm same)

/-- A RELEASE in SEND or waiting on its binding ends with its entry taken or left a COPY (R106, R122). -/
theorem exec_of_release {s : State} {j : SlotIx} {c : Command} {tn : Tenure} {v : VarNum} {i : EntryIx} {e : CopyEntry}
    (alone : s.planningAlone j c) (close : s.link.phase = .close) (tenure : s.link.tenure = some tn)
    (committed : tn.outcome = some .committed) (release : c.body = .release v) (released : s.held v = false)
    (foreign : homeOf v ≠ s.nodeId) (unreserved : ∀ m : EntryIx, s.copy.entries[m].reservedBy = none)
    (tag : s.copy.entries[i].tag = some v) (sole : ∀ m : EntryIx, s.copy.entries[m].tag = some v → m = i)
    (commit : (commitTenure tn s).1 = writeEntry i e s) (differs : e.state ≠ s.copy.entries[i].state) (free : e.reservedBy = none)
    (gone : (e.state = .none ∧ e.tag = none) ∨ (e.state = .copy ∧ e.tag = some v)) : ∃ t, exec .tenureEnd s = .next t ∧
      HolderLeft s t [⟨c.tag, .release, .var v, .ok, s.tracker.slots[j].tenures, none, none⟩] (s.tracker.slots.set j Slot.idle) ∧
      ∀ m : EntryIx, t.copy.entries[m] = if i = m then { e with state := .none, tag := none } else s.copy.entries[m] := by
  have named : c.body.var? = some v := by rw [release]; rfl
  obtain ⟨y, again, run⟩ := exec_of_entry_changed alone close tenure committed (dependsOn_of_tag alone named tag)
    (fun same => by
      have kept := congrArg CopyEntry.state same
      exact differs kept) commit
  have replans := replansOver_of_planning alone again rfl i e
  obtain ⟨t, settles, left, entries⟩ := replans.releases named release released foreign (fun m => by
    rw [replans.entries]
    split
    · exact free
    · exact unreserved m) <| by
      obtain ⟨state, untagged⟩ | ⟨state, tagged⟩ := gone
      · exact .inl ⟨state, untagged, replans.untagged (by rw [untagged]; nofun) fun m other tagged => other (sole m tagged)⟩
      · refine .inr ⟨state, entryOf_of_sole (by rw [replans.entries, if_pos rfl]; exact tagged) fun m tagged => ?_⟩
        by_contra other
        rw [replans.entries, if_neg (Ne.symm other)] at tagged
        exact other (sole m tagged)
  exact ⟨t, run.trans (congrArg Host.Outcome.next settles), left, entries⟩

/-! ## The commit with the slots resting -/

/-- An unreserved entry as another node's commit leaves it (R30, R31). -/
def peerChange (tn : Tenure) (k : Kind) (v : VarNum) (e : CopyEntry) : CopyEntry :=
  match k with
  | .read => if e.state = .owned ∨ e.state = .dirty then { e with state := .copy } else e
  | .own | .claim => { e with state := .none, tag := none }
  | .purge => if sourceOf tn.h0 = homeOf v ∧ e.state = .copy then { e with state := .none, tag := none } else e
  | _ => e

theorem commitHolder_of_unreserved {s : State} {tn : Tenure} {v : VarNum} {i : EntryIx} (entry : s.entryOf v = some i)
    (held : s.copy.entries[i].state ≠ .none) (unreserved : s.copy.entries[i].reservedBy = none) (k : Kind) :
    commitHolder tn k v s = writeEntry i (peerChange tn k v s.copy.entries[i]) s := by
  have stays : commitHolder tn k v s = s → peerChange tn k v s.copy.entries[i] = s.copy.entries[i] →
      commitHolder tn k v s = writeEntry i (peerChange tn k v s.copy.entries[i]) s := fun kept same => by
    rw [kept, same, writeEntry_self rfl]
  have taken : commitHolder tn k v s = vacate i s → peerChange tn k v s.copy.entries[i] =
      { s.copy.entries[i] with state := .none, tag := none } →
      commitHolder tn k v s = writeEntry i (peerChange tn k v s.copy.entries[i]) s := fun vacates gone => by
    rw [vacates, gone, vacate_of_unreserved unreserved]
  cases k with
  | read =>
    by_cases own : s.copy.entries[i].state = .owned ∨ s.copy.entries[i].state = .dirty
    · rw [commitHolder_of_read entry own, peerChange, if_pos own]
    · have shared : ¬ s.copy.entries[i].exclusive = true := by simpa [CopyEntry.exclusive] using own
      exact stays (by rw [commitHolder, entry]; exact (if_neg held).trans (if_neg shared)) (if_neg own)
  | own => exact taken (commitHolder_of_taken entry held (.inl rfl)) rfl
  | claim => exact taken (commitHolder_of_taken entry held (.inr (.inl rfl))) rfl
  | purge =>
    by_cases purged : sourceOf tn.h0 = homeOf v ∧ s.copy.entries[i].state = .copy
    · exact taken (commitHolder_of_taken entry held (.inr (.inr ⟨rfl, purged⟩))) (if_pos purged)
    · exact stays (by rw [commitHolder, entry]; exact (if_neg held).trans (if_neg purged)) (if_neg purged)
  | writeback | giveBack | notice | join => exact stays (by rw [commitHolder, entry]; exact if_neg held) rfl

/-- Settles O45. -/
theorem holderCommits : Obligations.HolderCommits := by
  intro s tn h1 k participation close sender tenure header committed kind var v foreign change commits
  have full := full_of_participation participation
  have commit : commitTenure tn s = (commitHolder tn k v s, none) := by
    rw [commitTenure_of_var full kind var header, if_neg (by rw [not_ownsVar foreign]; exact Bool.false_ne_true), sender]
  have changeIs : change = peerChange tn k v := by
    funext e
    cases k <;> rfl
  have commits_of : ∀ {t : State} {entries : EntryIx → CopyEntry} {posted : List Completion} {slots : Vector Slot 4},
      exec .tenureEnd s = .next t → HolderLeft s t posted slots → (∀ m : EntryIx, t.copy.entries[m] = entries m) →
      commits t entries posted slots := fun run left entries => by
    obtain ⟨home, holds, notices, phase, bound, roster, participation, port⟩ := left.keeps
    exact ⟨run, entries, left.receive, home, left.completion, left.tracker, holds, notices, phase, bound, roster, participation, port⟩
  clear_value commits
  rw [changeIs]
  constructor
  · intro rest
    obtain ⟨por, queue, idle, unreserved⟩ := rest
    have run := exec_tenureEnd_of_idle por close tenure committed idle sender
    rw [commit] at run
    have ends : ∀ u : State, commitHolder tn k v s = u → u.tracker = s.tracker → u.closedFrom.port.queue = [] →
        exec .tenureEnd s = .next u.closedFrom := fun u is tracker queue => by
      rw [run, is, settle_of_still queue fun m => not_due_of_not_plan (by
        rw [closedFrom_tracker, tracker, idle m]
        nofun)]
    have left := holderLeft_closed s
    have closed : s.closedFrom.port.queue = [] := (closedFrom_queue s).trans queue
    by_cases holds : ∃ i : EntryIx, s.entryOf v = some i ∧ s.copy.entries[i].state ≠ .none
    · obtain ⟨i, entry, held⟩ := holds
      have changes := ends _ (commitHolder_of_unreserved entry held (unreserved i) k) rfl (by rw [closedFrom_writeEntry]; exact closed)
      rw [closedFrom_writeEntry] at changes
      refine ⟨_, commits_of changes (left.writeEntry i _) fun m => ?_⟩
      rw [writeEntry_entry, closedFrom_entries]
      by_cases same : i = m
      · subst same
        rw [if_pos rfl, if_pos ⟨entry, held⟩]
      · rw [if_neg same, if_neg fun both => same (Option.some.inj (entry.symm.trans both.1))]
    · have kept : commitHolder tn k v s = s := by
        rw [commitHolder]
        cases entry : s.entryOf v with
        | none => rfl
        | some i => exact if_pos (not_not.mp fun held => holds ⟨i, entry, held⟩)
      refine ⟨_, commits_of (ends s kept rfl closed) left fun m => ?_⟩
      rw [closedFrom_entries, if_neg fun both => holds ⟨m, both⟩]
  · intro j c i alone entry x e becomes sends
    have tag : e.tag = some v := tag_of_entryOf entry
    refine ⟨fun unreserved victim named state writes sole lower takes => ?_,
      fun unreserved release released own sole takes => ?_,
      fun w named needs elsewhere untagged victim reserved own takes => ?_⟩
    · have held : e.state ≠ .none := by rw [state]; nofun
      have needs : c.body.code.needsEntry := .inr writes
      have fetch : fetchFor c = .own := if_neg fun load => by obtain h | h | h := writes <;> cases load.symm.trans h
      have vacates : (commitTenure tn s).1 = writeEntry i { e with state := .none, tag := none } s := by
        rw [commit]
        refine (commitHolder_of_taken entry held ?_).trans (vacate_of_unreserved (unreserved i))
        obtain own | claim | ⟨purge, source⟩ := takes
        · exact .inl own
        · exact .inr (.inl claim)
        · exact .inr (.inr ⟨purge, source, state⟩)
      obtain ⟨y, again, run⟩ := exec_of_entry_changed alone close tenure committed (dependsOn_of_tag alone named tag)
        (fun same => by cases tag.symm.trans (congrArg CopyEntry.tag same).symm) vacates
      have replans := replansOver_of_planning alone again rfl i { e with state := .none, tag := none }
      have untagged := replans.untagged (v := v) nofun fun m other tagged => other (sole m tagged)
      obtain ⟨t, settles, left, entries⟩ := replans.fetches_anew named foreign needs victim untagged
        (find_finRange (by rw [replans.entries, if_pos rfl, unreserved i]; rfl) fun m lt => by
          rw [replans.entries, if_neg (Fin.ne_of_gt lt), beq_false_of_ne (lower m lt), Bool.false_and])
      rw [fetch] at left
      exact ⟨t, commits_of (run.trans (congrArg Host.Outcome.next settles)) left fun m => (entries m).trans (if_congr eq_comm rfl rfl)⟩
    · have named : c.body.var? = some v := by rw [release]; rfl
      have held : e.state ≠ .none := by obtain state | state := own <;> rw [state] <;> nofun
      have ended : ∀ e1 : CopyEntry, (commitTenure tn s).1 = writeEntry i e1 s → e1.state ≠ e.state →
          { e1 with state := .none, tag := none } = { e with state := .none, tag := none } →
          (e1.state = .none ∧ e1.tag = none) ∨ (e1.state = .copy ∧ e1.tag = some v) →
          ∃ t, commits t (becomes { e with state := .none, tag := none })
            [⟨c.tag, .release, .var v, .ok, x.tenures, none, none⟩] (s.tracker.slots.set j Slot.idle) :=
        fun e1 written differs same gone => by
          obtain ⟨t, run, left, entries⟩ := exec_of_release alone close tenure committed release released foreign unreserved tag
            sole written differs ((congrArg CopyEntry.reservedBy same).trans (unreserved i)) gone
          rw [same] at entries
          exact ⟨t, commits_of run left fun m => (entries m).trans (if_congr eq_comm rfl rfl)⟩
      obtain rfl | taken := takes
      · exact ended { e with state := .copy } (by rw [commit]; exact commitHolder_of_read (tn := tn) entry own)
          (by obtain state | state := own <;> rw [state] <;> nofun) rfl (.inr ⟨rfl, tag⟩)
      · refine ended { e with state := .none, tag := none } ?_ held.symm rfl (.inl ⟨rfl, rfl⟩)
        rw [commit]
        exact (commitHolder_of_taken entry held (taken.imp_right .inl)).trans (vacate_of_unreserved (unreserved i))
    · have held : e.state ≠ .none := by obtain state | state := own <;> rw [state] <;> nofun
      have depends : dependsOn x s i = true := dependsOn_of_victim victim
      obtain rfl | taken := takes
      · obtain ⟨y, again, run⟩ := exec_of_entry_changed alone close tenure committed (e := { e with state := .copy }) depends
          (fun same => by
            have kept : CopyState.copy = e.state := congrArg CopyEntry.state same
            obtain state | state := own <;> cases kept.trans state)
          (by rw [commit]; exact commitHolder_of_read (tn := tn) entry own)
        have replans := replansOver_of_planning alone again rfl i { e with state := .copy }
        obtain ⟨t, settles, left, entries⟩ := replans.drops named elsewhere needs reserved victim rfl
          (replans.untagged (untagged i) fun m _ => untagged m)
        exact ⟨t, commits_of (run.trans (congrArg Host.Outcome.next settles)) left fun m => (entries m).trans (if_congr eq_comm rfl rfl)⟩
      · have slotVar : s.slotVar j = some w := by
          obtain ⟨_, _, _, command, _⟩ := alone
          exact (slotVar_of_some command).trans named
        have vacates : (commitTenure tn s).1 = writeSlot j { s.tracker.slots[j] with entry := some i, victim := none }
            (writeEntry i { e with state := .none, tag := some w } s) := by
          rw [commit, ← slotVar]
          exact (commitHolder_of_taken entry held (taken.imp_right .inl)).trans (vacate_of_reserved reserved)
        obtain ⟨y, again, run⟩ := exec_of_victim_changed alone close tenure committed depends
          (fun same => held (congrArg CopyEntry.state same).symm) vacates
        have replans := replansOver_of_planning alone again rfl i { e with state := .none, tag := some w }
        obtain ⟨t, settles, left, entries⟩ := replans.fetches named elsewhere needs reserved rfl rfl rfl fun m tagged => by
          by_contra other
          rw [replans.entries, if_neg (Ne.symm other)] at tagged
          exact untagged m tagged
        exact ⟨t, commits_of (run.trans (congrArg Host.Outcome.next settles)) left fun m => (entries m).trans (if_congr eq_comm rfl rfl)⟩

end Sys2Proof.Machine

/-!
PROOF. The commit of this node's own tenure with its command applied to a copy entry or to a home record (R13 to R21, R27,
R33 to R35, R127, R132).
-/

namespace Sys2Proof.Machine

/-! ## The command's end -/

theorem h1Var_setWidth (v : VarNum) : h1Var (v.setWidth 16) = v := by
  rw [h1Var]
  refine BitVec.eq_of_toNat_eq ?_
  have lt := v.isLt
  simp only [BitVec.extractLsb'_toNat, BitVec.toNat_setWidth, Nat.shiftRight_zero]
  omega

/-- `t` is `s` with the own tenure ended and its slot's command complete, the other blocks from the commit. -/
structure OwnEnded (s t : State) (k : SlotIx) (c : Command) (r : CmdResult) (holds : Vector (Option HoldRecord) 4)
    (completion : CompletionUnit) : Prop where
  run : exec .tenureEnd s = .next t
  pointer : t.tracker.pointer = s.tracker.pointer
  receive : t.copy.receive = []
  capture : t.home.capture = []
  phase : t.link.phase = .idle
  bound : t.boundVar = none
  holds : t.holds = holds
  participation : t.participation = s.participation
  slots : ∀ j : SlotIx, t.tracker.slots[j] = Slot.idle
  completion : t.completion = { completion with
    free := completion.free + creditsReturned c.body r.status
    queue := completion.queue ++ [slotRecord c s.tracker.slots[k].tenures r none] }

section
variable {s : State} {k : SlotIx} {c : Command} {tn : Tenure} (alone : s.sendingAlone k c) (close : s.link.phase = .close)
  (tenure : s.link.tenure = some tn) (committed : tn.outcome = some .committed)
include alone close tenure committed

/-- The slot's command completes on what the commit left. -/
theorem exec_of_completes_own {u : State} {r : CmdResult} {d : Option CmdResult} (commit : commitTenure tn s = (u, d))
    (completes : ∀ t : State, t.tracker = s.tracker → ∀ m, deliverCommit k d m t = complete k r none t) (tracker : u.tracker = s.tracker)
    (port : u.port = s.port) (participation : u.participation = s.participation)
    (unreserved : ∀ m : EntryIx, u.copy.entries[m].reservedBy ≠ some k) :
    ∃ t, OwnEnded s t k c r u.holds u.completion ∧ t.copy.entries = u.copy.entries ∧ t.home.records = u.home.records := by
  have lone := loneSender_of_sendingAlone alone
  obtain ⟨por, queue, others, _, command, sender, _⟩ := alone
  have run := exec_tenureEnd_of_sender por close tenure committed lone sender (by rw [commit]; intro j ne; rw [tracker]; exact others j ne)
  obtain ⟨w, eq⟩ : ∃ w, w = u.closedFrom := ⟨_, rfl⟩
  have wTracker : w.tracker = s.tracker := by rw [eq, closedFrom_tracker, tracker]
  rw [commit, ← eq, completes w wTracker] at run
  have done := complete_of_unreserved (s := w) (k := k) (c := c) (by rw [wTracker]; exact command)
    (fun m => by rw [eq, closedFrom_entries]; exact unreserved m) r none
  have wQueue : w.port.queue = [] := by rw [eq, closedFrom_queue, port, queue]
  rw [done, wTracker, settle_of_still (by simpa using wQueue) (still_of_lone others (z := Slot.idle) rfl (.inl nofun))] at run
  rw [eq, closedFrom_eq] at run
  refine ⟨_, ⟨run, ?_, ?_, ?_, ?_, ?_, ?_, ?_, ?_, ?_⟩, ?_, ?_⟩
  · simp
  · simp
  · simp
  · simp
  · simp [State.boundVar]
  · simp
  · simpa using participation
  · exact lone.slots_idle (by simp)
  · simp
  · simp
  · simp

theorem exec_of_own_applied {u : State} {r : CmdResult} (commit : commitTenure tn s = (u, some r)) (tracker : u.tracker = s.tracker)
    (port : u.port = s.port) (participation : u.participation = s.participation)
    (unreserved : ∀ m : EntryIx, u.copy.entries[m].reservedBy ≠ some k) :
    ∃ t, OwnEnded s t k c r u.holds u.completion ∧ t.copy.entries = u.copy.entries ∧ t.home.records = u.home.records :=
  exec_of_completes_own alone close tenure committed commit (fun _ _ _ => rfl) tracker port participation unreserved

/-! ## Applied to a copy entry -/

/-- The entry as the command left it, promoted (R27, R34). -/
theorem exec_of_applied_copy {i : EntryIx} {e : CopyEntry} {holds : Vector (Option HoldRecord) 4} {r : CmdResult}
    (commit : commitTenure tn s = ((promote i (writeEntry i e s)).setHolds holds, some r)) (free : e.reservedBy = none)
    (others : ∀ m : EntryIx, m ≠ i → s.copy.entries[m].reservedBy = none) :
    ∃ t, OwnEnded s t k c r holds s.completion ∧ t.home.records = s.home.records ∧
      ∀ m : EntryIx, t.copy.entries[m] = if m = i then { e with age := 0 } else { s.copy.entries[m] with
        age := if s.copy.entries[m].age < e.age then s.copy.entries[m].age + 1 else s.copy.entries[m].age } := by
  obtain ⟨u, eq⟩ : ∃ u, u = promote i (writeEntry i e s) := ⟨_, rfl⟩
  have entries : ∀ m : EntryIx, u.copy.entries[m] = if m = i then { e with age := 0 } else { s.copy.entries[m] with
      age := if s.copy.entries[m].age < e.age then s.copy.entries[m].age + 1 else s.copy.entries[m].age } := fun m => by
    rw [eq, promote_entry, writeEntry_same]
    by_cases here : m = i
    · subst here
      rw [writeEntry_same, if_pos rfl, if_pos rfl]
    · rw [writeEntry_other here, if_neg here, if_neg here]
  have keeps : u.tracker = s.tracker ∧ u.port = s.port ∧ u.participation = s.participation ∧ u.completion = s.completion ∧
      u.home = s.home := by
    rw [eq, promote, writeEntry]
    simp
  obtain ⟨tracker, port, participation, completion, home⟩ := keeps
  rw [← eq] at commit
  obtain ⟨t, ended, table, records⟩ := exec_of_own_applied alone close tenure committed commit tracker port participation fun m => by
    rw [State.setHolds_copy, entries]
    split
    · rw [free]
      nofun
    · rename_i other
      rw [others m other]
      nofun
  rw [State.setHolds_completion, completion] at ended
  refine ⟨t, ended, records.trans (by rw [State.setHolds_home, home]), fun m => ?_⟩
  rw [table, State.setHolds_copy, entries]

end

section
variable {s : State} {c : Command} {v : VarNum} {i : EntryIx} {e : CopyEntry}

theorem applyCopy_written_load {w : VarNum} (body : c.body = .load w) : applyCopy c v i (writeEntry i e s) =
    ((promote i (writeEntry i e s)).setHolds s.holds, some ⟨.ok, some e.value⟩) := by
  rw [applyCopy_of_load body, writeEntry_same]
  rfl

theorem applyCopy_written_store {w : VarNum} {mask : BitVec 8} {payload : Value} (body : c.body = .store w mask payload) :
    applyCopy c v i (writeEntry i e s) = ((promote i (writeEntry i
      { e with value := mergeMasked mask payload e.value, state := .dirty } s)).setHolds s.holds, some ⟨.ok, none⟩) := by
  rw [applyCopy_of_store body, writeEntry_same, writeEntry_writeEntry]
  rfl

theorem applyCopy_written_match {w : VarNum} {compare : BitVec 32} {payload : Value} (body : c.body = .swap w compare payload)
    (same : word0 e.value = compare) : applyCopy c v i (writeEntry i e s) =
      ((promote i (writeEntry i { e with value := payload, state := .dirty } s)).setHolds s.holds, some ⟨.ok, none⟩) := by
  rw [applyCopy_of_match body (by rw [writeEntry_same]; exact same), writeEntry_same, writeEntry_writeEntry]
  rfl

theorem applyCopy_written_mismatch {w : VarNum} {compare : BitVec 32} {payload : Value} (body : c.body = .swap w compare payload)
    (differs : word0 e.value ≠ compare) : applyCopy c v i (writeEntry i e s) =
      ((promote i (writeEntry i e s)).setHolds s.holds, some ⟨.mismatch, some e.value⟩) := by
  rw [applyCopy_of_mismatch body (by rw [writeEntry_same]; exact differs), writeEntry_same]
  rfl

section
variable {w : VarNum} {d : BitVec 8} (body : c.body = .hold w d) (held : s.held v = false)
include body held

theorem applyCopy_written_full (full : s.freeHold = none) : applyCopy c v i (writeEntry i e s) =
    ((promote i (writeEntry i e s)).setHolds s.holds, some ⟨.holdFull, none⟩) := by
  have held' : (writeEntry i e s).held v = false := (held_congr rfl v).trans held
  have full' : (writeEntry i e s).freeHold = none := (freeHold_congr rfl).trans full
  rw [applyCopy_of_hold body, enterHold_of_full held' full']
  rfl

theorem applyCopy_written_hold {r : HoldIx} (free : s.freeHold = some r) : applyCopy c v i (writeEntry i e s) =
    ((promote i (writeEntry i e s)).setHolds (s.holds.set r (some ⟨v, c.tag, d.toNat, 0⟩)), some ⟨.ok, none⟩) := by
  have held' : (writeEntry i e s).held v = false := (held_congr rfl v).trans held
  have free' : (writeEntry i e s).freeHold = some r := (freeHold_congr rfl).trans free
  rw [applyCopy_of_hold body, enterHold_of_free held' free']
  rfl

end

end

/-! ## Applied to a home record -/

section
variable {s u : State} {c : Command} {v : VarNum} {q : HomeRecord} {reclaimed error : Bool}

theorem RecordChanged.holds (h : RecordChanged s u v q reclaimed error) : u.holds = s.holds := by
  obtain ⟨_, holds, _⟩ := h.keeps
  exact holds

/-- The record as the command left it, the holds as given, the command's result. -/
def AppliedHome (s : State) (c : Command) (v : VarNum) (u : State) (q : HomeRecord) (reclaimed error : Bool)
    (holds : Vector (Option HoldRecord) 4) (r : CmdResult) : Prop :=
  ∃ w, applyHome c v u = (w.setHolds holds, some r) ∧ RecordChanged s w v q reclaimed error

section
variable (h : RecordChanged s u v q reclaimed error)
include h

theorem AppliedHome.of_load {w : VarNum} (body : c.body = .load w) :
    AppliedHome s c v u q reclaimed error s.holds ⟨.ok, some q.value⟩ := by
  refine ⟨u, ?_, h⟩
  rw [applyHome_of_load body, h.record, ← h.holds]
  rfl

theorem AppliedHome.of_store {w : VarNum} {mask : BitVec 8} {payload : Value} (body : c.body = .store w mask payload) :
    AppliedHome s c v u { q with value := mergeMasked mask payload q.value } reclaimed error s.holds ⟨.ok, none⟩ := by
  refine ⟨_, ?_, h.write _⟩
  rw [applyHome_of_store body, h.record, ← h.holds]
  rfl

theorem AppliedHome.of_match {w : VarNum} {compare : BitVec 32} {payload : Value} (body : c.body = .swap w compare payload)
    (same : word0 q.value = compare) :
    AppliedHome s c v u { q with value := payload } reclaimed error s.holds ⟨.ok, none⟩ := by
  refine ⟨_, ?_, h.write _⟩
  rw [applyHome_of_match body (by rw [h.record]; exact same), h.record, ← h.holds]
  rfl

theorem AppliedHome.of_mismatch {w : VarNum} {compare : BitVec 32} {payload : Value} (body : c.body = .swap w compare payload)
    (differs : word0 q.value ≠ compare) :
    AppliedHome s c v u q reclaimed error s.holds ⟨.mismatch, some q.value⟩ := by
  refine ⟨u, ?_, h⟩
  rw [applyHome_of_mismatch body (by rw [h.record]; exact differs), h.record, ← h.holds]
  rfl

theorem AppliedHome.of_guard {w : VarNum} {level : Guard} (body : c.body = .guard w level) :
    AppliedHome s c v u { q with guard := level } reclaimed error s.holds ⟨.ok, none⟩ := by
  refine ⟨_, ?_, h.write _⟩
  rw [applyHome_of_guard body, h.record, ← h.holds]
  rfl

section
variable {w : VarNum} {d : BitVec 8} (body : c.body = .hold w d) (held : s.held v = false)
include body held

theorem AppliedHome.of_full (full : s.freeHold = none) :
    AppliedHome s c v u q reclaimed error s.holds ⟨.holdFull, none⟩ := by
  refine ⟨u, ?_, h⟩
  rw [applyHome_of_hold body, enterHold_of_full ((held_congr h.holds v).trans held) ((freeHold_congr h.holds).trans full), ← h.holds]
  rfl

theorem AppliedHome.of_hold {r : HoldIx} (free : s.freeHold = some r) : AppliedHome s c v u q reclaimed error
    (s.holds.set r (some ⟨v, c.tag, d.toNat, 0⟩)) ⟨.ok, none⟩ := by
  refine ⟨u, ?_, h⟩
  rw [applyHome_of_hold body, enterHold_of_free ((held_congr h.holds v).trans held) ((freeHold_congr h.holds).trans free), h.holds]

end

end

end

end Sys2Proof.Machine

/-!
PROOF. The commit of this node's own WRITEBACK or RETURN: a RELEASE ends, an eviction fetches, a FLUSH or LEAVE goes on
(R26, R36, R123, R127, R187 to R192).
-/

namespace Sys2Proof.Machine

/-! ## The slot goes on -/

/-- The slot in PLAN again after a commit (R127). -/
def Slot.replanned (x : Slot) : Slot := { x with phase := .plan, frame := none, waiting := none }

theorem Slot.replans (x : Slot) : Replans x x.replanned := ⟨rfl, .inl rfl⟩

theorem deliverCommit_of_body {s : State} {k : SlotIx} {b : Body} (body : s.slotBody k = some b)
    (goesOn : b.code ≠ .release ∧ b.code ≠ .notice ∧ b.code ≠ .join) (m : Option NodeMask) :
    deliverCommit k none m s = replan k s := by
  obtain ⟨release, notice, join⟩ := goesOn
  unfold deliverCommit
  rw [body]
  cases b with
  | release => exact absurd rfl release
  | notice => exact absurd rfl notice
  | join => exact absurd rfl join
  | _ => rfl

theorem deliverCommit_of_release {s : State} {k : SlotIx} {v : VarNum} (body : s.slotBody k = some (.release v)) (m : Option NodeMask) :
    deliverCommit k none m s = complete k ⟨.ok, none⟩ none s := by
  unfold deliverCommit
  rw [body]

section
variable {s : State} {k : SlotIx} {c : Command} {tn : Tenure} (alone : s.sendingAlone k c) (close : s.link.phase = .close)
  (tenure : s.link.tenure = some tn) (committed : tn.outcome = some .committed)
include alone close tenure committed

theorem exec_of_goes_on {u : State} {z : Slot} (commit : commitTenure tn s = (u, none))
    (others : ∀ j : SlotIx, j ≠ k → u.tracker.slots[j] = Slot.idle) (slot : u.tracker.slots[k] = z) (command : z.command = some c)
    (goesOn : c.body.code ≠ .release ∧ c.body.code ≠ .notice ∧ c.body.code ≠ .join) :
    exec .tenureEnd s = .next (settle (writeSlot k z.replanned u.closedFrom)) := by
  have lone := loneSender_of_sendingAlone alone
  obtain ⟨por, _, _, _, _, sender, _⟩ := alone
  have run := exec_tenureEnd_of_sender por close tenure committed lone sender (by rw [commit]; exact others)
  have tracker := closedFrom_tracker u
  have body : u.closedFrom.slotBody k = some c.body := slotBody_of_command (by rw [tracker, slot]; exact command)
  rw [commit, deliverCommit_of_body body goesOn, replan, tracker, slot] at run
  exact run

end

theorem replansOver_of_sending {s : State} {k : SlotIx} {c : Command} (alone : s.sendingAlone k c) {x : Slot}
    (command : x.command = s.tracker.slots[k].command) (i : EntryIx) (e : CopyEntry) :
    ReplansOver s (writeEntry i e s.closedFrom) k c x x.replanned i e := by
  obtain ⟨_, queue, idle, _, carries, _⟩ := alone
  have tracker := closedFrom_tracker s
  refine ⟨(holderLeft_closed s).writeEntry i e, fun m ne => ?_, x.replans, command.trans carries, fun m => ?_, closedFrom_tenure s,
    (closedFrom_queue s).trans queue, closedFrom_nodeId s⟩
  · rw [writeEntry_tracker, tracker, idle m ne]
  · rw [writeEntry_entry, closedFrom_entries]

/-! ## A barrier's next entry -/

/-- A barrier's state once its give-back of entry `i` has committed, its slot to plan (R127). -/
def State.gaveBack (s : State) (k : SlotIx) (i : EntryIx) : State :=
  writeSlot k s.tracker.slots[k].replanned (writeEntry i { s.copy.entries[i] with state := .none, tag := none } s.closedFrom)

/-- The entry is still OWNED or DIRTY, the one given back aside. -/
def stillExclusive (s : State) (i j : EntryIx) : Bool := decide (j ≠ i) && s.copy.entries[j].exclusive

/-- An entry once a barrier has given back entry `i` and dropped the copies (R36, R187). -/
def drainedEntry (s : State) (i j : EntryIx) : CopyEntry :=
  if j = i ∨ s.copy.entries[j].state = .copy then { s.copy.entries[j] with state := .none, tag := none } else s.copy.entries[j]

section
variable (s : State) (k : SlotIx) (i : EntryIx)

theorem gaveBack_entry (j : EntryIx) : (s.gaveBack k i).copy.entries[j] =
    if i = j then { s.copy.entries[i] with state := .none, tag := none } else s.copy.entries[j] := by
  rw [State.gaveBack, writeSlot_copy, writeEntry_entry, closedFrom_entries]

theorem gaveBack_slot : (s.gaveBack k i).tracker.slots[k] = s.tracker.slots[k].replanned := writeSlot_same k _ _

theorem gaveBack_left : HolderLeft s (s.gaveBack k i) [] (s.tracker.slots.set k s.tracker.slots[k].replanned) :=
  ((holderLeft_closed s).writeEntry i _).writeSlot k _

theorem gaveBack_exclusive (j : EntryIx) : (s.gaveBack k i).copy.entries[j].exclusive = stillExclusive s i j := by
  rw [gaveBack_entry, stillExclusive]
  by_cases same : i = j
  · rw [if_pos same, same]
    simp [CopyEntry.exclusive]
  · rw [if_neg same, decide_eq_true (Ne.symm same), Bool.true_and]

theorem gaveBack_dropped (j : EntryIx) : (copiesDropped (s.gaveBack k i).copy).entries[j] = drainedEntry s i j := by
  rw [copiesDropped_entry, gaveBack_entry, drainedEntry]
  by_cases same : i = j
  · rw [if_pos same, if_pos (Or.inl same.symm : j = i ∨ s.copy.entries[j].state = .copy), same]
    exact if_neg nofun
  · rw [if_neg same]
    exact if_congr (by simp [Ne.symm same]) rfl rfl

theorem gaveBack_pruned : (s.gaveBack k i).prunedSlot k = { s.tracker.slots[k].replanned with
    entry := none, stranded := s.tracker.slots[k].stranded.filter (stillExclusive s i) } := by
  rw [State.prunedSlot, gaveBack_slot]
  simp only [gaveBack_exclusive]
  rfl

theorem gaveBack_offered (j : EntryIx) : offeredApart (s.gaveBack k i) (s.gaveBack k i).tracker.slots[k].stranded j =
    (stillExclusive s i j && !(s.tracker.slots[k].stranded.filter (stillExclusive s i)).contains j &&
      (s.copy.entries[j].tag).any fun w => (List.finRange 4).all fun r => (s.holds[r]).all fun h => h.var != w) := by
  have held : ∀ w, (s.gaveBack k i).held w = s.held w := held_congr (gaveBack_left s k i).keeps.2.1
  rw [offeredApart, offered, gaveBack_slot, gaveBack_exclusive]
  cases still : stillExclusive s i j with
  | false => simp only [Bool.false_and]
  | true =>
    have other : ¬ i = j := by
      rw [stillExclusive, Bool.and_eq_true, decide_eq_true_eq] at still
      exact Ne.symm still.1
    have listed : (s.tracker.slots[k].stranded.filter (stillExclusive s i)).contains j = s.tracker.slots[k].stranded.contains j := by
      rw [Bool.eq_iff_iff]
      simp only [List.contains_iff_mem, List.mem_filter, still, and_true]
    rw [gaveBack_entry, if_neg other, listed]
    simp only [held, not_held_eq, Bool.true_and, Slot.replanned, Bool.and_comm]

end

section
variable {s t : State} {posted : List Completion} {slots : Vector Slot 4}

theorem HolderLeft.setCopy (h : HolderLeft s t posted slots) (x : CopyUnit) (receive : x.receive = []) :
    HolderLeft s (t.setCopy x) posted slots := by
  refine ⟨?_, receive, h.completion, h.tracker⟩
  rw [h.frame]
  rfl

end

theorem copiesDropped_receive (c : CopyUnit) : (copiesDropped c).receive = c.receive := by
  rw [copiesDropped]

section
variable {s : State} {k : SlotIx} {c : Command} {i : EntryIx} (alone : s.sendingAlone k c)
  (unreserved : ∀ m : EntryIx, s.copy.entries[m].reservedBy = none) (barrier : c.body = .flush ∨ c.body = .leave)
include alone unreserved barrier

omit barrier alone in
theorem gaveBack_unreserved (m : EntryIx) : (s.gaveBack k i).copy.entries[m].reservedBy = none := by
  rw [gaveBack_entry]
  split
  · exact unreserved i
  · exact unreserved m

omit unreserved barrier in
theorem gaveBack_command : (s.gaveBack k i).tracker.slots[k].command = some c := by
  obtain ⟨_, _, _, _, command, _⟩ := alone
  rw [gaveBack_slot]
  exact command

omit alone unreserved barrier in
theorem gaveBack_unbound (s : State) (k : SlotIx) (i : EntryIx) : (s.gaveBack k i).boundVar = none :=
  (gaveBack_left s k i).keeps.2.2.2.2.1

omit unreserved barrier in
theorem gaveBack_settle {t : State} {z : Slot} (planned : planSlot k (s.gaveBack k i) = t) (queue : t.port.queue = [])
    (slots : t.tracker.slots = s.tracker.slots.set k z) (still : z.phase ≠ .plan ∨ z.waiting = some .holds) :
    settle (s.gaveBack k i) = t := by
  obtain ⟨_, _, idle, _⟩ := alone
  refine settle_replanned (k := k) (fun j ne => ?_) rfl rfl planned queue (z := z) ?_ (still.imp_right .inl)
  · rw [writeEntry_tracker, closedFrom_tracker, idle j ne]
  · rw [slots, writeEntry_tracker, closedFrom_tracker]

omit unreserved barrier in
theorem gaveBack_settle_left {t : State} {posted : List Completion} {z : Slot} (planned : planSlot k (s.gaveBack k i) = t)
    (left : HolderLeft s t posted (s.tracker.slots.set k z)) (still : z.phase ≠ .plan ∨ z.waiting = some .holds) :
    settle (s.gaveBack k i) = t := by
  obtain ⟨_, _, _, _, _, _, _, port⟩ := left.keeps
  have parts := alone
  obtain ⟨_, queue, _⟩ := parts
  exact gaveBack_settle alone planned (by rw [port, queue]) (by rw [left.tracker]) still

omit unreserved in
/-- What the barrier's plan leaves, its slot as `z`. -/
theorem gaveBack_settles {z : Slot} (plan : planDrain k c.body (s.gaveBack k i) =
      (writeSlot k z (s.gaveBack k i)).setCopy (copiesDropped (s.gaveBack k i).copy))
    (still : z.phase ≠ .plan ∨ z.waiting = some .holds) :
    ∃ t, settle (s.gaveBack k i) = t ∧ HolderLeft s t [] (s.tracker.slots.set k z) ∧
      ∀ j : EntryIx, t.copy.entries[j] = drainedEntry s i j := by
  have left := ((gaveBack_left s k i).writeSlot k z).setCopy (copiesDropped (s.gaveBack k i).copy)
    ((copiesDropped_receive _).trans (gaveBack_left s k i).receive)
  rw [slots_set_set] at left
  have planned := (planSlot_of_barrier (gaveBack_command (i := i) alone) barrier).trans plan
  exact ⟨_, gaveBack_settle_left alone planned left still, left, gaveBack_dropped s k i⟩

end

section
variable {s : State} {k : SlotIx} {c : Command} {i : EntryIx} (alone : s.sendingAlone k c)
  (unreserved : ∀ m : EntryIx, s.copy.entries[m].reservedBy = none) (barrier : c.body = .flush ∨ c.body = .leave)
include alone unreserved barrier

/-- The barrier offers its next entry (R187). -/
theorem gaveBack_offers {j : EntryIx} {w : VarNum}
    (offers : (List.finRange 32).find? (offeredApart (s.gaveBack k i) (s.gaveBack k i).tracker.slots[k].stranded) = some j)
    (tag : s.copy.entries[j].tag = some w) : ∃ t, settle (s.gaveBack k i) = t ∧
      HolderLeft s t [] (s.tracker.slots.set k { s.tracker.slots[k] with
        phase := .send
        frame := some (varFrame (giveBackKind s.copy.entries[j]) w)
        waiting := none
        entry := some j
        stranded := s.tracker.slots[k].stranded.filter (stillExclusive s i) }) ∧
      ∀ m : EntryIx, t.copy.entries[m] = drainedEntry s i m := by
  have other : ¬ i = j := by
    have chosen := List.find?_some offers
    rw [gaveBack_offered, Bool.and_eq_true, Bool.and_eq_true, stillExclusive, Bool.and_eq_true, decide_eq_true_eq] at chosen
    exact Ne.symm chosen.1.1.1
  have here : (s.gaveBack k i).copy.entries[j] = s.copy.entries[j] := by rw [gaveBack_entry, if_neg other]
  have plan := planDrain_offers (gaveBack_unbound s k i) (gaveBack_unreserved unreserved) offers (by rw [here]; exact tag) c.body
  rw [here, gaveBack_pruned] at plan
  exact gaveBack_settles alone barrier plan (.inl nofun)

section
variable (none' : ∀ j : EntryIx, offeredApart (s.gaveBack k i) (s.gaveBack k i).tracker.slots[k].stranded j = false)
include none'

theorem gaveBack_waits {r : HoldIx} (active : s.holds[r] ≠ none) : ∃ t, settle (s.gaveBack k i) = t ∧
      HolderLeft s t [] (s.tracker.slots.set k { s.tracker.slots[k] with
        phase := .plan
        frame := none
        waiting := some .holds
        entry := none
        stranded := s.tracker.slots[k].stranded.filter (stillExclusive s i) }) ∧
      ∀ m : EntryIx, t.copy.entries[m] = drainedEntry s i m := by
  have holds : (s.gaveBack k i).holds = s.holds := (gaveBack_left s k i).keeps.2.1
  have plan := planDrain_waits (gaveBack_unbound s k i) (gaveBack_unreserved unreserved) none'
    (anyHold_of_active (r := r) (by rw [holds]; exact active)) c.body
  rw [gaveBack_pruned] at plan
  exact gaveBack_settles alone barrier plan (.inr rfl)

section
variable (released : ∀ r : HoldIx, s.holds[r] = none)
include released

omit barrier in
/-- With nothing left to offer the barrier ends, from its table with the copies dropped (R187). -/
theorem gaveBack_ends : planDrain k c.body (s.gaveBack k i) = barrierEnd k c.body ((s.gaveBack k i).dropped k) ∧
    HolderLeft s ((s.gaveBack k i).dropped k) []
      (s.tracker.slots.set k ((s.gaveBack k i).prunedSlot k)) ∧
    ∀ m : EntryIx, ((s.gaveBack k i).dropped k).copy.entries[m] = drainedEntry s i m := by
  have holds : (s.gaveBack k i).holds = s.holds := (gaveBack_left s k i).keeps.2.1
  have left := ((gaveBack_left s k i).writeSlot k ((s.gaveBack k i).prunedSlot k)).setCopy (copiesDropped (s.gaveBack k i).copy)
    ((copiesDropped_receive _).trans (gaveBack_left s k i).receive)
  rw [slots_set_set] at left
  exact ⟨planDrain_ends (gaveBack_unbound s k i) (gaveBack_unreserved unreserved) none'
    (anyHold_of_none (by rw [holds]; exact released)) c.body, left, gaveBack_dropped s k i⟩

theorem gaveBack_ends_flush (flush : c.body = .flush) : ∃ t, settle (s.gaveBack k i) = t ∧
    HolderLeft s t [⟨c.tag, .flush, .absent, if s.tracker.slots[k].stranded.filter (stillExclusive s i) = [] then .ok else .noHome,
      s.tracker.slots[k].tenures, none, none⟩] (s.tracker.slots.set k Slot.idle) ∧
    ∀ m : EntryIx, t.copy.entries[m] = drainedEntry s i m := by
  obtain ⟨plan, left, entries⟩ := gaveBack_ends alone unreserved none' released
  have slot := dropped_slot (s.gaveBack k i) k
  have command := gaveBack_command (i := i) alone
  have planned := (planSlot_of_barrier command barrier).trans plan
  rw [gaveBack_slot] at command
  rw [gaveBack_pruned] at slot left
  obtain ⟨status, is⟩ : ∃ status : Status, status =
    if s.tracker.slots[k].stranded.filter (stillExclusive s i) = [] then .ok else .noHome := ⟨_, rfl⟩
  obtain ⟨u, eq⟩ : ∃ u, u = (s.gaveBack k i).dropped k := ⟨_, rfl⟩
  rw [← eq] at slot left entries planned
  have ends : barrierEnd k c.body u = complete k ⟨status, none⟩ none u := by
    rw [flush, barrierEnd, slot, is]
    · simp only [List.isEmpty_iff]
    · nofun
  have done := complete_of_unreserved (s := u) (k := k) (c := c) (by rw [slot]; exact command) (fun m => by
    rw [entries, drainedEntry]
    split <;> rw [unreserved m] <;> nofun) ⟨status, none⟩ none
  have refunds : creditsReturned c.body status = 0 := by rw [flush]; rfl
  have finished := left.completed k (slotRecord c u.tracker.slots[k].tenures ⟨status, none⟩ none)
  rw [refunds, Nat.add_zero] at done
  rw [slots_set_set, List.nil_append] at finished
  have settled := gaveBack_settle_left alone (planned.trans (ends.trans done)) finished (.inl nofun)
  rw [slotRecord, slot, flush] at finished
  rw [← is]
  refine ⟨_, settled, ?_, entries⟩
  rw [slot, slotRecord, flush]
  exact finished

theorem gaveBack_ends_leave (leave : c.body = .leave) : ∃ t, settle (s.gaveBack k i) = t ∧ t.participation = .offline ∧
    t.home = { s.home with capture := [] } ∧ t.holds = s.holds ∧ t.link.phase = .idle ∧ t.boundVar = none ∧ t.copy.receive = [] ∧
    t.tracker = { s.tracker with slots := s.tracker.slots.set k Slot.idle } ∧ t.completion.free = s.completion.free ∧
    t.completion.queue = s.completion.queue ++ [⟨c.tag, .leave, .absent, .ok, s.tracker.slots[k].tenures, none, none⟩] ∧
    t.completion.counters = { s.completion.counters with
      discard := satAdd s.completion.counters.discard
        ((List.finRange 32).countP fun j => (s.tracker.slots[k].stranded.filter (stillExclusive s i)).contains j) } ∧
    ∀ m : EntryIx, t.copy.entries[m] = if (s.tracker.slots[k].stranded.filter (stillExclusive s i)).contains m = true then
      { s.copy.entries[m] with state := .none, tag := none } else drainedEntry s i m := by
  obtain ⟨plan, left, entries⟩ := gaveBack_ends alone unreserved none' released
  have slot := dropped_slot (s.gaveBack k i) k
  have command := gaveBack_command (i := i) alone
  have planned := (planSlot_of_barrier command barrier).trans plan
  rw [gaveBack_slot] at command
  rw [gaveBack_pruned] at slot left
  obtain ⟨list, is⟩ : ∃ list, list = s.tracker.slots[k].stranded.filter (stillExclusive s i) := ⟨_, rfl⟩
  obtain ⟨u, eq⟩ : ∃ u, u = (s.gaveBack k i).dropped k := ⟨_, rfl⟩
  rw [← eq] at slot left entries planned
  rw [← is] at slot left ⊢
  obtain ⟨home, holds, notices, phase, bound, roster, participation, port⟩ := left.keeps
  have free : ∀ m : EntryIx, u.copy.entries[m].reservedBy = none := fun m => by
    rw [entries, drainedEntry]
    split <;> exact unreserved m
  have ends : barrierEnd k c.body u = leaveFinal k u := by
    rw [leave]
    exact if_neg (by rw [State.inTenure, phase]; exact Bool.false_ne_true)
  have final := leaveFinal_eq (s := u) (k := k) (c := c) (by rw [slot]; exact command) leave free
  have queue : u.port.queue = [] := by
    obtain ⟨_, queue, _⟩ := alone
    rw [port, queue]
  have listed : ∀ m : EntryIx, list.contains m = true → u.copy.entries[m] = s.copy.entries[m] ∧ s.copy.entries[m].exclusive = true :=
    fun m inList => by
      rw [is, List.contains_iff_mem, List.mem_filter, stillExclusive, Bool.and_eq_true, decide_eq_true_eq] at inList
      obtain ⟨_, other, exclusive⟩ := inList
      rw [entries, drainedEntry, if_neg]
      · exact ⟨rfl, exclusive⟩
      · rintro (same | copy)
        · exact other same
        · rw [exclusive_of_copy copy] at exclusive
          cases exclusive
  have counted : (u.strandedLeft list).length = (List.finRange 32).countP fun j => list.contains j := by
    rw [State.strandedLeft, ← List.countP_eq_length_filter]
    refine List.countP_congr fun m _ => ?_
    rw [Bool.and_eq_true]
    refine ⟨fun both => both.1, fun inList => ⟨inList, ?_⟩⟩
    rw [(listed m inList).1]
    exact (listed m inList).2
  have table : ∀ m : EntryIx, (finalTable list u.copy).entries[m] =
      if list.contains m = true then { s.copy.entries[m] with state := .none, tag := none } else drainedEntry s i m := fun m => by
    rw [finalTable_entry]
    by_cases inList : list.contains m = true
    · obtain ⟨same, exclusive⟩ := listed m inList
      rw [if_pos inList, same, if_pos (.inl ⟨inList, exclusive⟩)]
      exact unreserved_eta (unreserved m)
    · rw [if_neg inList, entries, if_neg]
      rintro (⟨inList', _⟩ | copy)
      · exact inList inList'
      · rw [drainedEntry] at copy
        split at copy
        · cases copy
        · rename_i kept
          exact kept (.inr copy)
  have receive : (finalTable list u.copy).receive = [] := by
    rw [finalTable]
    exact left.receive
  rw [slot] at final
  simp only [queue, List.map_nil, List.sum_nil, Nat.add_zero, cancelled, slotRecord, leave, countDiscards_eq, counted] at final
  generalize finalTable list u.copy = dropped at table receive final
  refine ⟨_, gaveBack_settle alone (planned.trans (ends.trans final)) rfl (z := Slot.idle) ?_ (.inl nofun), ?_⟩
  · simp [left.tracker]
  · simp [home, holds, phase, left.tracker, left.completion, receive, table, State.boundVar]
    exact ⟨bound, rfl, rfl, rfl⟩

end

end

end

end Sys2Proof.Machine

/-!
PROOF. The commits of this node's own variable tenures (R13 to R21, R27, R33 to R36, R123, R127, R132, R187 to R192).
-/

namespace Sys2Proof.Machine

/-! ## The commit of the own tenure -/

theorem grantsOwned_iff (lines : RespLines) : grantsOwned lines = true ↔ lines.haveLine = false ∧ lines.modLine = false := by
  rw [grantsOwned, Bool.and_eq_true, Bool.not_eq_true', Bool.not_eq_true']

section
variable {s : State} {k : SlotIx} {c : Command} {tn : Tenure} {v : VarNum} {kind : Kind}

section
variable (alone : s.sendingAlone k c) (full : s.full = true) (header : tn.h1 = some (v.setWidth 16)) (is : kindOf tn.h0 = some kind)
  (var : kind.isVar = true)
include alone full header is var

theorem commitTenure_of_requester (foreign : homeOf v ≠ s.nodeId) : commitTenure tn s = commitRequester k tn kind v s := by
  obtain ⟨_, _, _, _, _, sender, _⟩ := alone
  rw [commitTenure_of_var full is var header, h1Var_setWidth, if_neg (by rw [not_ownsVar foreign]; exact Bool.false_ne_true), sender]

theorem commitTenure_of_home (home : homeOf v = s.nodeId) (canonical : s.homeCanonical) {q : HomeRecord} {reclaimed error : Bool}
    (work : RecordChanged s (homeWork tn kind v s) v q reclaimed error) :
    commitTenure tn s = applyHome c v (homeWork tn kind v s) := by
  obtain ⟨_, _, _, _, command, sender, _⟩ := alone
  have carries : (homeWork tn kind v s).tracker.slots[k].command = some c := by rw [work.tracker, command]
  rw [commitTenure_of_var full is var header, h1Var_setWidth, if_pos (ownsVar_of_home home), commitHome, sender]
  show (match (homeWork tn kind v s).tracker.slots[k].command with
    | none => (homeWork tn kind v s, none)
    | some c => applyHome c v (homeWork tn kind v s)) = _
  rw [carries]

end

section
variable (command : s.tracker.slots[k].command = some c)
include command

theorem commitRequester_of_read {i : EntryIx} (entry : s.tracker.slots[k].entry = some i) : commitRequester k tn .read v s =
    applyCopy c v i (grantEntry i (if grantsOwned tn.lines then .owned else .copy) s) := by
  rw [commitRequester, command, entry]

theorem commitRequester_of_own {i : EntryIx} (entry : s.tracker.slots[k].entry = some i) : commitRequester k tn .own v s =
    applyCopy c v i (grantEntry i .owned s) := by
  rw [commitRequester, command, entry]

theorem commitRequester_of_claim {i : EntryIx} (entry : s.entryOf v = some i) : commitRequester k tn .claim v s =
    applyCopy c v i (writeEntry i { s.copy.entries[i] with state := .owned } s) := by
  rw [commitRequester, command, entry]

theorem commitRequester_of_give {i : EntryIx} (entry : s.entryOf v = some i) (give : kind = .writeback ∨ kind = .giveBack) :
    commitRequester k tn kind v s = (vacate i s, none) := by
  rw [commitRequester, command, entry]
  obtain rfl | rfl := give <;> cases s.tracker.slots[k].entry <;> rfl

end

/-- The home's work in its own tenure (R14, R15, R17). -/
theorem homeWork_of_own (canonical : s.homeCanonical) (own : sourceOf tn.h0 = s.nodeId) (notBack : kind ≠ .writeback) {st : HomeState}
    (after : homeStateAfter kind (sourceOf tn.h0) false tn.lines (stateReclaimed (s.record v).state tn.present) = some st) :
    RecordChanged s (homeWork tn kind v s) v
      ⟨if s.home.capture = [] then (s.record v).value else valueOfWords s.home.capture, st, (s.record v).guard⟩
      (lenderAbsent (s.record v).state tn.present) false := by
  have captured := storeCapture_changed (reclaimAbsent_changed canonical v tn.present) kind (sourceOf tn.h0)
  have same : (sourceOf tn.h0 != s.nodeId) = false := by rw [own, bne_self_eq_false]
  have work := changeRecord_of_state captured (lines := tn.lines) (source := sourceOf tn.h0) (by rw [same]; exact after)
  have value : keptValue s kind (sourceOf tn.h0) (stateReclaimed (s.record v).state tn.present) (s.record v).value =
      if s.home.capture = [] then (s.record v).value else valueOfWords s.home.capture :=
    if_congr (or_iff_left fun back => notBack back.1) rfl rfl
  rw [← value]
  exact work

end

/-! ## The own give-back -/

/-- What the pointer, the buffers and the link are once a slot that went on has planned. -/
theorem HolderLeft.around {s t : State} {posted : List Completion} {slots : Vector Slot 4} (left : HolderLeft s t posted slots) :
    t.tracker.pointer = s.tracker.pointer ∧ t.copy.receive = [] ∧ t.home.capture = [] ∧ t.link.phase = .idle ∧ t.boundVar = none ∧
      t.holds = s.holds ∧ t.participation = s.participation ∧ t.home.records = s.home.records := by
  obtain ⟨home, holds, _, phase, bound, _, participation, _⟩ := left.keeps
  exact ⟨by rw [left.tracker], left.receive, by rw [home], phase, bound, holds, participation, by rw [home]⟩

theorem command_of_sending {s : State} {k : SlotIx} {c : Command} (alone : s.sendingAlone k c) :
    s.tracker.slots[k].command = some c := by
  obtain ⟨_, _, _, _, command, _⟩ := alone
  exact command

section
variable {s : State} {k : SlotIx} {c : Command} {tn : Tenure} (alone : s.sendingAlone k c) (close : s.link.phase = .close)
  (tenure : s.link.tenure = some tn) (committed : tn.outcome = some .committed) {i : EntryIx}
  (commit : commitTenure tn s = (vacate i s, none))
include alone close tenure committed commit

section
variable (unreserved : ∀ m : EntryIx, s.copy.entries[m].reservedBy = none)
include unreserved

/-- A RELEASE ends OK (R127). -/
theorem exec_of_given_release {v : VarNum} (body : c.body = .release v) :
    ∃ t, OwnEnded s t k c ⟨.ok, none⟩ s.holds s.completion ∧ ∀ m : EntryIx, t.copy.entries[m] =
      if m = i then { s.copy.entries[i] with state := .none, tag := none } else s.copy.entries[m] := by
  have commit' := commit.trans (congrArg (·, none) (vacate_of_unreserved (unreserved i)))
  obtain ⟨t, ended, entries, _⟩ := exec_of_completes_own alone close tenure committed commit'
    (fun u same m => deliverCommit_of_release (v := v) (by
      rw [← body]
      exact slotBody_of_command (by rw [same]; exact command_of_sending alone)) m) rfl rfl rfl fun m => by
      rw [writeEntry_entry]
      split <;> rw [unreserved] <;> nofun
  refine ⟨t, ended, fun m => ?_⟩
  rw [entries, writeEntry_entry]
  exact if_congr eq_comm rfl rfl

/-- A FLUSH or LEAVE plans from the table its give-back left (R127). -/
theorem exec_of_given_barrier (barrier : c.body = .flush ∨ c.body = .leave) :
    exec .tenureEnd s = .next (settle (s.gaveBack k i)) := by
  have commit' := commit.trans (congrArg (·, none) (vacate_of_unreserved (unreserved i)))
  have goes : c.body.code ≠ .release ∧ c.body.code ≠ .notice ∧ c.body.code ≠ .join := by
    obtain body | body := barrier <;> rw [body] <;> exact ⟨nofun, nofun, nofun⟩
  have command := command_of_sending alone
  have idle : ∀ j : SlotIx, j ≠ k → s.tracker.slots[j] = Slot.idle := by
    obtain ⟨_, _, idle, _⟩ := alone
    exact idle
  have goesOn := exec_of_goes_on alone close tenure committed commit' idle rfl command goes
  rw [closedFrom_writeEntry] at goesOn
  exact goesOn

end

/-- An eviction's slot takes its victim in fetch form and fetches it (R26, R123). -/
theorem exec_of_given_victim {w : VarNum} (named : c.body.var? = some w) (needs : c.body.code.needsEntry)
    (elsewhere : homeOf w ≠ s.nodeId) (untagged : ∀ m : EntryIx, s.copy.entries[m].tag ≠ some w)
    (reserved : s.copy.entries[i].reservedBy = some k) : ∃ t, exec .tenureEnd s = .next t ∧
      HolderLeft s t [] (s.tracker.slots.set k { s.tracker.slots[k] with
        phase := .send, frame := some (varFrame (fetchFor c) w), waiting := none, entry := some i, victim := none }) ∧
      ∀ m : EntryIx, t.copy.entries[m] =
        if m = i then { s.copy.entries[i] with state := .none, tag := some w } else s.copy.entries[m] := by
  have command := command_of_sending alone
  have slotVar : s.slotVar k = some w := (slotVar_of_some command).trans named
  have commit' := commit.trans (congrArg (·, none) (vacate_of_reserved reserved))
  rw [slotVar] at commit'
  have goesOn : c.body.code ≠ .release ∧ c.body.code ≠ .notice ∧ c.body.code ≠ .join := by
    obtain code | code | code | code := needs <;> rw [code] <;> exact ⟨nofun, nofun, nofun⟩
  have run := exec_of_goes_on alone close tenure committed (z := { s.tracker.slots[k] with entry := some i, victim := none }) commit'
    (fun j ne => by
      obtain ⟨_, _, idle, _⟩ := alone
      rw [writeSlot_other ne]
      exact idle j ne) (writeSlot_same k _ _) command goesOn
  rw [closedFrom_writeSlot, closedFrom_writeEntry, writeSlot_writeSlot] at run
  have replans := replansOver_of_sending alone (x := { s.tracker.slots[k] with entry := some i, victim := none }) rfl i
    { s.copy.entries[i] with state := .none, tag := some w }
  obtain ⟨t, settles, left, entries⟩ := replans.fetches named elsewhere needs reserved rfl rfl rfl fun m tagged => by
    by_contra other
    rw [replans.entries, if_neg (Ne.symm other)] at tagged
    exact untagged m tagged
  exact ⟨t, run.trans (congrArg Host.Outcome.next settles), left, fun m => (entries m).trans (if_congr eq_comm rfl rfl)⟩

end

/-- Settles O46. -/
theorem requesterReadCommits : Obligations.RequesterReadCommits := by
  intro s k c tn v alone participation close tenure header committed x keeps around ends
  have full := full_of_participation participation
  have command := command_of_sending alone
  constructor
  · intro foreign i others e words fetched claimed takes applies
    have commits : ∀ kind : Kind, kindOf tn.h0 = some kind → kind.isVar = true → commitTenure tn s = commitRequester k tn kind v s :=
      fun kind is var => commitTenure_of_requester alone full header is var foreign
    have takes_of : ∀ {st : CopyState} {value : Value} {r : CmdResult} {holds : Vector (Option HoldRecord) 4}, c.body.var? = some v →
        commitTenure tn s = ((promote i (writeEntry i ⟨st, some v, value, e.age, none⟩ s)).setHolds holds, some r) →
        takes st value r.status r.value (creditsReturned c.body r.status) holds := fun named commit => by
      obtain ⟨t, ended, records, entries⟩ := exec_of_applied_copy alone close tenure committed commit rfl others
      obtain ⟨run, pointer, receive, capture, phase, bound, holds, participation, slots, completion⟩ := ended
      refine ⟨t, ⟨⟨run, pointer, receive, capture, phase, bound⟩, holds, participation⟩, ⟨slots, ?_, ?_⟩, records, ?_, ?_, entries⟩
      · rw [completion]
      · rw [completion, slotRecord, subject_of_var named]
      · rw [completion]
      · rw [completion]
    have applies_of : ∀ base : Value,
        commitTenure tn s = applyCopy c v i (writeEntry i ⟨.owned, some v, base, e.age, none⟩ s) → applies base := fun base commit => by
      refine ⟨fun mask payload body => ?_, fun compare payload body => ⟨fun same => ?_, fun differs => ?_⟩,
        fun d body free => ⟨fun full => ?_, fun r found => ?_⟩⟩
      · have took := takes_of (by rw [body]; rfl) (commit.trans (applyCopy_written_store body))
        rw [body] at took
        exact took
      · have took := takes_of (by rw [body]; rfl) (commit.trans (applyCopy_written_match body same))
        rw [body] at took
        exact took
      · have took := takes_of (by rw [body]; rfl) (commit.trans (applyCopy_written_mismatch body differs))
        rw [body] at took
        exact took
      · have took := takes_of (by rw [body]; rfl) (commit.trans (applyCopy_written_full body free full))
        rw [body] at took
        exact took
      · have took := takes_of (by rw [body]; rfl) (commit.trans (applyCopy_written_hold body free found))
        rw [body] at took
        exact took
    have granted : ∀ st : CopyState, fetched → grantEntry i st s = writeEntry i ⟨st, some v, words, e.age, none⟩ s :=
      fun st ⟨_, _, _, tag, _⟩ => by
        rw [grantEntry, ← tag]
        rfl
    have gives : s.entryOf v = some i → kindOf tn.h0 = some .writeback ∨ kindOf tn.h0 = some .giveBack →
        commitTenure tn s = (vacate i s, none) := fun entry give => by
      obtain is | is := give
      · exact (commits .writeback is rfl).trans (commitRequester_of_give command entry (.inl rfl))
      · exact (commits .giveBack is rfl).trans (commitRequester_of_give command entry (.inr rfl))
    have unreserved_of : e.reservedBy = none → ∀ m : EntryIx, s.copy.entries[m].reservedBy = none := fun free m => by
      by_cases same : m = i
      · rw [same]
        exact free
      · exact others m same
    refine ⟨fun fetch is body => ?_, fun fetch is => ?_, fun claim is => ?_, fun entry own give => ⟨fun body free => ?_,
      fun w named needs elsewhere untagged victim reserved => ?_⟩, ?_⟩
    · have commit := (commits .read is rfl).trans (commitRequester_of_read command fetch.1)
      rw [granted _ fetch] at commit
      have took := takes_of (by rw [body]; rfl) (commit.trans (applyCopy_written_load body))
      have state : (if grantsOwned tn.lines = true then CopyState.owned else .copy) =
          if tn.lines.haveLine = false ∧ tn.lines.modLine = false then .owned else .copy := if_congr (grantsOwned_iff tn.lines) rfl rfl
      rw [body, state] at took
      exact took
    · have commit := (commits .own is rfl).trans (commitRequester_of_own command fetch.1)
      rw [granted _ fetch] at commit
      exact applies_of words commit
    · obtain ⟨entry, _, free⟩ := claim
      have owned : ({ e with state := .owned } : CopyEntry) = ⟨.owned, some v, e.value, e.age, none⟩ := by
        rw [← free, ← tag_of_entryOf entry]
      have commit := (commits .claim is rfl).trans (commitRequester_of_claim command entry)
      exact applies_of e.value (commit.trans (congrArg (fun y => applyCopy c v i (writeEntry i y s)) owned))
    · have named : c.body.var? = some v := by rw [body]; rfl
      obtain ⟨t, ended, entries⟩ := exec_of_given_release alone close tenure committed (gives entry give) (unreserved_of free) body
      obtain ⟨run, pointer, receive, capture, phase, bound, holds, participation, slots, completion⟩ := ended
      refine ⟨t, ⟨⟨run, pointer, receive, capture, phase, bound⟩, holds, participation⟩, ⟨slots, ?_, ?_⟩, entries⟩
      · rw [completion, body]
        rfl
      · rw [completion, slotRecord, subject_of_var named]
    · obtain ⟨t, run, left, entries⟩ := exec_of_given_victim alone close tenure committed (gives entry give) named needs elsewhere
        untagged reserved
      obtain ⟨pointer, receive, capture, phase, bound, holds, participation, _⟩ := left.around
      refine ⟨t, ⟨⟨run, pointer, receive, capture, phase, bound⟩, holds, participation⟩, ?_, ?_, entries⟩
      · rw [left.completion, List.append_nil]
      · rw [left.tracker]
        rfl
    · intro entry own free give barrier left stranded offered table goesOn
      have unreserved := unreserved_of free
      have run := exec_of_given_barrier alone close tenure committed (gives entry give) unreserved barrier
      have offeredIs : ∀ j, offeredApart (s.gaveBack k i) (s.gaveBack k i).tracker.slots[k].stranded j = offered j := gaveBack_offered s k i
      have goes_of : ∀ {t : State} {y : Slot}, settle (s.gaveBack k i) = t →
          HolderLeft s t [] (s.tracker.slots.set k { y with stranded := stranded }) →
          (∀ j : EntryIx, t.copy.entries[j] = drainedEntry s i j) → goesOn y := fun settles left entries => by
        obtain ⟨pointer, receive, capture, phase, bound, holds, participation, records⟩ := left.around
        refine ⟨_, ⟨⟨run.trans (congrArg Host.Outcome.next settles), pointer, receive, capture, phase, bound⟩, holds, participation⟩,
          ?_, records, ?_, entries⟩
        · rw [left.completion, List.append_nil]
        · rw [left.tracker]
      refine ⟨fun j w offers lower tag => ?_, fun none' => ⟨fun r active => ?_, fun released => ⟨fun flush => ?_, fun leave => ?_⟩⟩⟩
      · obtain ⟨t, settles, left, entries⟩ := gaveBack_offers alone unreserved barrier
          (find_finRange ((offeredIs j).trans offers) fun m lt => (offeredIs m).trans (lower m lt)) tag
        exact goes_of settles left entries
      · obtain ⟨t, settles, left, entries⟩ := gaveBack_waits alone unreserved barrier (fun j => (offeredIs j).trans (none' j)) active
        exact goes_of settles left entries
      · obtain ⟨t, settles, left, entries⟩ := gaveBack_ends_flush alone unreserved barrier (fun j => (offeredIs j).trans (none' j))
          released flush
        obtain ⟨pointer, receive, capture, phase, bound, holds, participation, records⟩ := left.around
        exact ⟨t, ⟨⟨run.trans (congrArg Host.Outcome.next settles), pointer, receive, capture, phase, bound⟩, holds, participation⟩,
          records, (loneSender_of_sendingAlone alone).slots_idle (by rw [left.tracker]), entries, left.completion⟩
      · obtain ⟨t, settles, participation, home, holds, phase, bound, receive, tracker, credits, queue, counters, entries⟩ :=
          gaveBack_ends_leave alone unreserved barrier (fun j => (offeredIs j).trans (none' j)) released leave
        exact ⟨t, ⟨run.trans (congrArg Host.Outcome.next settles), by rw [tracker], receive, by rw [home], phase, bound⟩, participation,
          by rw [home], (loneSender_of_sendingAlone alone).slots_idle (by rw [tracker]), holds, entries, credits, queue, counters⟩
  · intro home canonical source unreserved r absent base leaves
    have leaves_of : ∀ {kind : Kind} {q p : HomeRecord} {result : CmdResult} {holds : Vector (Option HoldRecord) 4},
        kindOf tn.h0 = some kind → kind.isVar = true → c.body.var? = some v →
        RecordChanged s (homeWork tn kind v s) v q absent false →
        AppliedHome s c v (homeWork tn kind v s) p absent false holds result →
        leaves p.state p.guard p.value result.status result.value (creditsReturned c.body result.status) holds :=
      fun is var named work applied => by
        obtain ⟨w, applies, changed⟩ := applied
        obtain ⟨copy, _, _, _, kept, port, _, _, _, _, tracker⟩ := changed.keeps
        have commit := (commitTenure_of_home alone full header is var home canonical work).trans applies
        obtain ⟨t, ended, entries, records⟩ := exec_of_own_applied alone close tenure committed commit tracker port kept fun m => by
          rw [State.setHolds_copy, copy, unreserved m]
          nofun
        obtain ⟨run, pointer, receive, capture, phase, bound, holds, participation, slots, completion⟩ := ended
        rw [State.setHolds_completion, changed.completion] at completion
        rw [State.setHolds_home] at records
        refine ⟨t, ⟨⟨run, pointer, receive, capture, phase, bound⟩, holds, participation⟩, ⟨slots, ?_, ?_⟩,
          (record_congr records v).trans changed.record, fun x other => (record_congr records x).trans (changed.record_other x other),
          ?_, ?_, ?_⟩
        · rw [completion]
        · rw [completion, slotRecord, subject_of_var named]
        · rw [entries, State.setHolds_copy, copy]
        · rw [completion]
          rfl
        · rw [completion, Bool.or_false]
    have purges : r.state.isLent = false → homeStateAfter .purge (sourceOf tn.h0) false tn.lines
        (stateReclaimed (s.record v).state tn.present) = some .quiet := fun unlent => by
      rw [stateReclaimed]
      cases state : (s.record v).state with
      | lent l => cases (congrArg HomeState.isLent state).symm.trans unlent
      | quiet | shared => rfl
    refine ⟨fun is lent body => ?_, fun event => ?_⟩
    · obtain ⟨l, state⟩ := isLent_iff.mp lent
      have after : homeStateAfter .read (sourceOf tn.h0) false tn.lines (stateReclaimed (s.record v).state tn.present) =
          some (if absent then .quiet else .shared) := by
        show homeStateAfter .read _ false _ (if absent then HomeState.quiet else r.state) = _
        rw [state]
        cases absent <;> rfl
      have work := homeWork_of_own (kind := .read) canonical source nofun after
      have left := leaves_of is rfl (by rw [body]; rfl) work (.of_load work body)
      rw [body] at left
      exact left
    · obtain ⟨kind, is, var, work⟩ : ∃ kind, kindOf tn.h0 = some kind ∧ kind.isVar = true ∧
          RecordChanged s (homeWork tn kind v s) v ⟨base, .quiet, r.guard⟩ absent false := by
        obtain own | ⟨purge, unlent⟩ := event
        · exact ⟨.own, own, rfl, homeWork_of_own (kind := .own) canonical source nofun rfl⟩
        · exact ⟨.purge, purge, rfl, homeWork_of_own (kind := .purge) canonical source nofun (purges unlent)⟩
      refine ⟨fun mask payload body => ?_, fun compare payload body => ⟨fun same => ?_, fun differs => ?_⟩,
        fun d body free => ⟨fun full => ?_, fun h found => ?_⟩, fun level body => ?_⟩
      · have left := leaves_of is var (by rw [body]; rfl) work (.of_store work body)
        rw [body] at left
        exact left
      · have left := leaves_of is var (by rw [body]; rfl) work (.of_match work body same)
        rw [body] at left
        exact left
      · have left := leaves_of is var (by rw [body]; rfl) work (.of_mismatch work body differs)
        rw [body] at left
        exact left
      · have left := leaves_of is var (by rw [body]; rfl) work (.of_full work body free full)
        rw [body] at left
        exact left
      · have left := leaves_of is var (by rw [body]; rfl) work (.of_hold work body free found)
        rw [body] at left
        exact left
      · have left := leaves_of is var (by rw [body]; rfl) work (.of_guard work body)
        rw [body] at left
        exact left

end Sys2Proof.Machine

/-!
PROOF. What plans and starts leave of the command port: all but its queue (R98, R99, R113).
-/

namespace Sys2Proof.Machine

/-! ## A plan leaves the port, a LEAVE's final step aside -/

theorem complete_port (k : SlotIx) (r : CmdResult) (d : Option NodeMask) (s : State) : (complete k r d s).port = s.port := by
  obtain ⟨_, port, _⟩ := complete_frame k r d s
  exact port

theorem vacate_port (i : EntryIx) (s : State) : (vacate i s).port = s.port := by
  unfold vacate
  simp only
  split <;> rfl

theorem enterHold_port (v : VarNum) (tag : Tag) (d : BitVec 8) (s : State) : (enterHold v tag d s).1.port = s.port := by
  unfold enterHold
  split
  · rfl
  · split <;> rfl

theorem applyHome_port (c : Command) (v : VarNum) (s : State) : (applyHome c v s).1.port = s.port := by
  unfold applyHome
  split
  · exact enterHold_port _ _ _ s
  · rfl
  · split
    · simp only
      split <;> rfl
    · rfl

theorem promote_port (i : EntryIx) (s : State) : (promote i s).port = s.port := by
  rw [promote, State.setCopy_port]

theorem dropCopies_port (s : State) : (dropCopies s).port = s.port := by
  rw [dropCopies, State.setCopy_port]

theorem pruneStranded_port (k : SlotIx) (s : State) : (pruneStranded k s).port = s.port := rfl

theorem applyCopy_port (c : Command) (v : VarNum) (i : EntryIx) (s : State) : (applyCopy c v i s).1.port = s.port := by
  unfold applyCopy
  split
  · exact (promote_port _ _).trans (enterHold_port _ _ _ s)
  · split
    · exact promote_port _ _
    · rfl

theorem completeApplied_port (k : SlotIx) (p : State × Option CmdResult) : (completeApplied k p).port = p.1.port := by
  unfold completeApplied
  split
  · exact complete_port _ _ _ _
  · rfl

theorem planHome_port (k : SlotIx) (c : Command) (v : VarNum) (s : State) : (planHome k c v s).port = s.port := by
  unfold planHome
  split
  · exact (completeApplied_port k _).trans (applyHome_port c v s)
  · rfl

theorem planEvict_port (k : SlotIx) (b : Body) (v : VarNum) (j : EntryIx) (s : State) : (planEvict k b v j s).port = s.port := by
  unfold planEvict
  simp only
  split
  · rfl
  · exact vacate_port j s

theorem allocate_port (k : SlotIx) (b : Body) (v : VarNum) (s : State) : (allocate k b v s).port = s.port := by
  unfold allocate
  split
  · rfl
  · split
    · exact planEvict_port _ _ _ _ _
    · exact complete_port _ _ _ _

theorem planCopy_port (k : SlotIx) (c : Command) (v : VarNum) (s : State) : (planCopy k c v s).port = s.port := by
  have hit : ∀ i, (completeApplied k (applyCopy c v i (useEntry k i s))).port = s.port := fun i =>
    (completeApplied_port k _).trans (applyCopy_port c v i _)
  unfold planCopy
  split
  · split
    · rfl
    · split
      · rfl
      · exact hit _
      · rfl
      · exact hit _
  · split
    · split
      · rfl
      · exact planEvict_port _ _ _ _ _
    · exact allocate_port _ _ _ _

theorem planRelease_port (k : SlotIx) (v : VarNum) (s : State) : (planRelease k v s).port = s.port := by
  unfold planRelease
  split
  · exact complete_port _ _ _ _
  · split
    · exact complete_port _ _ _ _
    · split
      · exact complete_port _ _ _ _
      · split
        · rfl
        · split
          · exact complete_port _ _ _ _
          · exact (complete_port _ _ _ _).trans (vacate_port _ s)
          · rfl

theorem planVar_port (k : SlotIx) (c : Command) (v : VarNum) (s : State) : (planVar k c v s).port = s.port := by
  unfold planVar
  split
  · rfl
  · split
    · exact planRelease_port _ _ _
    · exact planHome_port _ _ _ _
    · split
      · exact planHome_port _ _ _ _
      · exact planCopy_port _ _ _ _

/-! ## The port but for its queue -/

/-- The port of `t` is that of `s` with another queue. -/
def PortKept (s t : State) : Prop := t.port = { s.port with queue := t.port.queue }

theorem PortKept.of_eq {s t : State} (h : t.port = s.port) : PortKept s t := by
  rw [PortKept, h]

theorem PortKept.trans {s t u : State} (h : PortKept s t) (g : PortKept t u) : PortKept s u := by
  rw [PortKept] at h g ⊢
  rw [g, h]

theorem portKept_leaveFinal (k : SlotIx) (s : State) : PortKept s (leaveFinal k s) := by
  unfold leaveFinal
  rw [cancelQueue_eq]
  exact congrArg (fun p : Port => { p with queue := [] }) (complete_port k _ _ _)

theorem portKept_barrierEnd (k : SlotIx) (b : Body) (s : State) : PortKept s (barrierEnd k b s) := by
  unfold barrierEnd
  split
  · split
    · exact .of_eq rfl
    · exact portKept_leaveFinal k s
  · exact .of_eq (complete_port _ _ _ _)

theorem portKept_drainStep (k : SlotIx) (b : Body) (s : State) : PortKept s (drainStep k b s) := by
  unfold drainStep
  split
  · exact .of_eq rfl
  · split
    · exact .of_eq rfl
    · split
      · exact .of_eq rfl
      · exact portKept_barrierEnd _ _ _
  · split
    · exact .of_eq rfl
    · exact portKept_barrierEnd _ _ _

theorem portKept_planDrain (k : SlotIx) (b : Body) (s : State) : PortKept s (planDrain k b s) := by
  have pruned : PortKept s (pruneStranded k (dropCopies s)) := .of_eq ((pruneStranded_port k _).trans (dropCopies_port s))
  rw [planDrain]
  exact pruned.trans (portKept_drainStep k b _)

theorem portKept_planWokenBelow (k : SlotIx) (s : State) : PortKept s (planWokenBelow k s) := by
  have one : ∀ (j : SlotIx) (t : State), PortKept t (planWoken j t) := fun j t => by
    unfold planWoken
    split
    · exact portKept_planDrain _ _ _
    · exact portKept_planDrain _ _ _
    · exact .of_eq rfl
  have fold : ∀ (l : List SlotIx) (t : State), PortKept t (l.foldl (fun s j => if j < k then planWoken j s else s) t) := by
    intro l
    induction l with
    | nil => exact fun _ => .of_eq rfl
    | cons j rest ih =>
      intro t
      rw [List.foldl_cons]
      split
      · exact (one j t).trans (ih _)
      · exact ih _
  exact fold _ s

theorem portKept_planUnhold (k : SlotIx) (v : VarNum) (s : State) : PortKept s (planUnhold k v s) := by
  unfold planUnhold
  split
  · exact (PortKept.trans (t := freeCredits 1 (removeHold _ s)) (.of_eq rfl) (portKept_planWokenBelow k _)).trans
      (.of_eq (complete_port _ _ _ _))
  · exact .of_eq (complete_port _ _ _ _)

theorem portKept_planSlot (k : SlotIx) (s : State) : PortKept s (planSlot k s) := by
  unfold planSlot
  split
  · exact .of_eq rfl
  · split
    · exact portKept_planUnhold _ _ _
    · exact .of_eq rfl
    · exact .of_eq rfl
    · exact portKept_planDrain _ _ _
    · exact portKept_planDrain _ _ _
    all_goals exact .of_eq (planVar_port _ _ _ _)

theorem portKept_settle (s : State) : PortKept s (settle s) :=
  settle_keeps (PortKept s) (fun k t h => h.trans (portKept_planSlot k t)) (fun t u h starts => h.trans (by
    obtain ⟨k, c, rest, _, _, _, _, rfl⟩ := startNext_cases starts
    obtain ⟨_, port, _⟩ := startSlot_frame k c rest t
    rw [PortKept, port])) s (.of_eq rfl)

end Sys2Proof.Machine

/-!
PROOF. Which queued record starts, and in which slot (R99 to R102).
-/

namespace Sys2Proof.Machine

/-! ## The start conditions -/

theorem isBarrier_eq (b : Body) : b.isBarrier = (b.code == .flush || b.code == .join || b.code == .leave) := by
  cases b <;> rfl

theorem busyCommands_any (s : State) (p : Command → Bool) :
    s.busyCommands.any p = (List.finRange 4).any fun k => (s.tracker.slots[k].command).any p := by
  rw [State.busyCommands, List.any_filterMap]
  refine congrArg (fun f => (List.finRange 4).any f) (funext fun k => ?_)
  cases s.tracker.slots[k].command <;> rfl

/-- The start conditions of R100 by the codes of the commands. -/
theorem eligible_eq (busy earlier : List Command) (c : Command) : eligible busy earlier c =
    (!(earlier.any (fun d => c.body.var?.isSome && d.body.var? == c.body.var?) ||
        busy.any (fun d => c.body.var?.isSome && d.body.var? == c.body.var?)) &&
      (c.body.code == .unhold || !(earlier.any (·.body.isBarrier) || busy.any (·.body.isBarrier))) &&
      (!(c.body.code == .notice || c.body.isBarrier) || (earlier.isEmpty && !busy.any fun d => decide (d.seq < c.seq)))) := by
  unfold eligible
  refine congrArg₂ (· && ·) (congrArg₂ (· && ·) ?_ ?_) ?_
  · cases c.body.var? with
    | none => simp
    | some v => simp [Bool.and_comm]
  · cases c.body <;> simp [Body.code]
  · cases c.body <;> simp [Body.code, Body.isBarrier]

/-- No record of the list may start, `earlier` and those before it being queued ahead. -/
theorem takeEligible_eq_none {busy : List Command} : ∀ {l earlier : List Command},
    (∀ (i : Nat) (c : Command), l[i]? = some c → eligible busy (earlier ++ l.take i) c = false) → takeEligible busy earlier l = none
  | [], _, _ => rfl
  | c :: rest, earlier, h => by
    have first := h 0 c rfl
    rw [List.take_zero, List.append_nil] at first
    rw [takeEligible, if_neg (by rw [first]; exact Bool.false_ne_true)]
    refine takeEligible_eq_none fun i d found => ?_
    rw [List.append_assoc]
    exact h (i + 1) d found

/-- The first record that may start is taken from where it stands. -/
theorem takeEligible_eq_some {busy : List Command} {c : Command} : ∀ {l earlier : List Command} {i : Nat}, l[i]? = some c →
    eligible busy (earlier ++ l.take i) c = true →
    (∀ (j : Nat) (d : Command), j < i → l[j]? = some d → eligible busy (earlier ++ l.take j) d = false) →
    takeEligible busy earlier l = some (c, earlier ++ l.eraseIdx i)
  | [], _, _, found, _, _ => by cases found
  | d :: rest, earlier, 0, found, starts, _ => by
    cases found
    rw [List.take_zero, List.append_nil] at starts
    rw [takeEligible, if_pos starts]
    rfl
  | d :: rest, earlier, i + 1, found, starts, lower => by
    have first := lower 0 d (Nat.succ_pos i) rfl
    rw [List.take_zero, List.append_nil] at first
    rw [takeEligible, if_neg (by rw [first]; exact Bool.false_ne_true),
      takeEligible_eq_some (earlier := earlier ++ [d]) (i := i) found (by rw [List.append_assoc]; exact starts) fun j e lt at' => by
        rw [List.append_assoc]
        exact lower (j + 1) e (Nat.succ_lt_succ lt) at', List.append_assoc]
    rfl

theorem freeSlot_eq_none {s : State} (full : ∀ k : SlotIx, s.tracker.slots[k].phase ≠ .free) : s.freeSlot = none := by
  rw [State.freeSlot, List.find?_eq_none]
  intro k _
  rw [beq_false_of_ne (full k)]
  exact Bool.false_ne_true

/-- Nothing starts where no slot is FREE or no queued record may start (R99). -/
theorem startNext_eq_none {s : State} (h : (∀ k : SlotIx, s.tracker.slots[k].phase ≠ .free) ∨
    ∀ (i : Nat) (c : Command), s.port.queue[i]? = some c → eligible s.busyCommands (s.port.queue.take i) c = false) :
    startNext s = none := by
  rw [startNext]
  obtain full | none' := h
  · rw [freeSlot_eq_none full]
  · have nothing : takeEligible s.busyCommands [] s.port.queue = none := takeEligible_eq_none none'
    cases s.freeSlot with
    | none => rfl
    | some k => rw [nothing]

/-- The earliest record that may start takes the lowest FREE slot (R101). -/
theorem startNext_eq_some {s : State} {k : SlotIx} {i : Nat} {c : Command} (found : s.port.queue[i]? = some c)
    (free : s.tracker.slots[k].phase = .free) (lowest : ∀ j : SlotIx, j < k → s.tracker.slots[j].phase ≠ .free)
    (starts : eligible s.busyCommands (s.port.queue.take i) c = true)
    (first : ∀ (j : Nat) (d : Command), j < i → s.port.queue[j]? = some d → eligible s.busyCommands (s.port.queue.take j) d = false) :
    startNext s = some (startSlot k c (s.port.queue.eraseIdx i) s) := by
  have slot : s.freeSlot = some k := find_finRange (by rw [free]; rfl) fun j lt => beq_false_of_ne (lowest j lt)
  have taken : takeEligible s.busyCommands [] s.port.queue = some (c, s.port.queue.eraseIdx i) :=
    takeEligible_eq_some found starts first
  rw [startNext, slot, taken]

end Sys2Proof.Machine

/-!
PROOF. The four checks of a submit in their order, and admission (R95 to R98).
-/

namespace Sys2Proof.Machine

/-- The command a code number forms from the staging registers (R95). -/
def numberedBody (n : Nat) (g : Staging) : Body :=
  match n with
  | 1 => .load (operandVar g.cvar)
  | 2 => .store (operandVar g.cvar) (operandByte g.carg0) g.stage
  | 3 => .swap (operandVar g.cvar) (g.carg1 ++ g.carg0) g.stage
  | 4 => .release (operandVar g.cvar)
  | 5 => .hold (operandVar g.cvar) (operandByte g.carg0)
  | 6 => .unhold (operandVar g.cvar)
  | 7 => .guard (operandVar g.cvar) (match (g.carg0.extractLsb' 0 2).toNat with
    | 0 => .openAccess
    | 1 => .homeOnly
    | _ => .privateAccess)
  | 8 => .notice g.carg0 (g.stage.toList.take (g.carg1.extractLsb' 0 4).toNat)
  | 9 => .flush
  | 10 => .join
  | _ => .leave

/-! ## Steps 1 and 2 -/

theorem codeIsBad_of_range : ∀ code : BitVec 4, code.toNat = 0 ∨ 11 < code.toNat → codeIsBad code = true := by decide

theorem homeOf_operandVar (cvar : Halfword) : homeOf (operandVar cvar) = cvar.extractLsb' 8 4 := by
  rw [homeOf, operandVar]
  refine BitVec.eq_of_getLsbD_eq fun i lt => ?_
  simp only [BitVec.getLsbD_extractLsb', lt, decide_true, Bool.true_and, Nat.zero_add]
  rw [decide_eq_true (by omega), Bool.true_and]

/-- The level of a GUARD whose bits are not 3 (R109). -/
theorem stagedLevel_of_named {g : Staging} (named : g.carg0.extractLsb' 0 2 ≠ 3#2) : stagedLevel g = some
    (match (g.carg0.extractLsb' 0 2).toNat with
      | 0 => .openAccess
      | 1 => .homeOnly
      | _ => .privateAccess) := by
  have levels : ∀ x : BitVec 2, x ≠ 3#2 → (match x.toNat with
      | 0 => some Guard.openAccess
      | 1 => some .homeOnly
      | 2 => some .privateAccess
      | _ => none) = some (match x.toNat with
      | 0 => .openAccess
      | 1 => .homeOnly
      | _ => .privateAccess) := by decide
  exact levels _ named

section
variable {s : State}

theorem formBody_of_codeFails (fails : s.codeFails) : formBody s.nodeId s.port.staging = .error .badCode :=
  formBody_of_badCode (codeIsBad_of_range (stagedCode s.port.staging) fails) s.nodeId rfl

theorem formBody_of_argFails (fails : s.argFails) : formBody s.nodeId s.port.staging = .error .badArg := by
  have number : (stagedCode s.port.staging).toNat = s.stagedNumber := rfl
  obtain ⟨is, empty⟩ | ⟨is, zero⟩ | ⟨is, level⟩ | ⟨is, mask⟩ := fails <;> rw [formBody, number, is]
  · exact if_pos empty
  · exact if_pos zero
  · by_cases home : homeOf (stagedVar s.port.staging) = s.nodeId
    · have unnamed : s.port.staging.carg0.extractLsb' 0 2 = 3#2 := level.resolve_left fun away =>
        away ((homeOf_operandVar _).symm.trans home)
      have none' : stagedLevel s.port.staging = none := by rw [stagedLevel, unnamed]; rfl
      refine (if_pos home).trans ?_
      rw [none']
    · exact if_neg home
  · refine if_pos (mask.imp_right (Or.imp_right (Or.imp_left fun zero => ?_)))
    rw [stagedLength, zero]
    rfl

theorem number_of_code (code : ¬ s.codeFails) : s.stagedNumber = 1 ∨ s.stagedNumber = 2 ∨ s.stagedNumber = 3 ∨ s.stagedNumber = 4 ∨
    s.stagedNumber = 5 ∨ s.stagedNumber = 6 ∨ s.stagedNumber = 7 ∨ s.stagedNumber = 8 ∨ s.stagedNumber = 9 ∨ s.stagedNumber = 10 ∨
    s.stagedNumber = 11 := by
  omega

theorem formBody_of_args (code : ¬ s.codeFails) (args : ¬ s.argFails) :
    formBody s.nodeId s.port.staging = .ok (numberedBody s.stagedNumber s.port.staging) := by
  have number : (stagedCode s.port.staging).toNat = s.stagedNumber := rfl
  rw [not_or, not_or, not_or] at args
  obtain ⟨store, hold, guard, notice⟩ := args
  obtain is | is | is | is | is | is | is | is | is | is | is := number_of_code code <;> rw [formBody, number, is]
  case inr.inl => exact if_neg fun zero => store ⟨is, zero⟩
  case inr.inr.inr.inr.inl => exact if_neg fun zero => hold ⟨is, zero⟩
  case inr.inr.inr.inr.inr.inr.inl =>
    have home : homeOf (stagedVar s.port.staging) = s.nodeId := by
      by_contra away
      exact guard ⟨is, .inl fun same => away ((homeOf_operandVar _).trans same)⟩
    refine (if_pos home).trans ?_
    rw [stagedLevel_of_named fun three => guard ⟨is, .inr three⟩]
    rfl
  case inr.inr.inr.inr.inr.inr.inr.inl =>
    refine if_neg fun fails => notice ⟨is, fails.imp_right (Or.imp_right (Or.imp_left fun zero => ?_))⟩
    exact BitVec.eq_of_toNat_eq zero
  all_goals rfl

/-! ## Steps 3 and 4 -/

theorem numberedBody_credits (n : Nat) (g : Staging) : (numberedBody n g).credits = if n = 5 then 2 else 1 := by
  unfold numberedBody
  split <;> simp_all [Body.credits]

theorem stateAdmits_eq (p : Participation) (b : Body) : stateAdmits p b =
    (if b.code = .join then p == .offline else p == .online || (p == .draining && b.code == .unhold)) := by
  cases p <;> cases b <;> rfl

theorem numberedBody_join (n : Nat) (g : Staging) : (numberedBody n g).code = .join ↔ n = 10 := by
  unfold numberedBody
  split <;> simp_all [Body.code]

theorem numberedBody_unhold (n : Nat) (g : Staging) : (numberedBody n g).code = .unhold ↔ n = 6 := by
  unfold numberedBody
  split <;> simp_all [Body.code]

theorem stateAdmits_iff (g : Staging) : stateAdmits s.participation (numberedBody s.stagedNumber g) = true ↔ ¬ s.stateFails := by
  have unhold : ((numberedBody s.stagedNumber g).code == .unhold) = decide (s.stagedNumber = 6) := by
    rw [Bool.eq_iff_iff, beq_iff_eq, decide_eq_true_iff]
    exact numberedBody_unhold _ g
  rw [stateAdmits_eq, if_congr (numberedBody_join _ g) rfl rfl, unhold, State.stateFails]
  by_cases join : s.stagedNumber = 10
  · rw [if_pos join]
    cases s.participation <;> simp [join]
  · rw [if_neg join]
    cases s.participation <;> simp [join]

theorem hasRoom_iff (g : Staging) : hasRoom s (numberedBody s.stagedNumber g) = true ↔ ¬ s.roomFails := by
  rw [hasRoom, numberedBody_credits, Bool.and_eq_true, decide_eq_true_iff, decide_eq_true_iff, State.roomFails, not_or, Nat.not_le,
    Nat.not_lt]
  rfl

section
variable (code : ¬ s.codeFails) (args : ¬ s.argFails)
include code args

theorem checkSubmit_of_stateFails (fails : s.stateFails) : checkSubmit s = .error .wrongState := by
  rw [checkSubmit, formBody_of_args code args]
  exact if_neg fun admits => (stateAdmits_iff _).mp admits fails

section
variable (states : ¬ s.stateFails)
include states

theorem checkSubmit_of_roomFails (fails : s.roomFails) : checkSubmit s = .error .full := by
  rw [checkSubmit, formBody_of_args code args]
  exact (if_pos ((stateAdmits_iff _).mpr states)).trans (if_neg fun room => (hasRoom_iff _).mp room fails)

theorem checkSubmit_of_none (room : ¬ s.roomFails) : checkSubmit s = .ok (numberedBody s.stagedNumber s.port.staging) := by
  rw [checkSubmit, formBody_of_args code args]
  exact (if_pos ((stateAdmits_iff _).mpr states)).trans (if_pos ((hasRoom_iff _).mpr room))

end

end

end

end Sys2Proof.Machine

/-!
PROOF. A NOTICE starts behind a command that ends DENIED, and the submit obligation (R95 to R102, R132).
-/

namespace Sys2Proof.Machine

/-! ## A queued NOTICE behind a command that ends DENIED -/

/-- A NOTICE or barrier waits for every busy slot's command admitted before it (R100). -/
theorem eligible_eq_false_of_waits {busy : List Command} {d e : Command} (earlier : List Command) (present : d ∈ busy)
    (older : d.seq < e.seq) (ordered : (e.body.code == .notice || e.body.isBarrier) = true) : eligible busy earlier e = false := by
  have waits : busy.any (fun d => decide (d.seq < e.seq)) = true := List.any_eq_true.mpr ⟨d, present, decide_eq_true older⟩
  rw [eligible_eq, ordered, waits]
  simp

/-- With every slot FREE the NOTICE at the queue's head starts in slot 0 and plans its frame, and what waits for it stays
queued (R99 to R101). -/
theorem settle_starts_notice {u : State} {d : Command} {rest : List Command} {mask : NodeMask} {words : List Halfword}
    (idle : ∀ k : SlotIx, u.tracker.slots[k] = Slot.idle) (queue : u.port.queue = d :: rest) (body : d.body = .notice mask words)
    (waits : ∀ e ∈ rest, (e.body.code == .notice || e.body.isBarrier) = true ∧ d.seq < e.seq) :
    settle u = sendFrame 0 ⟨.notice, mask, words⟩ (startSlot 0 d rest u) := by
  have starts : startNext u = some (startSlot 0 d rest u) := by
    have next := startNext_eq_some (s := u) (k := 0) (i := 0) (c := d) (by rw [queue]; rfl) (by rw [idle]; rfl)
      (fun j lt => absurd lt (Nat.not_lt_zero _))
      (by rw [busyCommands_of_idle idle]; exact eligible_alone d) (fun j _ lt => absurd lt (Nat.not_lt_zero _))
    rw [next, queue]
    rfl
  have started : (startSlot 0 d rest u).tracker.slots[(0 : SlotIx)] = { Slot.idle with phase := .plan, command := some d } := by
    rw [startSlot_slot, if_pos rfl]
  have port : (startSlot 0 d rest u).port = { u.port with queue := rest } := (startSlot_frame 0 d rest u).2.1
  have others : ∀ j : SlotIx, j ≠ 0 → (startSlot 0 d rest u).tracker.slots[j] = Slot.idle := fun j ne => by
    rw [startSlot_slot, if_neg ne.symm, idle]
  generalize startSlot 0 d rest u = v at starts started port others
  have due : v.nextDue = some 0 := find_finRange (by rw [State.due, started]; rfl) fun j lt => absurd lt (Nat.not_lt_zero _)
  have plans : planSlot 0 v = sendFrame 0 ⟨.notice, mask, words⟩ v := planSlot_of_notice (by rw [started]) body
  have sending : (sendFrame 0 ⟨.notice, mask, words⟩ v).tracker.slots[(0 : SlotIx)] =
      { Slot.idle with phase := .send, command := some d, frame := some ⟨.notice, mask, words⟩ } := by
    rw [sendFrame, writeSlot_same, started]
    rfl
  have resting : ∀ j : SlotIx, j ≠ 0 → (sendFrame 0 ⟨.notice, mask, words⟩ v).tracker.slots[j] = Slot.idle := fun j ne => by
    rw [sendFrame, writeSlot_other ne, others j ne]
  have left : (sendFrame 0 ⟨.notice, mask, words⟩ v).port.queue = rest := congrArg Port.queue port
  rw [settle, Config.settleBound, settleFor_start (nextDue_of_no_plan fun k => by rw [idle]; nofun) starts, settleFor_plan due, plans]
  generalize sendFrame 0 ⟨.notice, mask, words⟩ v = w at sending resting left
  refine settleFor_quiet (nextDue_of_no_plan fun k => ?_) (startNext_eq_none (.inr fun i e found => ?_)) _
  · by_cases zero : k = 0
    · rw [zero, sending]
      nofun
    · rw [resting k zero]
      nofun
  · rw [left] at found
    obtain ⟨ordered, older⟩ := waits e (List.mem_of_getElem? found)
    refine eligible_eq_false_of_waits _ (List.mem_filterMap.mpr ⟨0, List.mem_finRange _, ?_⟩) older ordered
    rw [sending]

/-- A DENIED end with no other slot busy withdraws the command, and then the queue is considered (R130, R132). -/
theorem slotTurns_denied {u : State} {k : SlotIx} {c : Command}
    (command : u.tracker.slots[k].command = some c) (others : ∀ j : SlotIx, j ≠ k → u.tracker.slots[j] = Slot.idle) :
    slotTurns (some k) .denied u = settle (u.withdrawn k c .denied) := by
  have released : releaseEnded k .denied u = u.setCopy (releasedTable k u.copy) :=
    (if_pos rfl).trans (releaseReservations_eq k u)
  have none' : ∀ j : SlotIx, j < k → (u.setCopy (releasedTable k u.copy)).due j = false := fun j lt =>
    not_due_of_not_plan (by rw [State.setCopy_tracker, others j (ne_of_lt lt)]; nofun)
  rw [slotTurns, released, plansBelow_quiet none', deliver, endCommand_eq (status := .denied) command nofun]

theorem withdrawn_idle {u : State} {k : SlotIx} (c : Command) (status : Status)
    (others : ∀ j : SlotIx, j ≠ k → u.tracker.slots[j] = Slot.idle) (j : SlotIx) :
    (u.withdrawn k c status).tracker.slots[j] = Slot.idle := by
  rw [State.withdrawn, State.setParticipation_tracker, State.setTracker_tracker, slots_set_get]
  split
  · rfl
  · next ne => exact others j (Ne.symm ne)

/-! ## The start conditions as the obligation writes them -/

/-- The start conditions of R100 for the record at place `i` of the queue. -/
def State.mayStart (s : State) (i : Nat) (c : Command) : Bool :=
  let barrier := fun c : Command => c.body.code == .flush || c.body.code == .join || c.body.code == .leave
  let earlier := s.port.queue.take i
  let busy := fun p : Command → Bool => (List.finRange 4).any fun k => (s.tracker.slots[k].command).any p
  let names := fun d : Command => c.body.var?.isSome && d.body.var? == c.body.var?
  !(earlier.any names || busy names) &&
  (c.body.code == .unhold || !(earlier.any barrier || busy barrier)) &&
  (!(c.body.code == .notice || barrier c) || (earlier.isEmpty && !busy fun d => decide (d.seq < c.seq)))

/-- No record before place `n` of the queue may start. -/
def State.noneBefore (s : State) (n : Nat) : Bool :=
  (List.range n).all fun i => (s.port.queue[i]?).all fun c => !s.mayStart i c

theorem mayStart_eq (s : State) (i : Nat) (c : Command) :
    s.mayStart i c = eligible s.busyCommands (s.port.queue.take i) c := by
  rw [eligible_eq]
  simp only [isBarrier_eq, busyCommands_any]
  rfl

theorem noneBefore_iff (s : State) (n : Nat) : s.noneBefore n = true ↔
    ∀ (i : Nat) (c : Command), i < n → s.port.queue[i]? = some c → eligible s.busyCommands (s.port.queue.take i) c = false := by
  rw [State.noneBefore, List.all_eq_true]
  refine ⟨fun h i c lt found => ?_, fun h i mem => ?_⟩
  · have not_here := h i (List.mem_range.mpr lt)
    rw [found, Option.all_some, mayStart_eq, Bool.not_eq_true'] at not_here
    exact not_here
  · cases found : s.port.queue[i]? with
    | none => rfl
    | some c => rw [Option.all_some, mayStart_eq, h i c (List.mem_range.mp mem) found]; rfl

theorem startNext_eq_none_of_noneBefore {s : State}
    (h : (∀ k : SlotIx, s.tracker.slots[k].phase ≠ .free) ∨ s.noneBefore s.port.queue.length = true) : startNext s = none :=
  startNext_eq_none (h.imp_right fun none' i c found =>
    (noneBefore_iff s _).mp none' i c (List.getElem?_eq_some_iff.mp found).1 found)

/-! ## Admission -/

/-- The state right after admission: the credits taken, the record at the queue's tail, SUBMIT reading ACCEPTED (R97, R98). -/
def State.admitted (s : State) : State :=
  (s.setCompletion { s.completion with free := s.completion.free - (if s.stagedNumber = 5 then 2 else 1) }).setPort
    { s.port with
      result := .accepted
      queue := s.port.queue ++ [⟨s.port.staging.cmd.extractLsb' 0 8, s.port.nextSeq, numberedBody s.stagedNumber s.port.staging⟩]
      nextSeq := s.port.nextSeq + 1 }

theorem enqueue_numberedBody (s : State) : enqueue (numberedBody s.stagedNumber s.port.staging) s = s.admitted := by
  rw [enqueue, numberedBody_credits]
  rfl

section
variable {s : State} (code : ¬ s.codeFails) (args : ¬ s.argFails) (states : ¬ s.stateFails) (room : ¬ s.roomFails)
include code args states room

theorem submit_eq_settle_admitted : submit s = settle s.admitted := by
  rw [submit_of_ok (checkSubmit_of_none code args states room), enqueue_numberedBody]

theorem submit_port_of_admitted : (submit s).port.result = .accepted ∧ (submit s).port.nextSeq = s.port.nextSeq + 1 ∧
    (submit s).port.staging = s.port.staging := by
  have kept : PortKept s.admitted (settle s.admitted) := portKept_settle _
  rw [submit_eq_settle_admitted code args states room]
  rw [PortKept] at kept
  rw [kept]
  exact ⟨rfl, rfl, rfl⟩

theorem submit_eq_admitted (rest : ∀ k : SlotIx, s.tracker.slots[k].phase ≠ .plan)
    (stays : (∀ k : SlotIx, s.tracker.slots[k].phase ≠ .free) ∨ s.admitted.noneBefore s.admitted.port.queue.length = true) :
    submit s = s.admitted := by
  rw [submit_eq_settle_admitted code args states room]
  exact settle_quiet (nextDue_of_no_plan rest) (startNext_eq_none_of_noneBefore stays)

end

/-- What a start changes: the queue, its slot, participation for JOIN and LEAVE, and a JOIN's inhibit flag (R101, R181, R191). -/
theorem startSlot_fields (k : SlotIx) (c : Command) (queue : List Command) (s : State) :
    (startSlot k c queue s).tracker =
      { s.tracker with slots := s.tracker.slots.set k { Slot.idle with phase := .plan, command := some c } } ∧
    (startSlot k c queue s).participation = (match c.body.code with
      | .join => .joining
      | .leave => .draining
      | _ => s.participation) ∧
    (startSlot k c queue s).link = (if c.body.code = .join then { s.link with inhibit := false } else s.link) ∧
    (startSlot k c queue s).notices = s.notices := by
  rw [startSlot]
  cases c.body <;> exact ⟨rfl, rfl, rfl, rfl⟩

/-- Settles O4: the checks by `formBody` in order, starts by the first eligible record, and the NOTICE behind a DENIED end. -/
theorem submitChecksInOrder : Obligations.SubmitChecksInOrder := by
  unfold Obligations.SubmitChecksInOrder
  refine ⟨fun s => ⟨fun code => submit_of_error (checkSubmit_of_formBody_error (formBody_of_codeFails code)),
    fun _ args => submit_of_error (checkSubmit_of_formBody_error (formBody_of_argFails args)),
    fun code args states => submit_of_error (checkSubmit_of_stateFails code args states),
    fun code args states room => submit_of_error (checkSubmit_of_roomFails code args states room),
    fun code args states room => ?_⟩, fun s h => startNext_eq_none_of_noneBefore h, ?_, ?_⟩
  · obtain ⟨result, nextSeq, staging⟩ := submit_port_of_admitted code args states room
    exact ⟨result, nextSeq, staging, fun rest stays => submit_eq_admitted code args states room rest stays⟩
  · intro s k i c found free lowest starts first
    have eligible' := (mayStart_eq s i c).symm.trans starts
    have next := startNext_eq_some found free lowest eligible' fun j d lt => (noneBefore_iff s i).mp first j d lt
    obtain ⟨_, port, home, copy, holds, completion⟩ := startSlot_frame k c (s.port.queue.eraseIdx i) s
    obtain ⟨tracker, participation, link, notices⟩ := startSlot_fields k c (s.port.queue.eraseIdx i) s
    exact ⟨_, next, port, tracker, participation, link, home, copy, holds, completion, notices⟩
  · intro s k c d rest mask words tn queue body por close sender tenure denied _ command _ _ others waits
    have turns : exec .tenureEnd s = .next (settle ((linkIdle (dropBuffers s)).withdrawn k c .denied)) := by
      rw [exec_tenureEnd_of_close por close tenure, endTenure_of_uncommitted (by rw [denied]; nofun), deliveryOf, denied, sender]
      exact congrArg Host.Outcome.next (slotTurns_denied command others)
    have waiting : ∀ e ∈ rest, (e.body.code == .notice || e.body.isBarrier) = true ∧ d.seq < e.seq := fun e mem => by
      have at' := List.all_eq_true.mp waits e mem
      rw [Bool.and_eq_true, decide_eq_true_iff] at at'
      rw [isBarrier_eq]
      exact at'
    have starts := settle_starts_notice (withdrawn_idle (u := linkIdle (dropBuffers s)) c .denied others) queue body waiting
    obtain ⟨_, port, _, _, _, completion⟩ := startSlot_frame 0 d rest ((linkIdle (dropBuffers s)).withdrawn k c .denied)
    refine ⟨_, turns, ?_, ?_, fun j => ?_⟩
    · rw [starts]
      exact port
    · rw [starts]
      exact congrArg CompletionUnit.queue completion
    · rw [starts, sendFrame]
      by_cases zero : j = 0
      · rw [if_pos zero, zero, writeSlot_same, startSlot_slot, if_pos rfl]
        rfl
      · rw [if_neg zero, writeSlot_other zero, startSlot_slot, if_neg (Ne.symm zero)]
        exact withdrawn_idle (u := linkIdle (dropBuffers s)) c .denied others j

end Sys2Proof.Machine
